-- ==== Sys2Proof/Word.lean ====
section
/-! DEFINITION. The words of the K7420's boundary and the limits of its counts (Conventions of 00_scope.md). -/

namespace Sys2Proof

/-- One byte of a cell, a section or a record. -/
abbrev Byte := BitVec 8

/-- A LOCAL time: milliseconds held modulo 2^32 (R35). -/
abbrev LocalTime := BitVec 32

/-- A NETWORK time: ticks held modulo 2^40 (R36). -/
abbrev NetTime := BitVec 40

/-- A control word: 16 bytes the part never interprets (R99). -/
abbrev ControlWord := BitVec 128

/-- The largest wall second, 4,294,967,295 (R45). -/
def wallMax : Nat := 4294967295

/-- The largest value of a 16-bit saturating count. -/
def max16 : Nat := 65535

/-- The largest value of a 32-bit saturating count. -/
def max32 : Nat := 4294967295

/-- One more, stopping at the largest value and holding there (a *saturating* count, 00_scope.md). -/
def satInc (limit n : Nat) : Nat := if n < limit then n + 1 else n

/-- The sync byte B8H (R187). -/
def syncByte : Byte := 0xB8#8

/-- Ticks of NETWORK time in a nominal second (R36). -/
def ticksPerSecond : Nat := 8000000

end Sys2Proof
end

