-- ==== Sys2Proof/Syntax.lean ====
section
/-! DEFINITION. The commands of the K7420: one constructor of `Instr` for each row of spec/opcode_table.json.
A row's operands are what comes from outside the part with it (bytes on a port, the cause of a reset) or
what picks one of several like occasions (a port, a poster). What a step takes from inside the part (a
waiting section, a hand-over, the request in progress with its parameters) stands in State. -/

namespace Sys2Proof

/-- The three cell inputs (00_scope.md). -/
inductive Port where
  | a
  | b
  | l
  deriving DecidableEq, Repr

/-- The causes of a reset, in the order in which R181 lists them. -/
inductive ResetCause where
  | power
  | pin
  | request
  | cold
  deriving DecidableEq, Repr

/-- The two blocks that post gate sources (R163). -/
inductive Poster where
  | dsc
  | plu
  deriving DecidableEq, Repr

/-- The part's steps, each whole and indivisible (95_what_each_step_holds.md). -/
inductive Instr where
  | warmReset (cause : ResetCause)
  | resetPinRelease
  | coldStart
  | syncSearch (port : Port) (byte : Byte)
  | cellArrival (port : Port) (bytes : List Byte)
  | portLCell (strobe : Bool) (bytes : List Byte)
  | idleWatchExpiry (port : Port)
  | holdoverWatchExpiry
  | secondAdvance
  | timeSection
  | offsetChangeFiring
  | firingPass
  | scpWallSet
  | scpRewind
  | scpOffsetChange
  | scpProfileChange
  | addReminder
  | dropReminder
  | holdReminders
  | releaseReminders
  | setRange
  | directorySection
  | tune
  | portALockReport
  | portAHuntReport
  | tunerReady
  | tunerFail
  | tuneTimeout
  | mapSection
  | noMapTimeout
  | armingReport
  | waitKeyTimeout
  | forcedSplice
  | cancel
  | setAudio
  | standby
  | wake
  | addRoute
  | dropRoute
  | keySection
  | entChangeNotice
  | dscWallSet
  | entitlementSection
  | entExpiryFiring
  | enuWallSet
  | purchase
  | guideSection
  | eventEndFiring
  | gdsContextChange
  | gdsRewind
  | gdsWallSet
  | dayRollPurge
  | ratingSection
  | nowEventNotice
  | pluContextChange
  | windowStatesHandover
  | gateStateHandover
  | budgetAccrualMinute
  | dayRollFiring
  | pluOffsetChange
  | pluWallSet
  | selectProfile
  | setProfileLimits
  | lockService
  | unlockService
  | setBudget
  | override
  | endOverride
  | overrideEndFiring
  | hostMute
  | gatePosting (poster : Poster)
  | pgtContextChange
  | gwnWallSet
  | gridSet
  | cursorMove
  | gridRead
  | requestIntake
  | reset
  | readTable
  | setEventMask
  | dataLaneCellSent
  | mainSupplyLoss
  | budgetAccrualSecond
  deriving DecidableEq, Repr

end Sys2Proof
end

