-- ==== Sys2Proof/Decode.lean ====
section
/-! DEFINITION. Which command a word spells. The K7420 has no instruction words: spec/opcode_table.json gives no row any
bits, since a command is an occasion inside or at the edge of the part and no encoded word (log entry 27). -/

namespace Sys2Proof

/-- The command that a word of the table's bits spells: none, since no row has bits. -/
def decodeTableWord (_nbits _w : Nat) : Option Instr := none

end Sys2Proof
end

