-- ==== Sys2Proof/Config.lean ====
section
/-! DEFINITION. What one part fixes and the manual does not, and the values the manual leaves open.
Every constant here is opaque: no proof can lean on a value of it. -/

namespace Sys2Proof

/-- The fused 32-bit unit address (R23, R181). -/
opaque Config.unitAddress : BitVec 32

/-- The part revision as READ_TABLE(IDENT) returns it; R181 states neither its value nor its width
(log entry 6). -/
opaque Config.partRevision : List Byte

/-- The part's keyed integrity function over the bytes of a KEY or ENTITLEMENT body that precede its
check value (R103, R119, R189); 00_scope.md leaves its internals undocumented (log entry 5). -/
opaque Config.integrity : List Byte → BitVec 128

/-- The unwrapping of a control word with the part's device key (R105; log entry 5). -/
opaque Config.unwrap : BitVec 128 → ControlWord

/-- Byte `k` of the payload that the descrambling cipher makes of a scrambled payload under a control
word (R108; log entry 5). -/
opaque Config.descrambledByte : ControlWord → List Byte → Nat → Byte

/-- A padding byte of a status cell: the draw that names the cell, and the byte's position. R184 says that
the end of a record's last payload is padding and gives no value (log entry 7). -/
opaque Config.paddingByte : Nat → Nat → Byte

/-- The parity field that KEY_FAULT carries when the faulty body is too short to give one (R112 states no
value; log entry 8). -/
opaque Config.absentParityField : Byte

end Sys2Proof
end

