-- ==== Sys2Proof/Machine/State.lean ====
section
/-! DEFINITION. Every piece of state the manual gives the K7420, block by block, and the part right after a cold
start. Plain data only. Views that the manual defines from other state (free buffers, the remaining credit, the
attention line, ready, a service's event count) are functions in Machine/Flags.lean, so each item has one home. -/

namespace Sys2Proof.Machine

/-! ### Why a step can stop -/

/-- Why the part stops with a fault. -/
inductive Fault where
  /-- Raised by nobody: the manual stops the part in no case, so every command answers a next state. Safe. -/
  | neverRaised
  deriving DecidableEq, Repr

/-- Why a command has no meaning. -/
inductive Refusal where
  /-- Raised by exec for a command that has no meaning yet; no arm raises it now. Safe. -/
  | notModelled (mnemonic : String)
  deriving DecidableEq, Repr

/-! ### Cells (R187) -/

/-- The parity field: CLEAR, the reserved value 1 (on the lanes the discontinuity indication), EVEN, ODD. -/
inductive Parity where
  | clear
  | reserved
  | even
  | odd
  deriving DecidableEq, Repr

/-- A scrambled parity: the name of one of a key record's two slots (R99). -/
inductive Slot where
  | even
  | odd
  deriving DecidableEq, Repr

/-- A cell: the fields of its 4-byte header and its 156-byte payload. -/
structure Cell where
  sync : Byte
  start : Bool
  marker : Bool
  parity : Parity
  stream : BitVec 12
  continuity : BitVec 4
  reserved : BitVec 4
  payload : List Byte
  deriving DecidableEq, Repr

/-! ### CIN: Cell Intake (R8) -/

/-- The sync states of a port (R2, R3). -/
inductive SyncState where
  | hunt
  | verify
  | locked
  deriving DecidableEq, Repr

/-- The record of Port A or Port B, with the framing's working state (R2, R3, R6, R8). -/
structure SerialPort where
  /-- sync state -/
  sync : SyncState
  /-- good-sync count of R2 -/
  goodSync : Nat
  /-- consecutive-failure count of R3 -/
  failures : Nat
  /-- idle flag of R6 -/
  idle : Bool
  /-- the LOCAL time from which the idle watch counts, none while it is stopped (R6) -/
  idleSince : Option LocalTime
  received : Nat
  syncErrors : Nat
  syncLosses : Nat
  parityErrors : Nat
  unrouted : Nat
  /-- the bytes taken and not yet framed or given up: from the candidate in VERIFY, of the cell in progress
  in LOCKED, none in HUNT (R2, R3) -/
  taken : List Byte
  deriving DecidableEq, Repr

/-- The record of Port L, which is LOCKED from every reset and stays LOCKED (R4), with the cell its strobe began
(R1), none between cells. -/
structure StrobedPort where
  received : Nat
  syncErrors : Nat
  parityErrors : Nat
  unrouted : Nat
  foreign : Nat
  framing : Option (List Byte)
  deriving DecidableEq, Repr

/-- Cell Intake. The unkeyed-cell count is Port A's alone (R8). -/
structure Cin where
  a : SerialPort
  b : SerialPort
  l : StrobedPort
  unkeyedA : Nat
  deriving DecidableEq, Repr

/-! ### RTB and SAS: routes, assembly contexts and delivery queues (R9, R21, R29) -/

/-- The section classes the part knows, in the order of R33. -/
inductive SectionClass where
  | time
  | directory
  | guide
  | entitlement
  | map
  | key
  | rating
  deriving DecidableEq, Repr

/-- What a route does with its cells (R9); SECTIONS carries its class set, in the order of R9. -/
inductive RouteUse where
  | video
  | audio
  | data
  | sections (classes : List SectionClass)
  | stamps
  | control
  | pass
  deriving DecidableEq, Repr

/-- LIVE routes serve the presented service and the fixed streams; ARMED routes are prepared (R9). -/
inductive RouteState where
  | live
  | armed
  deriving DecidableEq, Repr

/-- Who owns a route (R9). -/
inductive Owner where
  | fixed
  | change
  | host
  deriving DecidableEq, Repr

/-- The key record a route is bound to (R9). -/
inductive Binding where
  | active
  | arming
  | none
  deriving DecidableEq, Repr

/-- The state of an assembly context; ASSEMBLING holds the section's class, its total length and the bytes
collected in its buffer (R21). -/
inductive Assembly where
  | idle
  | assembling (cls : SectionClass) (total : Nat) (collected : List Byte)
  | skipping
  deriving DecidableEq, Repr

/-- The nine counts of an assembly context (R32). -/
structure SectionCounts where
  delivered : Nat
  classSkip : Nat
  lengthSkip : Nat
  addressSkip : Nat
  noBuffer : Nat
  abandoned : Nat
  stray : Nat
  crcFail : Nat
  overrun : Nat
  deriving DecidableEq, Repr

/-- One assembly context (R21). -/
structure Context where
  asm : Assembly
  counts : SectionCounts
  deriving DecidableEq, Repr

/-- One route (R9). A route of use SECTIONS carries its assembly context, which so begins and ends with the
entry (R21, R27); a route of another use carries none. -/
structure Route where
  port : Port
  stream : Nat
  use : RouteUse
  state : RouteState
  owner : Owner
  binding : Binding
  /-- expected continuity, none for UNSET -/
  expected : Option (BitVec 4)
  discontinuities : Nat
  cells : Nat
  ctx : Option Context
  deriving DecidableEq, Repr

/-- A checked section, as it is handed to its consumer (R30). -/
structure Section where
  port : Port
  stream : Nat
  cls : SectionClass
  total : Nat
  version : Nat
  key : Nat
  bits : Nat
  body : List Byte
  deriving DecidableEq, Repr

/-- For each class the section that its consumer is applying, then those waiting in its delivery queue, the oldest first (R29,
R30). -/
structure Queues where
  time : List Section
  directory : List Section
  guide : List Section
  entitlement : List Section
  map : List Section
  key : List Section
  rating : List Section
  deriving DecidableEq, Repr

/-! ### TMB: the Time Base (R35 to R55) -/

/-- The recovery states (R37). -/
inductive Recovery where
  | free
  | acquire
  | locked
  | holdover
  deriving DecidableEq, Repr

/-- The Time Base. -/
structure Tmb where
  /-- LOCAL time (R35) -/
  localTime : LocalTime
  /-- NETWORK time (R36) -/
  nt : NetTime
  /-- the carried fraction of a tick, in 2^-24 ticks (R36) -/
  ntFraction : Nat
  /-- the rate trim T (R36) -/
  trim : Int
  recovery : Recovery
  /-- good count G -/
  good : Nat
  steps : Nat
  trimLimit : Bool
  lastStamp : Option LocalTime
  lastError : Option Int
  stamps : Nat
  /-- WALL_VALID (R45) -/
  wallValid : Bool
  /-- W (R45) -/
  w : Nat
  /-- N_s (R45) -/
  ns : NetTime
  /-- the local offset in minutes (R51) -/
  offset : Int
  /-- the pending offset change: change time and new offset (R52) -/
  pendingChange : Option (Nat × Int)
  /-- TIME sections applied and rejected (R55) -/
  applied : Nat
  rejected : Nat
  deriving DecidableEq, Repr

/-! ### SCP: the Schedule Comparator (R56 to R73) -/

/-- The five device kinds (R56). -/
inductive DeviceKind where
  | eventEnd
  | dayRoll
  | entExpiry
  | overrideEnd
  | offsetChange
  deriving DecidableEq, Repr

/-- The kind of a target-table entry; a reminder carries its id, its period and its due-held mark (R56). -/
inductive EntryKind where
  | reminder (id : Nat) (period : Nat) (held : Bool)
  | device (kind : DeviceKind)
  deriving DecidableEq, Repr

/-- One entry of the target table (R56). -/
structure Entry where
  kind : EntryKind
  due : Nat
  service : Option Nat
  event : Option Nat
  deriving DecidableEq, Repr

/-- One viewing-hours range; no profile for an unused range (R69). -/
structure HoursRange where
  profile : Option Nat
  lower : Nat
  upper : Nat
  contains : Bool
  deriving DecidableEq, Repr

/-- The Schedule Comparator. -/
structure Scp where
  /-- the target table, in ascending order of due time with ties in insertion order -/
  target : List Entry
  /-- the reminder hold (R60) -/
  hold : Bool
  /-- the value of W of the last firing pass, none before the first (R62) -/
  lastPass : Option Nat
  /-- the eight ranges -/
  ranges : List HoursRange
  /-- the window states of profiles 0 to 3: true for open (R70) -/
  windows : List Bool
  /-- the minute of the last evaluation (R71) -/
  lastMinute : Option Nat
  deriving DecidableEq, Repr

/-! ### SDR: the Service Directory (R74) -/

/-- One service record. -/
structure Service where
  number : Nat
  frequency : Nat
  modulation : Nat
  mapStream : Nat
  tiers : List Nat
  hidden : Bool
  name : List Byte
  segment : Nat
  deriving DecidableEq, Repr

/-- The Service Directory. -/
structure Sdr where
  /-- the records, in ascending service-number order -/
  services : List Service
  /-- the stored versions of segments 0 to 15, none for ABSENT -/
  versions : List (Option Nat)
  applied : Nat
  rejected : Nat
  entriesRejected : Nat
  entriesDropped : Nat
  deriving DecidableEq, Repr

/-! ### CCE: the presentation context and the Channel Change Engine (R78, R79) -/

/-- A 3-letter language. -/
structure Lang where
  l0 : Byte
  l1 : Byte
  l2 : Byte
  deriving DecidableEq, Repr

/-- The kinds of component (R189). -/
inductive ComponentKind where
  | video
  | audio
  | data
  deriving DecidableEq, Repr

/-- One component of a programme map. -/
structure Component where
  stream : Nat
  kind : ComponentKind
  lang : Option Lang
  deriving DecidableEq, Repr

/-- A programme map in use: its version, components and key stream. -/
structure ProgMap where
  version : Nat
  components : List Component
  keyStream : Option Nat
  deriving DecidableEq, Repr

/-- The streams chosen for, or feeding, the three lanes. -/
structure LaneStreams where
  video : Option Nat
  audio : Option Nat
  data : Option Nat
  deriving DecidableEq, Repr

/-- The presentation context while it is PRESENTING (R78). -/
structure Presentation where
  service : Nat
  frequency : Nat
  mapStream : Nat
  map : ProgMap
  live : LaneStreams
  audio : Option Lang
  since : LocalTime
  forced : Bool
  deriving DecidableEq, Repr

/-- The engine states (R79). -/
inductive Engine where
  | idle
  | tuning
  | waitMap
  | waitKey
  | waitSplice
  deriving DecidableEq, Repr

/-- The change record (R79). The tuning target and the marks count in TUNING alone; the map is none before
arming, and the parity is the most recent scrambled parity observed, none for NONE. -/
structure Change where
  service : Nat
  frequency : Nat
  modulation : Nat
  mapStream : Nat
  audio : Option Lang
  phaseStart : LocalTime
  tuningTarget : Nat
  readyMark : Bool
  lockMark : Bool
  map : Option ProgMap
  parity : Option Slot
  deriving DecidableEq, Repr

/-- The Channel Change Engine. -/
structure Cce where
  engine : Engine
  standby : Bool
  tuned : Option Nat
  change : Option Change
  pendingTune : Option (Nat × Option Lang)
  /-- the last service, of the retained store -/
  lastService : Option Nat
  forcedSplices : Nat
  pendingReplaced : Nat
  badMaps : Nat
  /-- the presentation context, none while it is NONE -/
  presented : Option Presentation
  deriving DecidableEq, Repr

/-- The reasons of CHANGE_DONE, in the order of R80. -/
inductive DoneReason where
  | ok
  | forced
  | tuner
  | tuneTimeout
  | noMap
  | noRoute
  | noService
  | cancelled
  deriving DecidableEq, Repr

/-! ### DSC: the Descrambler (R99) -/

/-- Access criteria: a tier list, or an event criterion with its price. -/
inductive Criteria where
  | tiers (list : List Nat)
  | event (id : Nat) (price : Nat)
  deriving DecidableEq, Repr

/-- The verdicts. -/
inductive Verdict where
  | unknown
  | entitled
  | notEntitled
  deriving DecidableEq, Repr

/-- A claimed key record; a slot is none when EMPTY. -/
structure KeyRecord where
  service : Nat
  stream : Nat
  criteria : Option Criteria
  verdict : Verdict
  even : Option ControlWord
  odd : Option ControlWord
  live : Option Slot
  checkFailures : Nat
  liveRefusals : Nat
  noKeyCells : Nat
  deriving DecidableEq, Repr

/-- The Descrambler; a record is none when free. -/
structure Dsc where
  active : Option KeyRecord
  arming : Option KeyRecord
  applied : Nat
  ignored : Nat
  faulted : Nat
  /-- the two gate sources as last posted -/
  noKey : Bool
  notEntitled : Bool
  deriving DecidableEq, Repr

/-! ### ENU: the Entitlement Unit (R114 to R118) -/

/-- An entitlement: a tier and its expiry. -/
structure Entitlement where
  tier : Nat
  expiry : Nat
  deriving DecidableEq, Repr

/-- An event grant. -/
structure Grant where
  service : Nat
  event : Nat
  expiry : Nat
  deriving DecidableEq, Repr

/-- A purchase record. -/
structure PurchaseRecord where
  seq : Nat
  service : Nat
  event : Nat
  price : Nat
  wall : Nat
  deriving DecidableEq, Repr

/-- The Entitlement Unit. -/
structure Enu where
  table : List Entitlement
  grants : List Grant
  granted : Nat
  spent : Nat
  /-- the next sequence number, none for EXHAUSTED -/
  nextSeq : Option Nat
  log : List PurchaseRecord
  /-- the group assignment: group number and member position -/
  group : Option (Nat × Nat)
  applied : Nat
  checkFailed : Nat
  formFailed : Nat
  tiersDropped : Nat
  deriving DecidableEq, Repr

/-! ### GDS: the Guide Store (R132 to R134, R141) -/

/-- A subset of the advisory flags A, B, C, D: bit 0 is A (R189). -/
abbrev Advisory := BitVec 4

/-- A guide event record; no price when absent (R133). -/
structure GuideEvent where
  service : Nat
  segment : Nat
  id : Nat
  start : Nat
  duration : Nat
  age : Nat
  flags : Advisory
  category : Nat
  price : Option Nat
  title : List Byte
  deriving DecidableEq, Repr

/-- A guide service record; its event count is `State.serviceEvents` (R132). -/
structure GuideService where
  number : Nat
  versions : List (Option Nat)
  deriving DecidableEq, Repr

/-- A now-event as the now record and the now-event notice carry it (R141, R143). -/
structure NowEvent where
  id : Nat
  start : Nat
  stop : Nat
  age : Nat
  flags : Advisory
  deriving DecidableEq, Repr

/-- The ten counts of R134. -/
structure GuideCounts where
  applied : Nat
  rejected : Nat
  servicesRefused : Nat
  outOfSpan : Nat
  noLength : Nat
  overlapping : Nat
  displaced : Nat
  guideFull : Nat
  evicted : Nat
  purged : Nat
  deriving DecidableEq, Repr

/-- The Guide Store. -/
structure Gds where
  services : List GuideService
  /-- the event records in store order -/
  events : List GuideEvent
  counts : GuideCounts
  followed : Option Nat
  /-- the now record: the followed service and its now-event (R141) -/
  now : Option (Nat × NowEvent)
  deriving DecidableEq, Repr

/-! ### PLU: the Parental Limit Unit (R148, R151, R160, R165) -/

/-- The budget modes (R148). -/
inductive BudgetMode where
  | none
  | daily
  | once
  deriving DecidableEq, Repr

/-- One viewer profile; `blockUnrated` is the unrated policy BLOCK. -/
structure Profile where
  ceiling : Nat
  blocked : Advisory
  blockUnrated : Bool
  follow : Bool
  mode : BudgetMode
  budget : Nat
  latch : Nat
  used : Nat
  seconds : Nat
  warned : Bool
  locked : List Nat
  deriving DecidableEq, Repr

/-- The presented in-stream rating (R151). -/
structure StreamRating where
  service : Nat
  version : Nat
  age : Nat
  flags : Advisory
  deriving DecidableEq, Repr

/-- The prepared in-stream rating (R151). -/
structure PreparedRating where
  service : Nat
  mapStream : Nat
  version : Nat
  age : Nat
  flags : Advisory
  deriving DecidableEq, Repr

/-- The guide rating (R151). -/
structure GuideRating where
  service : Nat
  event : Nat
  age : Nat
  flags : Advisory
  deriving DecidableEq, Repr

/-- The current rating, by source (R151, R154). -/
inductive CurrentRating where
  | inStream (age : Nat) (flags : Advisory)
  | guide (event : Nat) (age : Nat) (flags : Advisory)
  | unrated
  | none
  deriving DecidableEq, Repr

/-- The scope of an override: the service named, or none for ALL (R160). -/
structure Override where
  scope : Option Nat
  stop : Nat
  deriving DecidableEq, Repr

/-- Why an override ended, in the order of R161. -/
inductive OverrideCause where
  | expired
  | ended
  | profile
  | splice
  | standby
  deriving DecidableEq, Repr

/-- What the PLU has last posted to the gate: its five sources and the mask (R163). -/
structure PluPosting where
  rating : Bool
  locked : Bool
  hours : Bool
  budget : Bool
  hostMute : Bool
  mask : Bool
  deriving DecidableEq, Repr

/-- The Parental Limit Unit. -/
structure Plu where
  profiles : List Profile
  active : Nat
  dayNumber : Option Int
  override : Option Override
  presentedRating : Option StreamRating
  preparedRating : Option PreparedRating
  guideRating : Option GuideRating
  current : CurrentRating
  /-- the window states as last handed on: true for OPEN (R155) -/
  windows : List Bool
  /-- the gate state as last handed on: true for OPEN (R157) -/
  gateOpen : Bool
  /-- whether the accrual runs (R157) -/
  accruing : Bool
  /-- the milliseconds accrued towards the next second (R157) -/
  remainder : Nat
  posted : PluPosting
  applied : Nat
  ignored : Nat
  rejected : Nat
  deriving DecidableEq, Repr

/-! ### PGT: the Presentation Gate (R163) -/

/-- The seven gate sources, in the order of R163. -/
structure Sources where
  noKey : Bool
  notEntitled : Bool
  rating : Bool
  locked : Bool
  hours : Bool
  budget : Bool
  hostMute : Bool
  deriving DecidableEq, Repr

/-- The gate record: the presented service is none while the presentation state is NONE. -/
structure Pgt where
  sources : Sources
  /-- true while the mask is RATING, LOCKED, HOURS and BUDGET -/
  mask : Bool
  presented : Option Nat
  isOpen : Bool
  lastChange : LocalTime
  emitted : Nat
  deriving DecidableEq, Repr

/-! ### GWN: the Guide Window (R168) -/

/-- The window record. -/
structure Gwn where
  top : Nat
  rows : Nat
  start : Option Nat
  columns : Nat
  cursorRow : Nat
  cursorTime : Option Nat
  deriving DecidableEq, Repr

/-! ### RQH and RPQ: requests, replies and event records (R177 to R184) -/

/-- A decoded request: its parameters as numbers, read as R190 lays them out. -/
inductive Request where
  | reset
  | readTable (table first count : Nat)
  | setEventMask (classes enable : Nat)
  | addRoute (port stream : Nat)
  | dropRoute (port stream : Nat)
  | tune (service : Nat) (audio : Lang)
  | cancel
  | tunerReady (frequency : Nat)
  | tunerFail (frequency : Nat)
  | setAudio (audio : Lang)
  | standby
  | wake (resume : Nat)
  | addReminder (id due period service event presence : Nat)
  | dropReminder (id : Nat)
  | holdReminders
  | releaseReminders
  | setRange (index profile lower upper : Nat)
  | purchase (service event : Nat)
  | selectProfile (profile : Nat)
  | setProfileLimits (profile ceiling blocked policy follow : Nat)
  | setBudget (profile mode minutes timing : Nat)
  | lockService (profile service : Nat)
  | unlockService (profile service : Nat)
  | override (minutes scope : Nat)
  | endOverride
  | hostMute (value : Nat)
  | gridSet (top rows columns start : Nat)
  | cursorMove (direction : Nat)
  | gridRead
  deriving DecidableEq, Repr

/-- The request in progress: its tag, what it asks, and the records reserved for it in the reply queue (R177). -/
structure InProgress where
  tag : Byte
  request : Request
  reserved : Nat
  deriving DecidableEq, Repr

/-- The Request Handler. The intake queue holds the payloads of request cells in arrival order; `stopped` is set
from a RESET's reply on, when the RQH takes no further request (R177, R185). -/
structure Rqh where
  intake : List (List Byte)
  inProgress : Option InProgress
  stopped : Bool
  deriving DecidableEq, Repr

/-- The result codes, in the order of R191. -/
inductive Result where
  | ok
  | accepted
  | badRequest
  | badParam
  | full
  | duplicate
  | notFound
  | noService
  | noTime
  | timePast
  | standby
  | notWaiting
  | tooLate
  | noRoute
  | notOffered
  | noCredit
  | already
  | logFull
  | grantFull
  deriving DecidableEq, Repr

/-- The classes of event record, in the order of R183. -/
inductive EventClass where
  | input
  | time
  | channel
  | gate
  | access
  | schedule
  | parental
  | guide
  deriving DecidableEq, Repr

/-- What INPUT_STATE reports of a port (R2, R3, R6). -/
inductive InputState where
  | locked
  | lost
  | idle
  | active
  deriving DecidableEq, Repr

/-- The records a faulty KEY section matched (R112). -/
inductive Matched where
  | active
  | arming
  | both
  deriving DecidableEq, Repr

/-- Why a KEY section was discarded (R103). -/
inductive KeyFault where
  | check
  | format
  deriving DecidableEq, Repr

/-- What changed the entitlements (R124). -/
inductive EntCause where
  | entitle
  | revoke
  | expiry
  | purchase
  deriving DecidableEq, Repr

/-- What changed the credit (R124). -/
inductive CreditCause where
  | credit
  | purchase
  deriving DecidableEq, Repr

/-- The nineteen event records with the fields their rules list, in the order of R191's codes. -/
inductive Event where
  | inputState (port : Port) (state : InputState)
  | clockState (recovery : Recovery) (steps : Nat) (trim : Int) (error : Option Int)
  | wallSet (w : Nat) (offset : Int)
  | wallRewound (before after : Nat)
  | directoryChanged (segment version count : Nat)
  | tuneRequest (service frequency modulation : Nat)
  | changeDone (service : Nat) (reason : DoneReason)
  | mapChanged (service version : Nat) (live : LaneStreams) (keyDiffers : Bool)
  | routeDisplaced (port : Port) (stream : Nat)
  | gateChange (before after : Sources) (openBefore openAfter mask : Bool) (service : Option Nat)
  | keyFault (stream : Nat) (matched : Matched) (reason : KeyFault) (parity : Byte)
  | entChanged (cause : EntCause) (entries grants : Nat) (earliest : Option Nat)
  | creditChanged (cause : CreditCause) (granted spent count : Nat) (lowest : Option Nat)
  | reminderDue (id due periods w : Nat) (service event : Option Nat)
  | budgetWarn (profile remaining : Nat)
  | budgetSpent (profile used budget : Nat)
  | dayRoll (day before : Int)
  | overrideEnd (cause : OverrideCause) (scope : Option Nat)
  | guideChanged (service segment version count store : Nat) (others : Bool)
  deriving DecidableEq, Repr

/-- One record of the reply queue (R179, R182, R191). -/
inductive Record where
  | reply (code tag : Byte) (result : Result) (more endMark : Bool) (data : List Byte)
  | event (body : Event) (lost : Nat)
  deriving DecidableEq, Repr

/-- The Reply Queue. -/
structure Rpq where
  /-- the records queued, the oldest first -/
  queue : List Record
  /-- how many payloads of the head record have left (R184) -/
  sentCells : Nat
  lost : Nat
  /-- the event class set and the global event enable, of the retained store (R183) -/
  classes : List EventClass
  enabled : Bool
  /-- the continuity count of the next status cell -/
  continuity : BitVec 4
  deriving DecidableEq, Repr

/-! ### The lanes, the power and the retained store -/

/-- The lanes (R16, R19). `video`, `audio` and `data` are the cells that have left the part, in order: the
model's own record of its output, which no reset clears (log entry 26). -/
structure Lanes where
  video : List Cell
  audio : List Cell
  data : List Cell
  /-- the forwarded cells waiting for the data lane -/
  waiting : List Cell
  /-- whether the last cell on the data lane was a status cell -/
  lastStatus : Bool
  deriving DecidableEq, Repr

/-- The main supply and the reset pin (R185, R186). -/
structure Power where
  powered : Bool
  /-- the reset pin is low -/
  pinLow : Bool
  deriving DecidableEq, Repr

/-- What the retained store holds beside the items of other blocks, and the cause that goes with it (R181, R186). -/
structure Rts where
  cause : ResetCause
  warmResets : Nat
  deriving DecidableEq, Repr

/-! ### Hand-overs between blocks -/

/-- The blocks to which one hand-over can be addressed. -/
inductive Block where
  | scp
  | gds
  | enu
  | dsc
  | plu
  | gwn
  | pgt
  deriving DecidableEq, Repr

/-- What changed the presentation context (R78, R153). -/
inductive ContextCause where
  | splice
  | crossMultiplex
  | standby
  deriving DecidableEq, Repr

/-- A hand-over that its block has not yet taken; each is taken as an event of that block. -/
inductive Handover where
  /-- an advance of W to this value, to the SCP (R47) -/
  | advance (w : Nat)
  /-- WALL_SET, to each waiting block (R49) -/
  | wallSet (dest : Block)
  /-- a rewind, to the SCP and the GDS (R47) -/
  | rewind (dest : Block)
  /-- an offset change, to the SCP and the PLU (R51) -/
  | offsetChange (dest : Block)
  /-- the firing of a device entry, to its owner (R64) -/
  | firing (kind : DeviceKind) (due : Nat) (service event : Option Nat)
  /-- the window states, to the PLU (R71) -/
  | windowStates (windows : List Bool)
  /-- a profile change, to the SCP (R149) -/
  | profileChange
  /-- a day roll, to the GDS (R159) -/
  | dayRoll
  /-- a posting of the DSC's two sources, to the PGT (R163) -/
  | dscPosting (noKey notEntitled : Bool)
  /-- a posting of the PLU's five sources and the mask, to the PGT (R163) -/
  | pluPosting (posting : PluPosting)
  /-- a change of the presentation context with the new service and its map stream (R78, R90) -/
  | context (dest : Block) (cause : ContextCause) (service mapStream : Option Nat)
  /-- the now-event notice, to the PLU (R143) -/
  | nowEvent (service : Option Nat) (event : Option NowEvent)
  /-- the new gate state, to the PLU (R164) -/
  | gateState (isOpen : Bool)
  /-- the notice of a change of the entitlements, to the DSC (R124) -/
  | entNotice
  /-- a change of the ARMING record, to the CCE: its verdict and whether each slot is VALID (R111) -/
  | armingReport (verdict : Verdict) (evenValid oddValid : Bool)
  /-- Port A entered LOCKED, to the CCE (R2) -/
  | portALock
  /-- Port A returned to HUNT, to the CCE (R83) -/
  | portAHunt
  deriving DecidableEq, Repr

/-- The whole part. -/
structure State where
  cin : Cin
  /-- the 24 entries of the route table, none for a free entry -/
  routes : List (Option Route)
  queues : Queues
  tmb : Tmb
  scp : Scp
  sdr : Sdr
  cce : Cce
  dsc : Dsc
  enu : Enu
  gds : Gds
  plu : Plu
  pgt : Pgt
  gwn : Gwn
  rqh : Rqh
  rpq : Rpq
  lanes : Lanes
  rts : Rts
  power : Power
  /-- the hand-overs in flight between blocks, in the order in which they were made -/
  inFlight : List Handover
  /-- how many padding values have been drawn: the model's own counter (log entry 7) -/
  draws : Nat
  /-- the commands waiting, first in, first out -/
  pending : List Instr
  deriving DecidableEq, Repr

/-! ### The part after a reset -/

/-- A serial port after a reset: HUNT, every count 0 (R8). -/
def SerialPort.reset : SerialPort :=
  { sync := .hunt, goodSync := 0, failures := 0, idle := false, idleSince := none, received := 0,
    syncErrors := 0, syncLosses := 0, parityErrors := 0, unrouted := 0, taken := [] }

/-- CIN after a reset (R4, R8). -/
def Cin.reset : Cin :=
  { a := .reset, b := .reset,
    l := { received := 0, syncErrors := 0, parityErrors := 0, unrouted := 0, foreign := 0, framing := none },
    unkeyedA := 0 }

/-- A context as it comes into being: IDLE, every counter 0 (R21). -/
def Context.fresh : Context :=
  { asm := .idle,
    counts := { delivered := 0, classSkip := 0, lengthSkip := 0, addressSkip := 0, noBuffer := 0,
                abandoned := 0, stray := 0, crcFail := 0, overrun := 0 } }

/-- The context that a route of this use begins with (R21). -/
def RouteUse.freshContext : RouteUse → Option Context
  | .sections _ => some .fresh
  | _ => none

/-- A new route: expected continuity UNSET and both counts 0 (R9). -/
def Route.fresh (port : Port) (stream : Nat) (use : RouteUse) (state : RouteState) (owner : Owner)
    (binding : Binding) : Route :=
  { port, stream, use, state, owner, binding, expected := none, discontinuities := 0, cells := 0,
    ctx := use.freshContext }

/-- One of the six fixed routes (R10). -/
def Route.fixed (port : Port) (stream : Nat) (use : RouteUse) : Route :=
  .fresh port stream use .live .fixed .none

/-- The route table after a reset: the six fixed routes and 18 free entries (R10). -/
def routesReset : List (Option Route) :=
  [some (.fixed .b 4064 .stamps), some (.fixed .b 4065 (.sections [.time])),
   some (.fixed .b 4066 (.sections [.directory])), some (.fixed .b 4067 (.sections [.guide])),
   some (.fixed .b 4068 (.sections [.entitlement])), some (.fixed .l 4080 .control)]
    ++ List.replicate 18 none

/-- Every delivery queue empty (R34). -/
def Queues.reset : Queues :=
  { time := [], directory := [], guide := [], entitlement := [], map := [], key := [], rating := [] }

/-- TMB after a reset (R35, R36, R37, R45, R51, R52, R55). -/
def Tmb.reset : Tmb :=
  { localTime := 0#32, nt := 0#40, ntFraction := 0, trim := 0, recovery := .free, good := 0, steps := 0,
    trimLimit := false, lastStamp := none, lastError := none, stamps := 0, wallValid := false, w := 0,
    ns := 0#40, offset := 0, pendingChange := none, applied := 0, rejected := 0 }

/-- The cold-start range table: every range unused, both minutes 0 (R69). -/
def rangesCold : List HoursRange :=
  List.replicate 8 { profile := none, lower := 0, upper := 0, contains := false }

/-- SCP after a cold start (R56, R60, R69, R71). -/
def Scp.reset : Scp :=
  { target := [], hold := false, lastPass := none, ranges := rangesCold, windows := List.replicate 4 true,
    lastMinute := none }

/-- SDR after a reset (R74). -/
def Sdr.reset : Sdr :=
  { services := [], versions := List.replicate 16 none, applied := 0, rejected := 0, entriesRejected := 0,
    entriesDropped := 0 }

/-- CCE after a cold start (R78, R79). -/
def Cce.reset : Cce :=
  { engine := .idle, standby := false, tuned := none, change := none, pendingTune := none,
    lastService := none, forcedSplices := 0, pendingReplaced := 0, badMaps := 0, presented := none }

/-- DSC after a reset (R99). -/
def Dsc.reset : Dsc :=
  { active := none, arming := none, applied := 0, ignored := 0, faulted := 0, noKey := false,
    notEntitled := false }

/-- ENU after a cold start (R118). -/
def Enu.reset : Enu :=
  { table := [], grants := [], granted := 0, spent := 0, nextSeq := some 1, log := [], group := none,
    applied := 0, checkFailed := 0, formFailed := 0, tiersDropped := 0 }

/-- GDS after a reset (R133, R134, R141). -/
def Gds.reset : Gds :=
  { services := [], events := [],
    counts := { applied := 0, rejected := 0, servicesRefused := 0, outOfSpan := 0, noLength := 0,
                overlapping := 0, displaced := 0, guideFull := 0, evicted := 0, purged := 0 },
    followed := none, now := none }

/-- A profile after a cold start (R148). -/
def Profile.cold : Profile :=
  { ceiling := 7, blocked := 0#4, blockUnrated := false, follow := false, mode := .none, budget := 0,
    latch := 0, used := 0, seconds := 0, warned := false, locked := [] }

/-- Nothing posted. -/
def PluPosting.clear : PluPosting :=
  { rating := false, locked := false, hours := false, budget := false, hostMute := false, mask := false }

/-- PLU after a cold start (R148, R151, R155, R157, R160, R165). -/
def Plu.reset : Plu :=
  { profiles := List.replicate 4 .cold, active := 0, dayNumber := none, override := none,
    presentedRating := none, preparedRating := none, guideRating := none, current := .none,
    windows := List.replicate 4 true, gateOpen := false, accruing := false, remainder := 0,
    posted := .clear, applied := 0, ignored := 0, rejected := 0 }

/-- The empty source set. -/
def Sources.empty : Sources :=
  { noKey := false, notEntitled := false, rating := false, locked := false, hours := false,
    budget := false, hostMute := false }

/-- PGT after a cold start (R165). -/
def Pgt.reset : Pgt :=
  { sources := .empty, mask := false, presented := none, isOpen := false, lastChange := 0#32, emitted := 0 }

/-- GWN after a reset (R168). -/
def Gwn.reset : Gwn :=
  { top := 0, rows := 6, start := none, columns := 4, cursorRow := 0, cursorTime := none }

/-- RQH after a reset (R177). -/
def Rqh.reset : Rqh :=
  { intake := [], inProgress := none, stopped := false }

/-- Every event class, in the order of R183. -/
def EventClass.all : List EventClass :=
  [.input, .time, .channel, .gate, .access, .schedule, .parental, .guide]

/-- RPQ after a cold start (R182, R183, R184). -/
def Rpq.reset : Rpq :=
  { queue := [], sentCells := 0, lost := 0, classes := EventClass.all, enabled := true, continuity := 0#4 }

/-- The lanes after a reset: nothing sent, the arbiter as if the last cell had been a forwarded one (R19). -/
def Lanes.reset : Lanes :=
  { video := [], audio := [], data := [], waiting := [], lastStatus := false }

/-- The part right after a cold start, with the pin high (R186). -/
def State.reset : State :=
  { cin := .reset, routes := routesReset, queues := .reset, tmb := .reset, scp := .reset, sdr := .reset,
    cce := .reset, dsc := .reset, enu := .reset, gds := .reset, plu := .reset, pgt := .reset, gwn := .reset,
    rqh := .reset, rpq := .reset, lanes := .reset, rts := { cause := .cold, warmResets := 0 },
    power := { powered := true, pinLow := false }, inFlight := [], draws := 0, pending := [] }

end Sys2Proof.Machine
end

