-- ==== Sys2Proof/Machine/Bytes.lean ====
section
/-! DEFINITION. Byte order and bit fields: a field of several bytes is sent most significant byte first, and bit 7 is
the most significant bit of a byte (chapter 12). -/

namespace Sys2Proof.Machine

/-- The number that bytes spell, most significant first (chapter 12). -/
def beNat (bytes : List Byte) : Nat := bytes.foldl (fun acc b => acc * 256 + b.toNat) 0

/-- The field of `n` bytes at an offset, as a number. -/
def fieldAt (bytes : List Byte) (offset n : Nat) : Nat := beNat ((bytes.drop offset).take n)

/-- The byte at an offset, 0 beyond the end. -/
def byteAt (bytes : List Byte) (offset : Nat) : Byte := bytes.getD offset 0#8

/-- A number read as two's complement of the given width in bits. -/
def signedOf (width n : Nat) : Int :=
  if n < 2 ^ (width - 1) then (n : Int) else (n : Int) - (2 : Int) ^ width

/-- `n` bytes of a number, most significant first. -/
def beBytes : Nat → Nat → List Byte
  | 0, _ => []
  | n + 1, v => beBytes n (v / 256) ++ [BitVec.ofNat 8 v]

/-- `n` bytes of a signed number, two's complement (R191). -/
def beBytesInt (n : Nat) (v : Int) : List Byte := beBytes n (v % (2 : Int) ^ (8 * n)).toNat

/-! ### The codings of R191 -/

/-- A flag: 00H for clear, 01H for set. -/
def encFlag (b : Bool) : List Byte := [if b then 1#8 else 0#8]

/-- A field that may be none: a presence byte, then the field's bytes, 0 when absent. -/
def encOption (width : Nat) (enc : α → List Byte) : Option α → List Byte
  | none => 0#8 :: List.replicate width 0#8
  | some v => 1#8 :: enc v

/-- An unsigned field of `n` bytes that may be none. -/
def encOptNat (n : Nat) (v : Option Nat) : List Byte := encOption n (beBytes n) v

/-- Text: a length byte followed by its characters. -/
def encText (text : List Byte) : List Byte := BitVec.ofNat 8 text.length :: text

/-- A list: a count byte followed by its items. -/
def encList (enc : α → List Byte) (items : List α) : List Byte :=
  BitVec.ofNat 8 items.length :: items.flatMap enc

/-- A set as a number: the first listed member is bit 0 (R191). -/
def bitMap : List Bool → Nat
  | [] => 0
  | b :: rest => (if b then 1 else 0) + 2 * bitMap rest

end Sys2Proof.Machine
end

