-- ==== Sys2Proof/Machine/Formats.lean ====
section
/-! DEFINITION. What crosses the part's boundary: cells (R187), sections and their CRC (R188), section bodies (R189)
and request records (R190). -/

namespace Sys2Proof.Machine

/-! ### Cells (R187) -/

/-- The parity that a header's two bits name. -/
def Parity.ofBits (b : BitVec 2) : Parity :=
  if b = 0#2 then .clear else if b = 1#2 then .reserved else if b = 2#2 then .even else .odd

/-- The two header bits of a parity. -/
def Parity.bits : Parity → BitVec 2
  | .clear => 0#2
  | .reserved => 1#2
  | .even => 2#2
  | .odd => 3#2

/-- The slot that a scrambled parity names. -/
def Parity.slot : Parity → Option Slot
  | .even => some .even
  | .odd => some .odd
  | _ => none

/-- The cell that 160 bytes carry. -/
def Cell.ofBytes (bytes : List Byte) : Cell :=
  let b1 := byteAt bytes 1
  let b3 := byteAt bytes 3
  { sync := byteAt bytes 0
    start := b1.getLsbD 7
    marker := b1.getLsbD 6
    parity := .ofBits (b1.extractLsb' 4 2)
    stream := b1.extractLsb' 0 4 ++ byteAt bytes 2
    continuity := b3.extractLsb' 4 4
    reserved := b3.extractLsb' 0 4
    payload := bytes.drop 4 }

/-- The bytes of a cell. -/
def Cell.toBytes (c : Cell) : List Byte :=
  c.sync
    :: (BitVec.ofBool c.start ++ BitVec.ofBool c.marker ++ c.parity.bits ++ c.stream.extractLsb' 8 4)
    :: c.stream.extractLsb' 0 8
    :: (c.continuity ++ c.reserved)
    :: c.payload

/-- A cell carries 156 bytes of payload (R187). -/
def payloadBytes : Nat := 156

/-- The null cell put in place of a present cell (R16). -/
def nullCell : Cell :=
  { sync := syncByte, start := false, marker := false, parity := .clear, stream := 4095#12,
    continuity := 0#4, reserved := 0#4, payload := List.replicate 156 255#8 }

/-! ### Section headers and the CRC (R188) -/

/-- The class that a code names, none for a class the part does not know. -/
def SectionClass.ofCode (code : Nat) : Option SectionClass :=
  if code = 0x01 then some .time
  else if code = 0x02 then some .directory
  else if code = 0x03 then some .guide
  else if code = 0x04 then some .entitlement
  else if code = 0x10 then some .map
  else if code = 0x11 then some .key
  else if code = 0x12 then some .rating
  else none

/-- The classes in the order of R9 and R33. -/
def SectionClass.all : List SectionClass := [.time, .directory, .guide, .entitlement, .map, .key, .rating]

/-- The total length that a header gives: 1 to 4,095, and 4,096 for a field of 0. -/
def totalLengthOf (header : List Byte) : Nat :=
  let field := fieldAt header 1 2 / 16
  if field = 0 then 4096 else field

/-- A complete section, read from its bytes (R30, R188). -/
def Section.ofBytes (port : Port) (stream : Nat) (cls : SectionClass) (bytes : List Byte) : Section :=
  { port, stream, cls, total := bytes.length
    version := (byteAt bytes 3).toNat / 8
    key := fieldAt bytes 4 2
    bits := ((byteAt bytes 3).toNat % 8) * 256 + (byteAt bytes 6).toNat
    body := (bytes.drop 8).take (bytes.length - 12) }

/-- One bit of the CRC register's division by 04C11DB7H. -/
def crcBit (r : BitVec 32) : BitVec 32 :=
  if r.getLsbD 31 then (r <<< 1) ^^^ 0x04C11DB7#32 else r <<< 1

/-- The CRC register after one more byte, taken most significant bit first. -/
def crcByte (r : BitVec 32) (b : Byte) : BitVec 32 :=
  Nat.repeat crcBit 8 (r ^^^ (b.setWidth 32 <<< 24))

/-- The CRC of a run of bytes: preset to all ones, the result inverted (R188). -/
def crc32 (bytes : List Byte) : BitVec 32 := bytes.foldl crcByte 0xFFFFFFFF#32 ^^^ 0xFFFFFFFF#32

/-- Whether a complete section's CRC agrees with its trailer (R25). -/
def crcAgrees (bytes : List Byte) : Bool :=
  (crc32 (bytes.take (bytes.length - 4))).toNat == beNat (bytes.drop (bytes.length - 4))

/-! ### Address screening (R23) -/

/-- Whether the addressing fields of an ENTITLEMENT body match this part, given its group assignment. A body
too short for its address kind's fields does not match. -/
def addressMatches (group : Option (Nat × Nat)) (body : List Byte) : Bool :=
  match (byteAt body 0).toNat, group with
  | 1, _ => decide (5 ≤ body.length) && fieldAt body 1 4 == Config.unitAddress.toNat
  | 2, some (number, position) =>
      decide (35 ≤ body.length) && fieldAt body 1 2 == number
        && (byteAt body (3 + position / 8)).getLsbD (7 - position % 8)
  | 3, _ => decide (1 ≤ body.length)
  | _, _ => false

/-- How many bytes the address of an ENTITLEMENT body takes (R189), none for a kind not listed. -/
def addressLength (body : List Byte) : Option Nat :=
  match (byteAt body 0).toNat with
  | 1 => some 5
  | 2 => some 35
  | 3 => some 1
  | _ => none

/-! ### TIME, DIRECTORY, GUIDE and RATING bodies (R189) -/

/-- The fields of a TIME body. -/
structure TimeBody where
  w0 : Nat
  n0 : NetTime
  offset : Int
  next : Option (Nat × Int)
  deriving DecidableEq, Repr

/-- A TIME body; none when it is too short for its fields (R188; log entry 21). -/
def TimeBody.parse (body : List Byte) : Option TimeBody :=
  if body.length < 18 then none
  else some
    { w0 := fieldAt body 0 4
      n0 := BitVec.ofNat 40 (fieldAt body 4 5)
      offset := signedOf 16 (fieldAt body 9 2)
      next := if (byteAt body 11).getLsbD 0
        then some (fieldAt body 12 4, signedOf 16 (fieldAt body 16 2)) else none }

/-- A stream-id field ignores its top 4 bits (R189). -/
def streamField (bytes : List Byte) (offset : Nat) : Nat := fieldAt bytes offset 2 % 4096

/-- One 30-byte directory entry, its tier count kept beside the tiers read; a count above 4 is for R189's
reading rule to reject. -/
def directoryEntry (segment : Nat) (e : List Byte) : Nat × Service :=
  let tierCount := (byteAt e 9).toNat
  (tierCount,
   { number := fieldAt e 0 2
     frequency := fieldAt e 2 4
     modulation := (byteAt e 6).toNat / 64
     mapStream := streamField e 7
     tiers := (List.range (min tierCount 4)).map fun k => fieldAt e (10 + 2 * k) 2
     hidden := (byteAt e 6).getLsbD 5
     name := ((e.drop 18).take 12).takeWhile (· != 0#8)
     segment })

/-- The entries of a DIRECTORY body; none when the count is above 16 or the body is short (R75, R188, R189). -/
def directoryEntries (segment : Nat) (body : List Byte) : Option (List (Nat × Service)) :=
  let count := (byteAt body 0).toNat
  if body.length < 1 || count > 16 || body.length < 1 + 30 * count then none
  else some ((List.range count).map fun k => directoryEntry segment ((body.drop (1 + 30 * k)).take 30))

/-- One event as a GUIDE section sends it, before R135 makes it fit to store. -/
def guideEventAt (service segment : Nat) (e : List Byte) : GuideEvent :=
  { service, segment
    id := fieldAt e 0 2
    start := fieldAt e 2 4
    duration := fieldAt e 6 4
    age := (byteAt e 10).toNat / 16
    category := (byteAt e 10).toNat % 16
    flags := (byteAt e 11).extractLsb' 0 4
    price := some (fieldAt e 12 2)
    title := (e.drop 15).take (byteAt e 14).toNat }

/-- The events that follow one another in a GUIDE body, `count` of them; none when the body is short. -/
def guideEventsFrom (service segment : Nat) : Nat → List Byte → Option (List GuideEvent)
  | 0, _ => some []
  | count + 1, e =>
      if e.length < 15 || e.length < 15 + (byteAt e 14).toNat then none
      else (guideEventsFrom service segment count (e.drop (15 + (byteAt e 14).toNat))).map
        (guideEventAt service segment e :: ·)

/-- A GUIDE body: the segment start and the events; none when the count is above 12 or the body is short. -/
def guideBody (service segment : Nat) (body : List Byte) : Option (Nat × List GuideEvent) :=
  let count := (byteAt body 4).toNat
  if body.length < 5 || count > 12 then none
  else (guideEventsFrom service segment count (body.drop 5)).map (fieldAt body 0 4, ·)

/-- A RATING body: age and advisory flags; none when it is short. -/
def ratingBody (body : List Byte) : Option (Nat × Advisory) :=
  if body.length < 2 then none
  else some ((byteAt body 0).toNat % 16, (byteAt body 1).extractLsb' 0 4)

/-! ### MAP bodies (R85, R189) -/

/-- An ASCII letter. -/
def isLetter (b : Byte) : Bool :=
  (0x41 ≤ b.toNat && b.toNat ≤ 0x5A) || (0x61 ≤ b.toNat && b.toNat ≤ 0x7A)

/-- A letter without regard to case. -/
def upper (b : Byte) : Byte := if 0x61 ≤ b.toNat && b.toNat ≤ 0x7A then b - 0x20#8 else b

/-- Whether every character is a letter. -/
def Lang.letters (l : Lang) : Bool := isLetter l.l0 && isLetter l.l1 && isLetter l.l2

/-- Three 00H bytes. -/
def Lang.zero : Lang := ⟨0#8, 0#8, 0#8⟩

/-- Languages compare without regard to case (R189). -/
def Lang.same (x y : Lang) : Bool :=
  upper x.l0 == upper y.l0 && upper x.l1 == upper y.l1 && upper x.l2 == upper y.l2

/-- The three bytes of a language field. -/
def langAt (bytes : List Byte) (offset : Nat) : Lang :=
  ⟨byteAt bytes offset, byteAt bytes (offset + 1), byteAt bytes (offset + 2)⟩

/-- A language field that is neither three letters nor three 00H bytes counts as none (R189, R190). -/
def langOrNone (l : Lang) : Option Lang := if l.letters then some l else none

/-- The kind that a code names (R189). -/
def ComponentKind.ofCode (code : Nat) : Option ComponentKind :=
  if code = 1 then some .video else if code = 2 then some .audio else if code = 3 then some .data else none

/-- The reserved streams (R13, R76, R85). -/
def reservedStreams : List Nat := [4064, 4065, 4066, 4067, 4068, 4080, 4081, 4095]

/-- One 6-byte component; none when its kind is not listed or its stream is reserved. A language is kept for
audio alone (R78). -/
def componentAt (c : List Byte) : Option Component :=
  match ComponentKind.ofCode (byteAt c 2).toNat with
  | none => none
  | some kind =>
      if reservedStreams.contains (streamField c 0) then none
      else some
        { stream := streamField c 0, kind
          lang := if kind = .audio then langOrNone (langAt c 3) else none }

/-- A MAP body as a programme map of the given version; none for a bad map (R85, R188). -/
def mapBody (version : Nat) (body : List Byte) : Option ProgMap :=
  let count := (byteAt body 0).toNat
  let keyStream := if (byteAt body 1).getLsbD 7 then some (streamField body 1) else none
  if body.length < 3 || count > 8 || body.length < 3 + 6 * count
      || keyStream.any reservedStreams.contains then none
  else
    ((List.range count).mapM fun k => componentAt ((body.drop (3 + 6 * k)).take 6)).map
      fun components => { version, components, keyStream }

/-! ### KEY and ENTITLEMENT bodies (R103, R119, R189) -/

/-- Whether a body's last 16 bytes are the integrity function of the bytes before them; a body shorter than 17
bytes fails the check (R103, R119, R188). -/
def checkPasses (body : List Byte) : Bool :=
  decide (17 ≤ body.length)
    && Config.integrity (body.take (body.length - 16)) == BitVec.ofNat 128 (beNat (body.drop (body.length - 16)))

/-- `count` two-byte numbers at an offset. -/
def numbersAt (bytes : List Byte) (offset count : Nat) : List Nat :=
  (List.range count).map fun k => fieldAt bytes (offset + 2 * k) 2

/-- Whether a tier number lies in 1 to 4,095. -/
def tierOk (tier : Nat) : Bool := decide (1 ≤ tier) && decide (tier ≤ 4095)

/-- The fields of a KEY body: criteria, the slot the word is for, and the wrapped word. -/
structure KeyBody where
  criteria : Criteria
  slot : Slot
  wrapped : BitVec 128
  deriving DecidableEq, Repr

/-- The criteria of a KEY body and the offset that follows them; none when the body fails the form (R103). -/
def keyCriteria (fields : List Byte) : Option (Criteria × Nat) :=
  match (byteAt fields 0).toNat with
  | 1 =>
      let count := (byteAt fields 2).toNat
      let tiers := numbersAt fields 3 count
      if fields.length < 3 || count = 0 || count > 8 || fields.length < 3 + 2 * count
          || !tiers.all tierOk || !decide tiers.Nodup then none
      else some (.tiers tiers, 3 + 2 * count)
  | 2 =>
      if fields.length < 6 || fieldAt fields 4 2 = 0 then none
      else some (.event (fieldAt fields 2 2) (fieldAt fields 4 2), 6)
  | _ => none

/-- The form of a KEY body whose check has passed; none for a fault of reason FORMAT (R103, R188, R189). -/
def keyBody (body : List Byte) : Option KeyBody :=
  let fields := body.take (body.length - 16)
  match (Parity.ofBits ((byteAt fields 1).extractLsb' 0 2)).slot, keyCriteria fields with
  | some slot, some (criteria, after) =>
      if byteAt fields 1 = 2#8 ∨ byteAt fields 1 = 3#8 then
        if fields.length < after + 16 then none
        else some { criteria, slot, wrapped := BitVec.ofNat 128 (fieldAt fields after 16) }
      else none
  | _, _ => none

/-- The parity field as a KEY section gave it (R112): the body's byte at offset 1, also where a body of 17 bytes has its
check value there, and a free value where the body ends before it (DESIGN CHOICE, log entry 8). -/
def keyParityField (body : List Byte) : Byte := (body[1]?).getD Config.absentParityField

/-- An ENTITLEMENT message (R120 to R123). -/
inductive Message where
  | entitle (items : List Entitlement)
  | revoke (tiers : List Nat)
  | credit (granted through : Nat)
  | group (number position : Nat)
  deriving DecidableEq, Repr

/-- The message after the address, none when it fails the form (R119, R188). -/
def messageAfter (m : List Byte) : Option Message :=
  let count := (byteAt m 1).toNat
  if m.length < 1 then none
  else match (byteAt m 0).toNat with
    | 1 =>
        let items := (List.range count).map fun k =>
          ({ tier := fieldAt m (2 + 6 * k) 2, expiry := fieldAt m (4 + 6 * k) 4 } : Entitlement)
        if m.length < 2 || count = 0 || count > 32 || m.length < 2 + 6 * count
            || !items.all (fun i => tierOk i.tier) then none
        else some (.entitle items)
    | 2 =>
        let tiers := numbersAt m 2 count
        if m.length < 2 || count = 0 || count > 32 || m.length < 2 + 2 * count
            || !tiers.all tierOk then none
        else some (.revoke tiers)
    | 3 =>
        if m.length < 9 || fieldAt m 1 4 > 16777215 then none
        else some (.credit (fieldAt m 1 4) (fieldAt m 5 4))
    | 4 =>
        if m.length < 5 || fieldAt m 3 2 > 255 then none
        else some (.group (fieldAt m 1 2) (fieldAt m 3 2))
    | _ => none

/-- The message of an ENTITLEMENT body whose check has passed. -/
def messageOf (body : List Byte) : Option Message :=
  let fields := body.take (body.length - 16)
  match addressLength fields with
  | none => none
  | some n => if fields.length < n then none else messageAfter (fields.drop n)

/-! ### Stamps (R187) -/

/-- The stamp S and the discontinuity flag of a stamp cell's payload. -/
def stampOf (payload : List Byte) : NetTime × Bool :=
  (BitVec.ofNat 40 (fieldAt payload 0 5), (byteAt payload 5).getLsbD 7)

/-! ### Requests (R178, R190) -/

/-- The request code. -/
def Request.code : Request → Nat
  | .reset => 0x01
  | .readTable .. => 0x02
  | .setEventMask .. => 0x03
  | .addRoute .. => 0x10
  | .dropRoute .. => 0x11
  | .tune .. => 0x20
  | .cancel => 0x21
  | .tunerReady .. => 0x22
  | .tunerFail .. => 0x23
  | .setAudio .. => 0x24
  | .standby => 0x25
  | .wake .. => 0x26
  | .addReminder .. => 0x30
  | .dropReminder .. => 0x31
  | .holdReminders => 0x32
  | .releaseReminders => 0x33
  | .setRange .. => 0x34
  | .purchase .. => 0x40
  | .selectProfile .. => 0x50
  | .setProfileLimits .. => 0x51
  | .setBudget .. => 0x52
  | .lockService .. => 0x53
  | .unlockService .. => 0x54
  | .override .. => 0x55
  | .endOverride => 0x56
  | .hostMute .. => 0x57
  | .gridSet .. => 0x60
  | .cursorMove .. => 0x61
  | .gridRead => 0x62

/-- The request that a code and its parameters spell, with the parameter length the code asks for; none for a
code that is no request's (R190). -/
def requestForm (code : Nat) (p : List Byte) : Option (Nat × Request) :=
  let n1 := fun k => fieldAt p k 1
  let n2 := fun k => fieldAt p k 2
  let n4 := fun k => fieldAt p k 4
  match code with
  | 0x01 => some (0, .reset)
  | 0x02 => some (5, .readTable (n1 0) (n2 1) (n2 3))
  | 0x03 => some (2, .setEventMask (n1 0) (n1 1))
  | 0x10 => some (3, .addRoute (n1 0) (n2 1))
  | 0x11 => some (3, .dropRoute (n1 0) (n2 1))
  | 0x20 => some (5, .tune (n2 0) (langAt p 2))
  | 0x21 => some (0, .cancel)
  | 0x22 => some (4, .tunerReady (n4 0))
  | 0x23 => some (4, .tunerFail (n4 0))
  | 0x24 => some (3, .setAudio (langAt p 0))
  | 0x25 => some (0, .standby)
  | 0x26 => some (1, .wake (n1 0))
  | 0x30 => some (15, .addReminder (n2 0) (n4 2) (n4 6) (n2 10) (n2 12) (n1 14))
  | 0x31 => some (2, .dropReminder (n2 0))
  | 0x32 => some (0, .holdReminders)
  | 0x33 => some (0, .releaseReminders)
  | 0x34 => some (6, .setRange (n1 0) (n1 1) (n2 2) (n2 4))
  | 0x40 => some (4, .purchase (n2 0) (n2 2))
  | 0x50 => some (1, .selectProfile (n1 0))
  | 0x51 => some (5, .setProfileLimits (n1 0) (n1 1) (n1 2) (n1 3) (n1 4))
  | 0x52 => some (5, .setBudget (n1 0) (n1 1) (n2 2) (n1 4))
  | 0x53 => some (3, .lockService (n1 0) (n2 1))
  | 0x54 => some (3, .unlockService (n1 0) (n2 1))
  | 0x55 => some (3, .override (n2 0) (n1 2))
  | 0x56 => some (0, .endOverride)
  | 0x57 => some (1, .hostMute (n1 0))
  | 0x60 => some (8, .gridSet (n2 0) (n1 2) (n1 3) (n4 4))
  | 0x61 => some (1, .cursorMove (n1 0))
  | 0x62 => some (0, .gridRead)
  | _ => none

/-- The request of a request cell's payload; none when the RQH refuses it with BAD_REQUEST: an unknown code, or a
parameter length that is not the code's (every listed length fits the payload). -/
def requestOf (payload : List Byte) : Option Request :=
  match requestForm (fieldAt payload 0 1) (payload.drop 4) with
  | none => none
  | some (length, request) => if fieldAt payload 2 2 = length then some request else none

end Sys2Proof.Machine
end

