-- ==== Sys2Proof/Machine/Flags.lean ====
section
/-! DEFINITION. Views the manual computes from state it holds elsewhere: flags, tests and quantities that other blocks
read. Reading one changes nothing. -/

namespace Sys2Proof.Machine

/-! ### The part as a whole (R185, R186) -/

/-- The part runs while the main supply is on and the reset pin is high. -/
def State.running (s : State) : Bool := s.power.powered && !s.power.pinLow

/-- The records reserved for the request in progress (R177). -/
def Rqh.reserved (r : Rqh) : Nat := (r.inProgress.map InProgress.reserved).getD 0

/-- The records held: queued plus reserved (R182). -/
def State.held (s : State) : Nat := s.rpq.queue.length + s.rqh.reserved

/-- The attention line: raised while the queue holds at least one queued record (R184), low while the part is held in
reset or without supply (R185). -/
def State.attention (s : State) : Bool := s.running && !s.rpq.queue.isEmpty

/-- Ready on Port L: asserted while the intake queue has room for a cell (R1, R177), withdrawn while the part is held
in reset (R185). -/
def State.ready (s : State) : Bool := s.running && decide (s.rqh.intake.length < 4)

/-! ### Sections (R28, R29) -/

/-- Whether a context holds a buffer: it does exactly in ASSEMBLING (R21). -/
def Context.holdsBuffer (c : Context) : Bool :=
  match c.asm with
  | .assembling .. => true
  | _ => false

/-- Whether an entry's context holds a buffer. -/
def entryHoldsBuffer (entry : Option Route) : Bool :=
  (entry.bind Route.ctx).any Context.holdsBuffer

/-- The sections of a class: the one that its consumer is applying first, then those waiting. A consumer is free exactly
while there is none, since a free one takes the head of its queue at once (R30; log entry 10). -/
def Queues.of (q : Queues) : SectionClass → List Section
  | .time => q.time
  | .directory => q.directory
  | .guide => q.guide
  | .entitlement => q.entitlement
  | .map => q.map
  | .key => q.key
  | .rating => q.rating

/-- Whether a class's consumer is applying a section (R30). -/
def Queues.applying (q : Queues) (c : SectionClass) : Bool := !(q.of c).isEmpty

/-- How many sections wait in a class's delivery queue; the one being applied has left it (R29). -/
def Queues.waiting (q : Queues) (c : SectionClass) : Nat := (q.of c).length - 1

/-- How many sections may wait in a delivery queue (R29). -/
def SectionClass.limit : SectionClass → Nat
  | .time => 1
  | .directory => 3
  | .guide => 6
  | .entitlement => 3
  | .map => 2
  | .key => 2
  | .rating => 1

/-- The sections waiting and being applied, of all seven classes. -/
def Queues.held (q : Queues) : Nat := (SectionClass.all.map fun c => (q.of c).length).sum

/-- The buffers in use: of sections in assembly, of sections waiting and of sections being applied (R28). -/
def buffersInUse (routes : List (Option Route)) (queues : Queues) : Nat :=
  routes.countP entryHoldsBuffer + queues.held

/-- The buffers of the pool (R28). -/
def poolSize : Nat := 16

/-- The free buffers, 0 to 16 (R28, R33). -/
def State.freeBuffers (s : State) : Nat := poolSize - buffersInUse s.routes s.queues

/-! ### Time (R35, R36, R54) -/

/-- The difference of two LOCAL times, modulo 2^32 (R35). -/
def elapsed (since now : LocalTime) : Nat := (now - since).toNat

/-- The local wall second LW (R54). -/
def Tmb.lw (t : Tmb) : Int := t.w + 60 * t.offset

/-- The minute of the day M (R54). -/
def Tmb.minute (t : Tmb) : Nat := ((t.lw % 86400) / 60).toNat

/-- The day number (R54). -/
def Tmb.day (t : Tmb) : Int := t.lw / 86400

/-- The next local midnight, a wall second (R54). -/
def Tmb.midnight (t : Tmb) : Nat := ((t.day + 1) * 86400 - 60 * t.offset).toNat

/-! ### The schedule (R56) -/

/-- Whether an entry is of a device kind. -/
def Entry.isDevice (k : DeviceKind) (e : Entry) : Bool := e.kind == .device k

/-- The id of a reminder, none for a device entry. -/
def Entry.reminderId (e : Entry) : Option Nat :=
  match e.kind with
  | .reminder id _ _ => some id
  | .device _ => none

/-- Whether an entry's due-held mark is set. -/
def Entry.isHeld (e : Entry) : Bool :=
  match e.kind with
  | .reminder _ _ held => held
  | .device _ => false

/-- The reminders in the table. -/
def Scp.reminders (p : Scp) : List Entry := p.target.filter fun e => e.reminderId.isSome

/-- The due time of a device kind's entry, or none. -/
def Scp.dueOf (p : Scp) (k : DeviceKind) : Option Nat := (p.target.find? (Entry.isDevice k)).map Entry.due

/-- Whether a range contains a minute: it wraps past midnight when its lower minute is above its upper (R70). -/
def HoursRange.covers (r : HoursRange) (m : Nat) : Bool :=
  if r.lower ≤ r.upper then decide (r.lower ≤ m) && decide (m ≤ r.upper)
  else decide (r.lower ≤ m) || decide (m ≤ r.upper)

/-! ### The account (R114 to R116, R127, R128) -/

/-- The expiry value that is no expiry (R114). -/
def noExpiry : Nat := 4294967295

/-- Whether an expiry has passed: never for no expiry, never while WALL_VALID is clear (R114). -/
def Tmb.expired (t : Tmb) (expiry : Nat) : Bool :=
  t.wallValid && expiry != noExpiry && decide (expiry ≤ t.w)

/-- The sum of the prices in a purchase log (R116). -/
def logTotal (log : List PurchaseRecord) : Nat := (log.map PurchaseRecord.price).sum

/-- The remaining credit, granted minus spent, computed signed (R116). -/
def Enu.remaining (e : Enu) : Int := (e.granted : Int) - (e.spent : Int)

/-- The earliest expiry other than no expiry among entitlements and grants, or none (R125). -/
def Enu.earliestExpiry (e : Enu) : Option Nat :=
  ((e.table.map Entitlement.expiry ++ e.grants.map Grant.expiry).filter (· != noExpiry)).min?

/-- Whether a grant is for this service and event. -/
def Grant.isFor (service event : Nat) (g : Grant) : Bool := g.service == service && g.event == event

/-- A service record by its number. -/
def Sdr.find (d : Sdr) (number : Nat) : Option Service := d.services.find? fun r => r.number == number

/-- The tier test: the tier is in the table with a current entry (R128). -/
def State.tierEntitled (s : State) (tier : Nat) : Bool :=
  s.enu.table.any fun e => e.tier == tier && !s.tmb.expired e.expiry

/-- A current grant for the service and event (R115). -/
def State.hasCurrentGrant (s : State) (service event : Nat) : Bool :=
  s.enu.grants.any fun g => g.isFor service event && !s.tmb.expired g.expiry

/-- The grant test of the guide window: no while WALL_VALID is clear (R128). -/
def State.grantTest (s : State) (service event : Nat) : Bool :=
  s.tmb.wallValid && s.hasCurrentGrant service event

/-- The verdict function (R127). -/
def State.verdictOf (s : State) (service : Nat) (criteria : Criteria) : Verdict :=
  let free := (s.sdr.find service).any fun r => r.tiers.isEmpty
  let admitted :=
    match criteria with
    | .tiers list => list.any s.tierEntitled
    | .event id _ => !s.tmb.wallValid || s.hasCurrentGrant service id
  if free || admitted then .entitled else .notEntitled

/-! ### The guide (R132, R133, R141, R146) -/

/-- The end of an event, computed exactly (R133). -/
def GuideEvent.stop (e : GuideEvent) : Nat := e.start + e.duration

/-- Two events overlap when each starts before the other ends (R133). -/
def GuideEvent.overlaps (x y : GuideEvent) : Bool :=
  x.service == y.service && decide (x.start < y.stop) && decide (y.start < x.stop)

/-- The event records of a service, in start order. -/
def Gds.eventsOf (g : Gds) (service : Nat) : List GuideEvent := g.events.filter fun e => e.service == service

/-- The number of event records held for a service (R132). -/
def State.serviceEvents (s : State) (service : Nat) : Nat := (s.gds.eventsOf service).length

/-- Whether a guide service record exists (R146). -/
def Gds.hasService (g : Gds) (service : Nat) : Bool := g.services.any fun r => r.number == service

/-- Event by id: the earliest start among the matches, which in store order is the first (R146). -/
def Gds.eventById (g : Gds) (service id : Nat) : Option GuideEvent :=
  g.events.find? fun e => e.service == service && e.id == id

/-- The now-event of a service at a wall second (R141). -/
def Gds.nowEventOf (g : Gds) (service w : Nat) : Option GuideEvent :=
  (g.eventsOf service).find? fun e => decide (e.start ≤ w) && decide (w < e.stop)

/-- The next event of a service at a wall second (R141). -/
def Gds.nextEventOf (g : Gds) (service w : Nat) : Option GuideEvent :=
  (g.eventsOf service).find? fun e => decide (w < e.start)

/-- The followed service's now-event, none while the wall is invalid (R141). -/
def State.nowEvent (s : State) : Option GuideEvent :=
  if s.tmb.wallValid then s.gds.followed.bind fun n => s.gds.nowEventOf n s.tmb.w else none

/-- The followed service's next event, none while the wall is invalid (R141). -/
def State.nextEvent (s : State) : Option GuideEvent :=
  if s.tmb.wallValid then s.gds.followed.bind fun n => s.gds.nextEventOf n s.tmb.w else none

/-! ### Parental limits (R148, R154, R158, R166) -/

/-- A profile by its number. -/
def Plu.profile (p : Plu) (n : Nat) : Profile := p.profiles.getD n .cold

/-- The active profile. -/
def Plu.activeProfile (p : Plu) : Profile := p.profile p.active

/-- The profile whose limits are the active profile's effective limits: profile 0 for a follower (R148). -/
def Plu.limits (p : Plu) : Profile := if p.activeProfile.follow then p.profile 0 else p.activeProfile

/-- Whether a rating fails the active profile's effective limits, an age of 15 counting as unrated (R154, R166). -/
def Plu.ratingFails (p : Plu) (age : Nat) (flags : Advisory) : Bool :=
  (decide (age ≤ 7) && decide (p.limits.ceiling < age))
    || flags &&& p.limits.blocked != 0#4
    || (age == 15 && p.limits.blockUnrated)

/-- The lock test (R166). -/
def Plu.lockHolds (p : Plu) (service : Nat) : Bool := p.activeProfile.locked.contains service

/-- A profile is spent when its mode is DAILY or ONCE and its used minutes are at or above its budget (R158). -/
def Profile.isSpent (p : Profile) : Bool := p.mode != .none && decide (p.budget ≤ p.used)

/-- The current rating for a presentation, by the precedence of R154. -/
def Plu.currentFor (p : Plu) : Option Nat → CurrentRating
  | none => .none
  | some service =>
      match p.presentedRating.filter (·.service == service), p.guideRating.filter (·.service == service) with
      | some r, _ => .inStream r.age r.flags
      | none, some g => .guide g.event g.age g.flags
      | none, none => .unrated

/-- Whether RATING is set by a current rating (R154). -/
def Plu.ratingSet (p : Plu) : CurrentRating → Bool
  | .none => false
  | .unrated => p.limits.blockUnrated
  | .inStream age flags => p.ratingFails age flags
  | .guide _ age flags => p.ratingFails age flags

/-! ### The gate (R163) -/

/-- The source set as a list of members, in the order of R163. -/
def Sources.members (x : Sources) : List Bool :=
  [x.noKey, x.notEntitled, x.rating, x.locked, x.hours, x.budget, x.hostMute]

/-- The gate is OPEN exactly when the context is PRESENTING and every set source is one the mask covers (R163). -/
def gateIsOpen (sources : Sources) (mask presenting : Bool) : Bool :=
  presenting && !sources.noKey && !sources.notEntitled && !sources.hostMute
    && (mask || (!sources.rating && !sources.locked && !sources.hours && !sources.budget))

/-! ### The guide window (R168, R169) -/

/-- The service ring: the directory's records that are not hidden, in service-number order (R169). -/
def Sdr.ring (d : Sdr) : List Service := d.services.filter fun r => !r.hidden

/-- The earliest start at W (R168). -/
def earliestStart (w : Nat) : Nat := w / 1800 * 1800

/-- The latest start at W (R168). -/
def latestStart (w : Nat) : Nat := earliestStart w + 1209600

/-- The last wall second the cursor time may take (R168). -/
def cursorLimit (w columns : Nat) : Nat := latestStart w + 1800 * columns - 1

/-! ### Event records (R183, R191) -/

/-- The class of an event record, as its rule states it. -/
def Event.cls : Event → EventClass
  | .inputState .. => .input
  | .clockState .. => .time
  | .wallSet .. => .time
  | .wallRewound .. => .time
  | .directoryChanged .. => .channel
  | .tuneRequest .. => .channel
  | .changeDone .. => .channel
  | .mapChanged .. => .channel
  | .routeDisplaced .. => .channel
  | .gateChange .. => .gate
  | .keyFault .. => .access
  | .entChanged .. => .access
  | .creditChanged .. => .access
  | .reminderDue .. => .schedule
  | .budgetWarn .. => .parental
  | .budgetSpent .. => .parental
  | .dayRoll .. => .parental
  | .overrideEnd .. => .parental
  | .guideChanged .. => .guide

end Sys2Proof.Machine
end

