-- ==== Sys2Proof/Machine/Records.lean ====
section
/-! DEFINITION. The bytes of reply and event records (R191). Named values are coded from 0 upwards in the order in which
their rule lists them. -/

namespace Sys2Proof.Machine

/-! ### Codes of named values (R191) -/

/-- Ports in the order A, B, L (R8, R9). -/
def portCode : Port → Nat
  | .a => 0
  | .b => 1
  | .l => 2

/-- The states of INPUT_STATE, which no one rule lists together: LOCKED and LOST (R2, R3), then IDLE and ACTIVE (R6) (DESIGN
CHOICE, log entry 23). -/
def InputState.code : InputState → Nat
  | .locked => 0
  | .lost => 1
  | .idle => 2
  | .active => 3

def SyncState.code : SyncState → Nat
  | .hunt => 0
  | .verify => 1
  | .locked => 2

def Recovery.code : Recovery → Nat
  | .free => 0
  | .acquire => 1
  | .locked => 2
  | .holdover => 3

def DoneReason.code : DoneReason → Nat
  | .ok => 0
  | .forced => 1
  | .tuner => 2
  | .tuneTimeout => 3
  | .noMap => 4
  | .noRoute => 5
  | .noService => 6
  | .cancelled => 7

/-- The records that a KEY section matched, as three named values and no set (R112; DESIGN CHOICE, log entry 23). -/
def Matched.code : Matched → Nat
  | .active => 0
  | .arming => 1
  | .both => 2

def KeyFault.code : KeyFault → Nat
  | .check => 0
  | .format => 1

def EntCause.code : EntCause → Nat
  | .entitle => 0
  | .revoke => 1
  | .expiry => 2
  | .purchase => 3

def CreditCause.code : CreditCause → Nat
  | .credit => 0
  | .purchase => 1

def OverrideCause.code : OverrideCause → Nat
  | .expired => 0
  | .ended => 1
  | .profile => 2
  | .splice => 3
  | .standby => 4

def EventClass.code : EventClass → Nat
  | .input => 0
  | .time => 1
  | .channel => 2
  | .gate => 3
  | .access => 4
  | .schedule => 5
  | .parental => 6
  | .guide => 7

/-- The result codes run 00H to 12H (R191). -/
def Result.code : Result → Nat
  | .ok => 0x00
  | .accepted => 0x01
  | .badRequest => 0x02
  | .badParam => 0x03
  | .full => 0x04
  | .duplicate => 0x05
  | .notFound => 0x06
  | .noService => 0x07
  | .noTime => 0x08
  | .timePast => 0x09
  | .standby => 0x0A
  | .notWaiting => 0x0B
  | .tooLate => 0x0C
  | .noRoute => 0x0D
  | .notOffered => 0x0E
  | .noCredit => 0x0F
  | .already => 0x10
  | .logFull => 0x11
  | .grantFull => 0x12

/-- The event codes run 01H to 13H (R191). -/
def Event.code : Event → Nat
  | .inputState .. => 0x01
  | .clockState .. => 0x02
  | .wallSet .. => 0x03
  | .wallRewound .. => 0x04
  | .directoryChanged .. => 0x05
  | .tuneRequest .. => 0x06
  | .changeDone .. => 0x07
  | .mapChanged .. => 0x08
  | .routeDisplaced .. => 0x09
  | .gateChange .. => 0x0A
  | .keyFault .. => 0x0B
  | .entChanged .. => 0x0C
  | .creditChanged .. => 0x0D
  | .reminderDue .. => 0x0E
  | .budgetWarn .. => 0x0F
  | .budgetSpent .. => 0x10
  | .dayRoll .. => 0x11
  | .overrideEnd .. => 0x12
  | .guideChanged .. => 0x13

/-- A named value in one byte. -/
def encCode (code : Nat) : List Byte := [BitVec.ofNat 8 code]

/-- The gate state: OPEN 0, BLOCKED 1, in the order of R163. -/
def encGate (isOpen : Bool) : List Byte := encCode (if isOpen then 0 else 1)

/-- The source set as a bit map (R163, R191). -/
def encSources (x : Sources) : List Byte := encCode (bitMap x.members)

/-- The mask as a bit map of RATING, LOCKED, HOURS and BUDGET (R163, R191; log entry 9). -/
def encMask (mask : Bool) : List Byte := encCode (bitMap [mask, mask, mask, mask])

/-- The streams of the three lanes, each or none. -/
def encLaneStreams (x : LaneStreams) : List Byte :=
  encOptNat 2 x.video ++ encOptNat 2 x.audio ++ encOptNat 2 x.data

/-- The data of an event record: the fields its rule lists, in that order (R191). -/
def Event.data : Event → List Byte
  | .inputState port state => encCode (portCode port) ++ encCode state.code
  | .clockState recovery steps trim error =>
      encCode recovery.code ++ beBytes 2 steps ++ beBytesInt 2 trim ++ encOption 5 (beBytesInt 5) error
  | .wallSet w offset => beBytes 4 w ++ beBytesInt 2 offset
  | .wallRewound before after => beBytes 4 before ++ beBytes 4 after
  | .directoryChanged segment version count => beBytes 1 segment ++ beBytes 1 version ++ beBytes 2 count
  | .tuneRequest service frequency modulation =>
      beBytes 2 service ++ beBytes 4 frequency ++ beBytes 1 modulation
  | .changeDone service reason => beBytes 2 service ++ encCode reason.code
  | .mapChanged service version live keyDiffers =>
      beBytes 2 service ++ beBytes 1 version ++ encLaneStreams live ++ encFlag keyDiffers
  | .routeDisplaced port stream => encCode (portCode port) ++ beBytes 2 stream
  | .gateChange before after openBefore openAfter mask service =>
      encSources before ++ encSources after ++ encGate openBefore ++ encGate openAfter ++ encMask mask
        ++ encOptNat 2 service
  | .keyFault stream matched reason parity =>
      beBytes 2 stream ++ encCode matched.code ++ encCode reason.code ++ [parity]
  | .entChanged cause entries grants earliest =>
      encCode cause.code ++ beBytes 1 entries ++ beBytes 1 grants ++ encOptNat 4 earliest
  | .creditChanged cause granted spent count lowest =>
      encCode cause.code ++ beBytes 4 granted ++ beBytes 4 spent ++ beBytes 1 count ++ encOptNat 4 lowest
  | .reminderDue id due periods w service event =>
      beBytes 2 id ++ beBytes 4 due ++ beBytes 4 periods ++ beBytes 4 w ++ encOptNat 2 service
        ++ encOptNat 2 event
  | .budgetWarn profile remaining => beBytes 1 profile ++ beBytes 1 remaining
  | .budgetSpent profile used budget => beBytes 1 profile ++ beBytes 2 used ++ beBytes 2 budget
  | .dayRoll day before => beBytesInt 4 day ++ beBytesInt 4 before
  | .overrideEnd cause scope =>
      encCode cause.code ++ encCode (if scope.isSome then 0 else 1) ++ encOptNat 2 scope
  | .guideChanged service segment version count store others =>
      beBytes 2 service ++ beBytes 1 segment ++ beBytes 1 version ++ beBytes 2 count ++ beBytes 2 store
        ++ encFlag others

/-- The bytes of a record: its 8-byte header, then its data (R191). -/
def Record.bytes : Record → List Byte
  | .reply code tag result more endMark data =>
      [1#8, code, tag, BitVec.ofNat 8 result.code] ++ beBytes 2 data.length
        ++ [BitVec.ofNat 8 (bitMap [more, endMark]), 0#8] ++ data
  | .event body lost =>
      [2#8, BitVec.ofNat 8 body.code, BitVec.ofNat 8 body.cls.code, BitVec.ofNat 8 lost]
        ++ beBytes 2 body.data.length ++ [0#8, 0#8] ++ body.data

end Sys2Proof.Machine
end

