-- ==== Sys2Proof/Machine/Ops.lean ====
section
/-! DEFINITION. The operations that several blocks share: admitting an event record, answering a request, handing over
to another block, keeping the schedule table, and the small list operations under them. -/

namespace Sys2Proof.Machine

/-- What a command answers. -/
abbrev Answer := Host.Outcome State Fault Refusal

/-- A command's effect while the part runs; held in reset or without supply the part does nothing (R185, R186). -/
def whenRunning (s : State) (effect : State → State) : Answer :=
  .next (if s.running then effect s else s)

/-! ### Lists -/

/-- The list with one entry replaced. -/
def setAt (xs : List α) (k : Nat) (x : α) : List α := xs.set k x

/-- The index of the first entry a test holds of. -/
def indexOf (p : α → Bool) (xs : List α) : Option Nat := xs.findIdx? p

/-- An ordered table with `x` in it: `x` replaces the entry that `same` holds of, or goes in front of the first entry
that `after` holds of, or at the end. -/
def putOrdered (same after : α → Bool) (x : α) : List α → List α
  | [] => [x]
  | y :: ys =>
      if same y then x :: ys
      else if after y then x :: y :: ys
      else y :: putOrdered same after x ys

/-! ### Event records (R182) -/

/-- Offering an event record to the reply queue: disabled, admitted with the lost count, or lost (R182). -/
def emit (e : Event) (s : State) : State :=
  if !(s.rpq.enabled && s.rpq.classes.contains e.cls) then s
  else if s.held < 28 then
    { s with rpq := { s.rpq with queue := s.rpq.queue ++ [.event e s.rpq.lost], lost := 0 } }
  else { s with rpq := { s.rpq with lost := satInc 255 s.rpq.lost } }

/-- Offering several event records, in order. -/
def emitAll (es : List Event) (s : State) : State := es.foldl (fun s e => emit e s) s

/-! ### Replies (R177, R179) -/

/-- Placing the reply records of the request in progress, one for each data, all but the last with the more-flag; the
request is then no longer in progress and its reservation is released (R177, R179). -/
def answerRecords (result : Result) (endMark : Bool) (datas : List (List Byte)) (s : State) : State :=
  match s.rqh.inProgress with
  | none => s
  | some p =>
      let last := datas.length - 1
      let records := datas.zipIdx.map fun (data, k) =>
        Record.reply (BitVec.ofNat 8 p.request.code) p.tag result (decide (k < last)) endMark data
      { s with
        rpq := { s.rpq with queue := s.rpq.queue ++ records }
        rqh := { s.rqh with inProgress := none } }

/-- Placing the one reply record of the request in progress. -/
def answer (result : Result) (data : List Byte) (s : State) : State := answerRecords result false [data] s

/-- A reply with a result and no data. -/
def reply (result : Result) (s : State) : State := answer result [] s

/-- The request in progress, as its owner takes it. -/
def State.asked (s : State) : Option Request := s.rqh.inProgress.map InProgress.request

/-! ### Hand-overs (R30, R47, R64) -/

/-- The channels between blocks. Hand-overs of one channel are taken in the order in which they were made; those of
different channels in any order (R64; log entry 2). -/
inductive Channel where
  | tmbTo (dest : Block)
  | pluToScp
  | scpToTmb
  | scpToEnu
  | scpToGds
  | scpToPlu
  | windowsToPlu
  | pluToGds
  | dscToPgt
  | pluToPgt
  | cceTo (dest : Block)
  | gdsToPlu
  | pgtToPlu
  | enuToDsc
  | dscToCce
  | cinToCce
  deriving DecidableEq, Repr

/-- The block that owns a device kind, as the channel its firing takes (R64). -/
def DeviceKind.channel : DeviceKind → Channel
  | .eventEnd => .scpToGds
  | .dayRoll => .scpToPlu
  | .entExpiry => .scpToEnu
  | .overrideEnd => .scpToPlu
  | .offsetChange => .scpToTmb

/-- The channel of a hand-over. -/
def Handover.channel : Handover → Channel
  | .advance _ => .tmbTo .scp
  | .wallSet dest => .tmbTo dest
  | .rewind dest => .tmbTo dest
  | .offsetChange dest => .tmbTo dest
  | .firing kind _ _ _ => kind.channel
  | .windowStates _ => .windowsToPlu
  | .profileChange => .pluToScp
  | .dayRoll => .pluToGds
  | .dscPosting _ _ => .dscToPgt
  | .pluPosting _ => .pluToPgt
  | .context dest _ _ _ => .cceTo dest
  | .nowEvent _ _ => .gdsToPlu
  | .gateState _ => .pgtToPlu
  | .entNotice => .enuToDsc
  | .armingReport _ _ _ => .dscToCce
  | .portALock => .cinToCce
  | .portAHunt => .cinToCce

/-- Handing over to another block, which takes it as an event of its own. -/
def send (h : Handover) (s : State) : State := { s with inFlight := s.inFlight ++ [h] }

/-- Handing over several, in order. -/
def sendAll (hs : List Handover) (s : State) : State := { s with inFlight := s.inFlight ++ hs }

/-- The hand-over next in a channel, if one is in flight. -/
def State.nextIn (s : State) (c : Channel) : Option Handover := s.inFlight.find? fun h => h.channel == c

/-- The state after the hand-over next in a channel has been taken. -/
def State.taking (s : State) (c : Channel) : State :=
  { s with inFlight := s.inFlight.eraseP fun h => h.channel == c }

/-! ### The schedule table (R57) -/

/-- An entry takes its place: after every entry due no later, before every entry due later (R57). -/
def insertEntry (e : Entry) : List Entry → List Entry
  | [] => [e]
  | x :: xs => if x.due ≤ e.due then x :: insertEntry e xs else e :: x :: xs

/-- The table without the entry of a device kind. -/
def removeDevice (k : DeviceKind) (table : List Entry) : List Entry := table.filter fun e => !e.isDevice k

/-- The table without the reminder of an id. -/
def removeReminder (id : Nat) (table : List Entry) : List Entry := table.filter fun e => e.reminderId != some id

/-- The table with the entry of a device kind at a due time, which is held at 4,294,967,295 (R57). -/
def deviceAt (k : DeviceKind) (due : Nat) (service event : Option Nat) (table : List Entry) : List Entry :=
  insertEntry { kind := .device k, due := min due wallMax, service, event } (removeDevice k table)

/-- The key request: it inserts or moves the kind's entry, and does nothing while WALL_VALID is clear (R57). -/
def keyEntry (k : DeviceKind) (due : Nat) (service event : Option Nat) (s : State) : State :=
  if s.tmb.wallValid then { s with scp := { s.scp with target := deviceAt k due service event s.scp.target } }
  else s

/-- The clear request (R57). -/
def clearEntry (k : DeviceKind) (s : State) : State :=
  { s with scp := { s.scp with target := removeDevice k s.scp.target } }

/-! ### Delivery queues (R30) -/

/-- The queues with the sections of one class replaced. -/
def Queues.with (q : Queues) (c : SectionClass) (xs : List Section) : Queues :=
  match c with
  | .time => { q with time := xs }
  | .directory => { q with directory := xs }
  | .guide => { q with guide := xs }
  | .entitlement => { q with entitlement := xs }
  | .map => { q with map := xs }
  | .key => { q with key := xs }
  | .rating => { q with rating := xs }

/-- The consumer of a class applies the section that it has taken, whole and as one event, and is done with it: the buffer
returns to the pool, and the consumer takes its next section if one waits (R30). A free consumer does nothing. -/
def consume (c : SectionClass) (apply : Section → State → State) (s : State) : State :=
  match s.queues.of c with
  | [] => s
  | x :: rest => apply x { s with queues := s.queues.with c rest }

/-! ### The descrambler's gate sources (R99, R163) -/

/-- DSC posts its two sources together; a posting that changes neither is one the gate would leave without effect
(R106), so it is not sent. -/
def postDsc (noKey notEntitled : Bool) (s : State) : State :=
  if s.dsc.noKey = noKey ∧ s.dsc.notEntitled = notEntitled then s
  else send (.dscPosting noKey notEntitled) { s with dsc := { s.dsc with noKey, notEntitled } }

end Sys2Proof.Machine
end

