-- ==== Sys2Proof/Machine/Gate.lean ====
section
/-! DEFINITION. The Presentation Gate: postings, the presentation context, and GATE_CHANGE (R163, R164). -/

namespace Sys2Proof.Machine

/-- The gate record with the gate state recomputed (R163). -/
def Pgt.recompute (g : Pgt) : Pgt := { g with isOpen := gateIsOpen g.sources g.mask g.presented.isSome }

/-- The GATE_CHANGE event record from one gate record to the next (R164). -/
def gateChangeEvent (before after : Pgt) : Event :=
  .gateChange before.sources after.sources before.isOpen after.isOpen after.mask after.presented

/-- A gate record that has changed its gate state notes the LOCAL time (R164). -/
def Pgt.stampChange (before : Pgt) (now : LocalTime) (after : Pgt) : Pgt :=
  if after.isOpen = before.isOpen then after else { after with lastChange := now }

/-- An event at the PGT: the record is changed, the gate state recomputed; GATE_CHANGE is emitted when the source set
or the gate state changed, and a new gate state is handed to the PLU (R163, R164). -/
def gateEvent (change : Pgt → Pgt) (s : State) : State :=
  let before := s.pgt
  let after := Pgt.stampChange before s.tmb.localTime (change before).recompute
  let moved := after.isOpen != before.isOpen
  if after.sources = before.sources ∧ !moved then { s with pgt := after }
  else
    let s1 := emit (gateChangeEvent before after)
      { s with pgt := { after with emitted := satInc max32 after.emitted } }
    if moved then send (.gateState after.isOpen) s1 else s1

/-- The record with the DSC's two sources as posted. -/
def Pgt.withDsc (noKey notEntitled : Bool) (g : Pgt) : Pgt :=
  { g with sources := { g.sources with noKey, notEntitled } }

/-- The record with the PLU's five sources and the mask as posted. -/
def Pgt.withPlu (p : PluPosting) (g : Pgt) : Pgt :=
  { g with
    sources := { g.sources with rating := p.rating, locked := p.locked, hours := p.hours, budget := p.budget,
                                hostMute := p.hostMute }
    mask := p.mask }

/-- A posting of the DSC, taken by the PGT. -/
def takeDscPosting (s : State) : State :=
  match s.nextIn .dscToPgt with
  | some (.dscPosting noKey notEntitled) => gateEvent (.withDsc noKey notEntitled) (s.taking .dscToPgt)
  | _ => s

/-- A posting of the PLU, taken by the PGT. -/
def takePluPosting (s : State) : State :=
  match s.nextIn .pluToPgt with
  | some (.pluPosting p) => gateEvent (.withPlu p) (s.taking .pluToPgt)
  | _ => s

/-- GATE_POSTING (R163). -/
def execGatePosting (poster : Poster) (s : State) : Answer :=
  match poster with
  | .dsc => whenRunning s takeDscPosting
  | .plu => whenRunning s takePluPosting

/-- A change of the presentation context, taken by the PGT. -/
def takeGateContext (s : State) : State :=
  match s.nextIn (.cceTo .pgt) with
  | some (.context .pgt _ service _) =>
      gateEvent (fun g => { g with presented := service }) (s.taking (.cceTo .pgt))
  | _ => s

/-- What is next in a channel to the PGT from the DSC or the engine, taken by the PGT as one event (R163). -/
def takeAtGate (channel : Channel) (s : State) : State :=
  match channel with
  | .dscToPgt => takeDscPosting s
  | .cceTo .pgt => takeGateContext s
  | _ => s

/-- The part once the PGT has taken everything that waits for it in these channels, in the order handed on, each as one event. -/
def gateCatchUp (channels : List Channel) (s : State) : State :=
  s.inFlight.foldl (fun u h => if channels.contains h.channel then takeAtGate h.channel u else u) s

/-- PGT_CONTEXT_CHANGE (R163). -/
def execPgtContextChange (s : State) : Answer := whenRunning s takeGateContext

end Sys2Proof.Machine
end

