-- ==== Sys2Proof/Machine/Routes.lean ====
section
/-! DEFINITION. The route table and the section assembler behind it: the table's three kinds of change (R15), the
assembly of sections (R21 to R32), and the host's ADD_ROUTE and DROP_ROUTE (R13, R14). -/

namespace Sys2Proof.Machine

/-! ### The table (R9, R15) -/

/-- The route table: 24 entries, none for a free one. -/
abbrev RouteTable := List (Option Route)

/-- Whether a route has this port, stream id and state. -/
def Route.isAt (port : Port) (stream : Nat) (state : RouteState) (r : Route) : Bool :=
  r.port == port && r.stream == stream && r.state == state

/-- The index of the first route a test holds of. -/
def RouteTable.find (t : RouteTable) (p : Route → Bool) : Option Nat := indexOf (fun entry => entry.any p) t

/-- The route at an index, none where the entry is free. -/
def RouteTable.route (t : RouteTable) (k : Nat) : Option Route := (t[k]?).join

/-- The table with every route changed. -/
def RouteTable.mapRoutes (t : RouteTable) (f : Route → Route) : RouteTable := t.map (Option.map f)

/-- The table with the routes a test holds of freed, and their contexts ended with them (R15, R27). -/
def RouteTable.free (t : RouteTable) (p : Route → Bool) : RouteTable := t.map (Option.filter fun r => !p r)

/-- How many routes an owner holds. -/
def RouteTable.owned (t : RouteTable) (o : Owner) : Nat := t.countP fun entry => entry.any (·.owner == o)

/-- The lowest free entry (R9). -/
def RouteTable.lowestFree (t : RouteTable) : Option Nat := indexOf Option.isNone t

/-- The table with a route in the lowest free entry; none where no entry is free, which the quotas exclude (R9). -/
def RouteTable.place (t : RouteTable) (r : Route) : Option RouteTable :=
  t.lowestFree.map fun k => setAt t k (some r)

/-- A LIVE route of owner CHANGE. -/
def Route.liveChange (r : Route) : Bool := r.state == .live && r.owner == .change

/-- An ARMED route. -/
def Route.isArmed (r : Route) : Bool := r.state == .armed

/-- The class set that holds the classes of both. -/
def joinClasses (x y : List SectionClass) : List SectionClass :=
  SectionClass.all.filter fun c => x.contains c || y.contains c

/-- A route that takes on the classes, and any binding, of a further insertion (R15). -/
def Route.addClasses (r : Route) (classes : List SectionClass) (binding : Binding) : Route :=
  match r.use with
  | .sections held =>
      { r with use := .sections (joinClasses held classes)
               binding := if binding = .none then r.binding else binding }
  | _ => r

/-- Whether a route assembles sections. -/
def Route.isSections (r : Route) : Bool :=
  match r.use with
  | .sections _ => true
  | _ => false

/-- Insertion of an ARMED route of owner CHANGE on Port A (R15): a SECTIONS route already ARMED on the stream takes the
classes in; an ARMED route of another use, or 10 routes of owner CHANGE, refuse it. -/
def RouteTable.insertArmed (t : RouteTable) (stream : Nat) (use : RouteUse) (binding : Binding) :
    Option RouteTable :=
  match t.find (Route.isAt .a stream .armed), use with
  | some k, .sections classes =>
      if (t.route k).any fun r => r.isSections && r.owner == .change then
        some (setAt t k ((t.route k).map fun r => r.addClasses classes binding))
      else none
  | some _, _ => none
  | none, _ =>
      if t.owned .change ≥ 10 then none
      else t.place (.fresh .a stream use .armed .change binding)

/-- A route after the conversion: an ARMED route becomes LIVE and a binding of ARMING becomes ACTIVE (R15). -/
def Route.convert (r : Route) : Route :=
  if r.state = .armed then
    { r with state := .live, binding := if r.binding = .arming then .active else r.binding }
  else r

/-- The conversion at the splice, before displaced host routes are freed (R15). -/
def RouteTable.convert (t : RouteTable) : RouteTable := (t.free Route.liveChange).mapRoutes Route.convert

/-- The routes of owner HOST that share their port and stream with a LIVE route of owner CHANGE (R15). -/
def RouteTable.displaced (t : RouteTable) : List Route :=
  let live := (t.filterMap id).filter Route.liveChange
  (t.filterMap id).filter fun h =>
    h.owner == .host && live.any fun r => r.port == h.port && r.stream == h.stream

/-- Freeing the displaced host routes, each reported by ROUTE_DISPLACED, in entry order (R15; log entry 14). -/
def displaceHosts (s : State) : State :=
  let gone := RouteTable.displaced s.routes
  emitAll (gone.map fun h => .routeDisplaced h.port h.stream)
    { s with routes := RouteTable.free s.routes fun r => gone.contains r }

/-! ### Abandonment (R26) -/

/-- Abandoning the section in assembly: its buffer returns, ABANDONED goes up, the context skips on (R26). -/
def Context.abandon (c : Context) : Context :=
  match c.asm with
  | .assembling .. =>
      { asm := .skipping, counts := { c.counts with abandoned := satInc max32 c.counts.abandoned } }
  | _ => c

/-- A route whose section in assembly is abandoned. -/
def Route.abandon (r : Route) : Route := { r with ctx := r.ctx.map Context.abandon }

/-- A port that lost sync or was restarted: its routes' expected continuity is UNSET and its sections in assembly are
abandoned (R3, R5). -/
def RouteTable.resync (t : RouteTable) (port : Port) : RouteTable :=
  t.mapRoutes fun r => if r.port = port then { r.abandon with expected := none } else r

/-! ### Assembly (R22 to R25, R29) -/

/-- Completing a section: dropped at a CRC failure or a full delivery queue, delivered otherwise, and taken at once by a
consumer that is free (R25, R29, R30). -/
def completeSection (port : Port) (stream : Nat) (cls : SectionClass) (bytes : List Byte)
    (counts : SectionCounts) (q : Queues) : Context × Queues :=
  if !crcAgrees bytes then
    ({ asm := .idle, counts := { counts with crcFail := satInc max32 counts.crcFail } }, q)
  else if q.applying cls && decide (cls.limit ≤ q.waiting cls) then
    ({ asm := .idle, counts := { counts with overrun := satInc max32 counts.overrun } }, q)
  else
    ({ asm := .idle, counts := { counts with delivered := satInc max32 counts.delivered } },
     q.with cls (q.of cls ++ [Section.ofBytes port stream cls bytes]))

/-- Going on with the bytes collected so far: complete when they reach the total length (R22, R24). -/
def collect (port : Port) (stream : Nat) (cls : SectionClass) (total : Nat) (bytes : List Byte)
    (counts : SectionCounts) (q : Queues) : Context × Queues :=
  if bytes.length = total then completeSection port stream cls bytes counts q
  else ({ asm := .assembling cls total bytes, counts }, q)

/-- Skipping a section whole (R22). -/
def skipping (counts : SectionCounts) : Context := { asm := .skipping, counts }

/-- A start cell: the section in assembly is abandoned, then the new header is checked in the order class, length,
address, buffer (R22). `free` is the number of free buffers once the abandoned one has returned. -/
def startCell (port : Port) (stream : Nat) (classes : List SectionClass) (group : Option (Nat × Nat))
    (free : Nat) (payload : List Byte) (counts : SectionCounts) (q : Queues) : Context × Queues :=
  let total := totalLengthOf payload
  match (SectionClass.ofCode (byteAt payload 0).toNat).filter classes.contains with
  | none => (skipping { counts with classSkip := satInc max32 counts.classSkip }, q)
  | some cls =>
      if total < 12 then (skipping { counts with lengthSkip := satInc max32 counts.lengthSkip }, q)
      else if cls = .entitlement && !addressMatches group ((payload.drop 8).take (total - 12)) then
        (skipping { counts with addressSkip := satInc max32 counts.addressSkip }, q)
      else if free = 0 then (skipping { counts with noBuffer := satInc max32 counts.noBuffer }, q)
      else collect port stream cls total (payload.take total) counts q

/-- A continuation cell (R24). -/
def continuationCell (port : Port) (stream : Nat) (payload : List Byte) (c : Context) (q : Queues) :
    Context × Queues :=
  match c.asm with
  | .assembling cls total bytes =>
      collect port stream cls total (bytes ++ payload.take (total - bytes.length)) c.counts q
  | .skipping => (c, q)
  | .idle => ({ c with counts := { c.counts with stray := satInc max32 c.counts.stray } }, q)

/-- A cell that a SECTIONS route in entry `k` hands to its context (R18, R22, R24). -/
def assemble (k : Nat) (cell : Cell) (s : State) : State :=
  match RouteTable.route s.routes k with
  | some r =>
      match r.ctx, r.use with
      | some c, .sections classes =>
          let c' := if cell.start then c.abandon else c
          let routes := setAt s.routes k (some { r with ctx := some c' })
          let free := poolSize - buffersInUse routes s.queues
          let out :=
            if cell.start then
              startCell r.port r.stream classes s.enu.group free cell.payload c'.counts s.queues
            else continuationCell r.port r.stream cell.payload c s.queues
          { s with routes := setAt s.routes k (some { r with ctx := some out.1 }), queues := out.2 }
      | _, _ => s
  | none => s

/-! ### The host's routes (R13, R14) -/

/-- The port that a request's port code names: 1 A, 2 B, 3 L (R190). -/
def portOfCode : Nat → Option Port
  | 1 => some .a
  | 2 => some .b
  | 3 => some .l
  | _ => none

/-- ADD_ROUTE (R13). -/
def addRoute (port stream : Nat) (s : State) : State :=
  match (portOfCode port).filter (· != .l) with
  | none => reply .badParam s
  | some p =>
      if stream > 4095 || reservedStreams.contains stream then reply .badParam s
      else if (RouteTable.find s.routes (Route.isAt p stream .live)).isSome then reply .duplicate s
      else if RouteTable.owned s.routes .host ≥ 8 then reply .full s
      else
        match RouteTable.lowestFree s.routes with
        | none => reply .full s
        | some k =>
            answer .ok (beBytes 1 k)
              { s with routes := setAt s.routes k (some (.fresh p stream .pass .live .host .none)) }

/-- DROP_ROUTE: only a route of owner HOST is freed; every other value is NOT_FOUND (R14; log entry 20). -/
def dropRoute (port stream : Nat) (s : State) : State :=
  let isHosts := fun r : Route => r.owner == .host && some r.port == portOfCode port && r.stream == stream
  if (RouteTable.find s.routes isHosts).isSome then
    reply .ok { s with routes := RouteTable.free s.routes isHosts }
  else reply .notFound s

/-- ADD_ROUTE (R13). -/
def execAddRoute (s : State) : Answer :=
  whenRunning s fun s =>
    match s.asked with
    | some (.addRoute port stream) => addRoute port stream s
    | _ => s

/-- DROP_ROUTE (R14). -/
def execDropRoute (s : State) : Answer :=
  whenRunning s fun s =>
    match s.asked with
    | some (.dropRoute port stream) => dropRoute port stream s
    | _ => s

end Sys2Proof.Machine
end

