-- ==== Sys2Proof/Machine/Descrambler.lean ====
section
/-! DEFINITION. The Descrambler: the key records (R99 to R101), KEY sections (R102 to R106), scrambled cells (R108,
R109) and the reports to the channel change engine (R111). -/

namespace Sys2Proof.Machine

/-! ### Key records (R99, R100) -/

/-- A record as it is claimed (R99). -/
def KeyRecord.claim (service stream : Nat) : KeyRecord :=
  { service, stream, criteria := none, verdict := .unknown, even := none, odd := none, live := none,
    checkFailures := 0, liveRefusals := 0, noKeyCells := 0 }

/-- What a slot holds: none for EMPTY. -/
def KeyRecord.slot (r : KeyRecord) : Slot → Option ControlWord
  | .even => r.even
  | .odd => r.odd

/-- A record with a word in a slot. -/
def KeyRecord.fill (r : KeyRecord) (k : Slot) (word : ControlWord) : KeyRecord :=
  match k with
  | .even => { r with even := some word }
  | .odd => { r with odd := some word }

/-- Claiming the ARMING record, whatever it held (R100). -/
def claimArming (service stream : Nat) (s : State) : State :=
  { s with dsc := { s.dsc with arming := some (.claim service stream) } }

/-- Freeing the ARMING record: nothing is posted (R100). -/
def freeArming (s : State) : State := { s with dsc := { s.dsc with arming := none } }

/-- Freeing the ACTIVE record outside the splice: both gate sources are cleared (R100). -/
def freeActive (s : State) : State :=
  match s.dsc.active with
  | none => s
  | some _ => postDsc false false { s with dsc := { s.dsc with active := none } }

/-- The record swap at the splice (R101): the ARMING record, if claimed, becomes the ACTIVE record with the change's
most recent scrambled parity as its live parity, and both sources are posted afresh. -/
def swapRecords (parity : Option Slot) (s : State) : State :=
  let active := s.dsc.arming.map fun r => { r with live := parity.orElse fun _ => r.live }
  let notEntitled := active.any fun r => r.verdict == Verdict.notEntitled
  let noKey := active.any fun r => parity.any fun k => (r.slot k).isNone
  postDsc noKey notEntitled { s with dsc := { s.dsc with active, arming := none } }

/-! ### Verdicts (R104, R106, R107) -/

/-- A record whose verdict is recomputed: a record without criteria stays UNKNOWN, and NOT_ENTITLED empties both
slots (R104, R106). -/
def KeyRecord.recompute (s : State) (r : KeyRecord) : KeyRecord :=
  match r.criteria with
  | none => { r with verdict := .unknown }
  | some c =>
      let verdict := s.verdictOf r.service c
      if verdict = .notEntitled then { r with verdict, even := none, odd := none } else { r with verdict }

/-- The part of a record that the engine's test depends on (R111). -/
def KeyRecord.reported (r : KeyRecord) : Verdict × Bool × Bool := (r.verdict, r.even.isSome, r.odd.isSome)

/-- A recomputation at the ACTIVE record: it takes its new contents and NOT_ENTITLED is posted for it (R106). -/
def updateActive (f : KeyRecord → KeyRecord) (s : State) : State :=
  match s.dsc.active with
  | none => s
  | some r =>
      postDsc s.dsc.noKey ((f r).verdict == Verdict.notEntitled)
        { s with dsc := { s.dsc with active := some (f r) } }

/-- A recomputation at the ARMING record: it takes its new contents, and a change of its verdict or of a slot between
EMPTY and VALID is reported to the engine (R111). -/
def updateArming (f : KeyRecord → KeyRecord) (s : State) : State :=
  match s.dsc.arming with
  | none => s
  | some r =>
      let s1 := { s with dsc := { s.dsc with arming := some (f r) } }
      if (f r).reported = r.reported then s1
      else send (.armingReport (f r).verdict (f r).even.isSome (f r).odd.isSome) s1

/-- Recomputing the verdicts of both claimed records, the ACTIVE record first (R107). -/
def recomputeVerdicts (s : State) : State :=
  updateArming (KeyRecord.recompute s) (updateActive (KeyRecord.recompute s) s)

/-! ### KEY sections (R102, R103, R105) -/

/-- Whether a claimed record takes a section: it came from Port A on the record's key stream (R102). -/
def KeyRecord.takes (x : Section) (r : KeyRecord) : Bool := x.port == .a && x.stream == r.stream

/-- The slot write of R105, under the recomputed verdict. -/
def KeyRecord.write (b : KeyBody) (r : KeyRecord) : KeyRecord :=
  if r.verdict = .entitled then
    let word := Config.unwrap b.wrapped
    match r.slot b.slot with
    | none => r.fill b.slot word
    | some old =>
        if old = word then r
        else if r.live = some b.slot then { r with liveRefusals := satInc max32 r.liveRefusals }
        else r.fill b.slot word
  else r

/-- A matched record after an applied section: criteria, verdict, slot write, in this order (R104, R105). -/
def KeyRecord.applyKey (s : State) (b : KeyBody) (r : KeyRecord) : KeyRecord :=
  (KeyRecord.recompute s { r with criteria := some b.criteria }).write b

/-- Which records a section matches, as KEY_FAULT names them (R112). -/
def matchedOf (active arming : Bool) : Option Matched :=
  match active, arming with
  | true, true => some .both
  | true, false => some .active
  | false, true => some .arming
  | false, false => none

/-- A record with one more check failure (R103). -/
def KeyRecord.fault (x : Section) (r : KeyRecord) : KeyRecord :=
  if r.takes x then { r with checkFailures := satInc max32 r.checkFailures } else r

/-- Discarding a faulty section (R103, R112). -/
def keyFault (x : Section) (matched : Matched) (reason : KeyFault) (s : State) : State :=
  emit (.keyFault x.stream matched reason (keyParityField x.body))
    { s with dsc := { s.dsc with
        active := s.dsc.active.map (KeyRecord.fault x)
        arming := s.dsc.arming.map (KeyRecord.fault x)
        faulted := satInc max32 s.dsc.faulted } }

/-- Applying a KEY section (R102 to R106). -/
def applyKeySection (x : Section) (s : State) : State :=
  match matchedOf (s.dsc.active.any (KeyRecord.takes x)) (s.dsc.arming.any (KeyRecord.takes x)) with
  | none => { s with dsc := { s.dsc with ignored := satInc max32 s.dsc.ignored } }
  | some matched =>
      if !checkPasses x.body then keyFault x matched .check s
      else
        match keyBody x.body with
        | none => keyFault x matched .format s
        | some b =>
            let s1 := { s with dsc := { s.dsc with applied := satInc max32 s.dsc.applied } }
            let s2 := if matched = .arming then s1 else updateActive (KeyRecord.applyKey s b) s1
            if matched = .active then s2 else updateArming (KeyRecord.applyKey s b) s2

/-! ### Scrambled cells (R108, R109) -/

/-- The payload that the cipher makes of a scrambled one (R108). -/
def descramble (word : ControlWord) (payload : List Byte) : List Byte :=
  (List.range payloadBytes).map (Config.descrambledByte word payload)

/-- A scrambled cell of parity `k` at the ACTIVE record: descrambled where the slot is VALID, a null cell where it
is EMPTY (R108, R109). The cell keeps its header; none stands for a null cell. A descrambled cell clears NO_KEY at the gate before it
meets the gate (R108): the PGT takes the posting, after those of the DSC that waited (DEDUCED, log entry 46), in the cell's own
command. -/
def scrambledCell (r : KeyRecord) (k : Slot) (c : Cell) (s : State) : Option Cell × State :=
  match r.slot k with
  | some word =>
      (some { c with payload := descramble word c.payload },
       gateCatchUp [.dscToPgt] (postDsc false s.dsc.notEntitled
         { s with dsc := { s.dsc with active := some { r with live := some k } } }))
  | none =>
      (none,
       postDsc true s.dsc.notEntitled
         { s with dsc := { s.dsc with active := some { r with noKeyCells := satInc max32 r.noKeyCells } } })

/-! ### The commands -/

/-- KEY_SECTION (R102). -/
def execKeySection (s : State) : Answer := whenRunning s (consume .key applyKeySection)

/-- ENT_CHANGE_NOTICE (R107). -/
def execEntChangeNotice (s : State) : Answer :=
  whenRunning s fun s =>
    match s.nextIn .enuToDsc with
    | some .entNotice => recomputeVerdicts (s.taking .enuToDsc)
    | _ => s

/-- DSC_WALL_SET (R107). -/
def execDscWallSet (s : State) : Answer :=
  whenRunning s fun s =>
    match s.nextIn (.tmbTo .dsc) with
    | some (.wallSet .dsc) => recomputeVerdicts (s.taking (.tmbTo .dsc))
    | _ => s

end Sys2Proof.Machine
end

