-- ==== Sys2Proof/Machine/Change.lean ====
section
/-! DEFINITION. The Channel Change Engine: changes from TUNE to their endings (R79 to R94), SET_AUDIO (R95), live map
updates (R96), STANDBY and WAKE (R97, R98). -/

namespace Sys2Proof.Machine

/-! ### Shared operations -/

/-- The restart of Port A at a cross-multiplex change (R5). No report of it goes to the engine, and a report still in
flight is of the carrier given up (R83; log entry 13). -/
def restartPortA (s : State) : State :=
  { s with
    cin := { s.cin with a := { s.cin.a with
      sync := .hunt, goodSync := 0, failures := 0, idle := false, idleSince := none, taken := [] } }
    routes := RouteTable.resync s.routes .a
    inFlight := s.inFlight.filter fun h => h.channel != .cinToCce }

/-- Handing a change of the presentation context to the gate, the guide store and the parental limit unit (R78). -/
def handContext (cause : ContextCause) (service mapStream : Option Nat) (s : State) : State :=
  sendAll [.context .pgt cause service mapStream, .context .gds cause service mapStream,
    .context .plu cause service mapStream] s

/-- The engine in a state with its change record. -/
def enter (e : Engine) (c : Change) (s : State) : State :=
  { s with cce := { s.cce with engine := e, change := some c } }

/-- A new change record, copied from the target's directory record (R82). -/
def Change.start (target : Service) (audio : Option Lang) (now : LocalTime) : Change :=
  { service := target.number, frequency := target.frequency, modulation := target.modulation,
    mapStream := target.mapStream, audio, phaseStart := now, tuningTarget := target.frequency,
    readyMark := false, lockMark := false, map := none, parity := none }

/-- Entering WAIT_MAP: the ARMED map route and the phase start (R86). -/
def enterWaitMap (c : Change) (s : State) : State :=
  enter .waitMap { c with phaseStart := s.tmb.localTime }
    { s with routes :=
        (RouteTable.insertArmed s.routes c.mapStream (.sections [.map, .rating]) .none).getD s.routes }

/-- Dropping what is presented: the LIVE routes of owner CHANGE, the ACTIVE record and the context (R82, R97). -/
def dropPresented (cause : ContextCause) (s : State) : State :=
  let s1 := freeActive { s with routes := RouteTable.free s.routes Route.liveChange }
  handContext cause none none { s1 with cce := { s1.cce with presented := none, tuned := none } }

/-- A cross-multiplex change (R82). -/
def startCross (c : Change) (s : State) : State :=
  let s1 := restartPortA (dropPresented .crossMultiplex s)
  emit (.tuneRequest c.service c.frequency c.modulation) (enter .tuning c s1)

/-- Starting a change (R82): against the tuning target while the engine is in TUNING, which a target on the same carrier
inherits, and against the tuned frequency otherwise. -/
def startChange (target : Service) (audio : Option Lang) (s : State) : State :=
  let c := Change.start target audio s.tmb.localTime
  match s.cce.engine, s.cce.change with
  | .tuning, some old =>
      if target.frequency = old.tuningTarget then
        enter .tuning { c with phaseStart := old.phaseStart, tuningTarget := old.tuningTarget
                               readyMark := old.readyMark, lockMark := old.lockMark } s
      else startCross c s
  | _, _ => if s.cce.tuned = some target.frequency then enterWaitMap c s else startCross c s

/-- Releasing a change: its ARMED routes and its ARMING record go (R91, R92). -/
def releaseChange (s : State) : State :=
  freeArming { s with routes := RouteTable.free s.routes Route.isArmed }

/-- Entering IDLE: the change record is cleared and a pending TUNE is started as if it had just been accepted (R93). -/
def enterIdle (s : State) : State :=
  let s1 := { s with cce := { s.cce with engine := .idle, change := none, pendingTune := none } }
  match s.cce.pendingTune with
  | none => s1
  | some (service, audio) =>
      match s1.sdr.find service with
      | some target => startChange target audio s1
      | none => emit (.changeDone service .noService) s1

/-- The end of a change without a splice: release, CHANGE_DONE with the reason, IDLE (R91). -/
def endChange (reason : DoneReason) (s : State) : State :=
  match s.cce.change with
  | none => s
  | some c => enterIdle (emit (.changeDone c.service reason) (releaseChange s))

/-- A failure in TUNING leaves the tuned frequency none (R84, R91). -/
def failTuning (reason : DoneReason) (s : State) : State :=
  endChange reason { s with cce := { s.cce with tuned := none } }

/-- The stream of the LIVE route of a use, or none (R78). -/
def liveStream (t : RouteTable) (use : RouteUse) : Option Nat :=
  ((t.find fun r => r.liveChange && r.use == use).bind t.route).map Route.stream

/-- The streams of the LIVE present routes (R78). -/
def liveStreams (t : RouteTable) : LaneStreams :=
  { video := liveStream t .video, audio := liveStream t .audio, data := liveStream t .data }

/-- The splice, carried out whole (R90). -/
def splice (reason : DoneReason) (s : State) : State :=
  match s.cce.change with
  | none => s
  | some c =>
      let s1 := displaceHosts { s with routes := RouteTable.convert s.routes }
      let s2 := swapRecords c.parity s1
      let p : Presentation :=
        { service := c.service, frequency := s2.cce.tuned.getD c.frequency, mapStream := c.mapStream
          map := c.map.getD { version := 0, components := [], keyStream := none }
          live := liveStreams s2.routes, audio := c.audio, since := s2.tmb.localTime
          forced := reason == .forced }
      let s3 := handContext .splice (some c.service) (some c.mapStream)
        { s2 with cce := { s2.cce with presented := some p } }
      let s4 := emit (.changeDone c.service reason) s3
      enterIdle { s4 with cce := { s4.cce with lastService := some c.service } }

/-- Entering WAIT_SPLICE: without an ARMED VIDEO route the splice is made at once (R89). -/
def enterWaitSplice (c : Change) (s : State) : State :=
  let s1 := enter .waitSplice { c with phaseStart := s.tmb.localTime } s
  if (RouteTable.find s.routes fun r => r.isArmed && r.use == .video).isSome then s1 else splice .ok s1

/-- The test by which WAIT_KEY is left (R88). -/
def keyUsable (c : Change) (r : KeyRecord) : Bool :=
  r.verdict == .notEntitled
    || (r.verdict == .entitled && c.parity.any fun k => (r.slot k).isSome)

/-- Making the test of WAIT_KEY (R88). -/
def testWaitKey (s : State) : State :=
  match s.cce.engine, s.cce.change, s.dsc.arming with
  | .waitKey, some c, some r => if keyUsable c r then enterWaitSplice c s else s
  | _, _, _ => s

/-- A parity reported from an ARMED present route: it replaces the most recent one, and WAIT_KEY is tested (R17, R88). -/
def parityReport (k : Slot) (s : State) : State :=
  match s.cce.change with
  | none => s
  | some c => testWaitKey { s with cce := { s.cce with change := some { c with parity := some k } } }

/-- The handshake completes when both marks are set (R83). -/
def testHandshake (s : State) : State :=
  match s.cce.engine, s.cce.change with
  | .tuning, some c => if c.readyMark && c.lockMark then enterWaitMap c s else s
  | _, _ => s

/-! ### Programme maps (R85, R87, R96) -/

/-- The first component of a kind. -/
def ProgMap.first (m : ProgMap) (k : ComponentKind) : Option Nat :=
  (m.components.find? fun c => c.kind == k).map Component.stream

/-- The audio component for a preference: the first of that language, or else the first (R87). -/
def ProgMap.audioFor (m : ProgMap) (audio : Option Lang) : Option Nat :=
  let preferred := m.components.find? fun c =>
    c.kind == .audio && audio.any fun want => c.lang.any fun have_ => have_.same want
  (preferred.map Component.stream).orElse fun _ => m.first .audio

/-- The components chosen to be presented (R87). -/
def ProgMap.choose (m : ProgMap) (audio : Option Lang) : LaneStreams :=
  { video := m.first .video, audio := m.audioFor audio, data := m.first .data }

/-- An insertion for a chosen component, nothing for a kind not chosen (R87). -/
def insertChosen (use : RouteUse) (binding : Binding) (stream : Option Nat) (t : RouteTable) : Option RouteTable :=
  match stream with
  | none => some t
  | some n => t.insertArmed n use binding

/-- The insertions of arming, in the order VIDEO, AUDIO, DATA, key stream; none when the table refuses one (R87). -/
def armedTable (m : ProgMap) (streams : LaneStreams) (t : RouteTable) : Option RouteTable :=
  let binding := if m.keyStream.isSome then Binding.arming else Binding.none
  (insertChosen .video binding streams.video t).bind fun t1 =>
    (insertChosen .audio binding streams.audio t1).bind fun t2 =>
      (insertChosen .data binding streams.data t2).bind fun t3 =>
        insertChosen (.sections [.key]) .none m.keyStream t3

/-- Arming a change from its map (R87). A map with a key stream and no components waits in WAIT_KEY as any other map with a key stream
does, where R85 has a change to a map with no components splice at once (DESIGN CHOICE, log entry 47). -/
def armChange (c : Change) (m : ProgMap) (s : State) : State :=
  let c' := { c with map := some m, parity := none, phaseStart := s.tmb.localTime }
  match armedTable m (m.choose c.audio) s.routes with
  | none => endChange .noRoute s
  | some t =>
      match m.keyStream with
      | some k => claimArming c.service k (enter .waitKey c' { s with routes := t })
      | none => enterWaitSplice c' { s with routes := t }

/-- Counting a bad map (R85, R96). -/
def countBadMap (s : State) : State :=
  { s with cce := { s.cce with badMaps := satInc max32 s.cce.badMaps } }

/-- The stream that feeds the lane of a present use. -/
def LaneStreams.of (x : LaneStreams) : RouteUse → Option Nat
  | .video => x.video
  | .audio => x.audio
  | .data => x.data
  | _ => none

/-- The three present uses. -/
def presentUses : List RouteUse := [.video, .audio, .data]

/-- The streams newly chosen: those of a lane whose stream changes (R96). -/
def newStreams (before after : LaneStreams) : List Nat :=
  presentUses.filterMap fun u => if before.of u = after.of u then none else after.of u

/-- Whether a LIVE route of owner CHANGE is one of the present routes being changed (R96). -/
def Route.changesLane (before after : LaneStreams) (r : Route) : Bool :=
  presentUses.contains r.use && before.of r.use != after.of r.use

/-- Whether the new choice clashes: a newly chosen stream is held by a LIVE route of owner CHANGE that stays, or two
lanes newly choose the same stream (R96; log entry 15). -/
def laneClash (t : RouteTable) (before after : LaneStreams) : Bool :=
  let chosen := newStreams before after
  !decide chosen.Nodup || (t.find fun r =>
    r.liveChange && r.port == .a && chosen.contains r.stream && !r.changesLane before after).isSome

/-- A LIVE route rebound to a new stream: entry and binding stay, continuity and counts start afresh (R96). -/
def Route.rebind (stream : Nat) (r : Route) : Route :=
  { r with stream, expected := none, discontinuities := 0, cells := 0 }

/-- The present routes rebound or freed, all at once (R96). -/
def rebindLanes (before after : LaneStreams) (t : RouteTable) : RouteTable :=
  t.map fun entry => entry.bind fun r =>
    if r.liveChange && r.changesLane before after then (after.of r.use).map fun n => r.rebind n else some r

/-- A LIVE route of owner CHANGE on Port A in the lowest free entry. The quota of 10 routes always leaves room for it (R9,
R96). -/
def RouteTable.insertLive (t : RouteTable) (stream : Nat) (use : RouteUse) (binding : Binding) : RouteTable :=
  if t.owned .change ≥ 10 then t else (t.place (.fresh .a stream use .live .change binding)).getD t

/-- The routes inserted for lanes that had no component (R96). -/
def insertLanes (keyed : Bool) (before after : LaneStreams) (t : RouteTable) : RouteTable :=
  presentUses.foldl (fun t u =>
    match before.of u, after.of u with
    | none, some n => t.insertLive n u (if keyed then .active else .none)
    | _, _ => t) t

/-- A live update of the presented service's map (R96). -/
def liveUpdate (p : Presentation) (m : ProgMap) (s : State) : State :=
  let after := m.choose p.audio
  if laneClash s.routes p.live after then countBadMap s
  else
    let routes := insertLanes p.map.keyStream.isSome p.live after (rebindLanes p.live after s.routes)
    let p' := { p with map := { m with keyStream := p.map.keyStream }, live := after }
    emit (.mapChanged p.service m.version after (m.keyStream != p.map.keyStream))
      (displaceHosts { s with routes, cce := { s.cce with presented := some p' } })

/-- The change that a MAP section is for, if any (R85, case 1). -/
def changeOfMap (x : Section) (s : State) : Option Change :=
  if s.cce.engine = .waitMap then
    s.cce.change.filter fun c => x.port == .a && x.stream == c.mapStream && x.key == c.service
  else none

/-- The presentation that a MAP section updates, if any (R85, case 2). -/
def presentationOfMap (x : Section) (s : State) : Option Presentation :=
  s.cce.presented.filter fun p =>
    x.port == .a && x.stream == p.mapStream && x.key == p.service && x.version != p.map.version

/-- Applying a MAP section (R85). -/
def applyMapSection (x : Section) (s : State) : State :=
  match changeOfMap x s, presentationOfMap x s with
  | some c, _ =>
      match mapBody x.version x.body with
      | none => countBadMap s
      | some m => armChange c m s
  | none, some p =>
      match mapBody x.version x.body with
      | none => countBadMap s
      | some m => liveUpdate p m s
  | none, none => s

/-! ### Requests of the host -/

/-- TUNE (R81, R92, R93). -/
def tune (service : Nat) (audio : Option Lang) (s : State) : State :=
  if service = 0 || service > 9999 then reply .badParam s
  else if s.cce.standby then reply .standby s
  else
    match s.sdr.find service with
    | none => reply .noService s
    | some target =>
        let s1 := reply .accepted s
        match s1.cce.engine with
        | .waitSplice =>
            { s1 with cce := { s1.cce with
                pendingTune := some (service, audio)
                pendingReplaced :=
                  if s1.cce.pendingTune.isSome then satInc max32 s1.cce.pendingReplaced
                  else s1.cce.pendingReplaced } }
        | .idle => startChange target audio s1
        | _ => startChange target audio (releaseChange s1)

/-- CANCEL (R94). -/
def cancel (s : State) : State :=
  match s.cce.engine with
  | .idle => reply .notWaiting s
  | .waitSplice => reply .tooLate s
  | _ => endChange .cancelled (reply .ok s)

/-- The change in TUNING whose tuning target is this frequency (R83, R84). -/
def tuningTo (frequency : Nat) (s : State) : Option Change :=
  if s.cce.engine = .tuning then s.cce.change.filter fun c => c.tuningTarget == frequency else none

/-- Whether a lock that the engine has taken still stands: Port A is LOCKED, and no report of a loss is on its way (R83). -/
def State.lockStands (s : State) : Bool := s.cin.a.sync == .locked && !s.inFlight.contains .portAHunt

/-- TUNER_READY (R83, R84): a lock taken before it counts only if it still stands. -/
def tunerReady (frequency : Nat) (s : State) : State :=
  match tuningTo frequency s with
  | none => reply .notWaiting s
  | some c =>
      let s1 := enter .tuning { c with readyMark := true, lockMark := c.lockMark && s.lockStands } (reply .ok s)
      testHandshake { s1 with cce := { s1.cce with tuned := some frequency } }

/-- TUNER_FAIL (R84). -/
def tunerFail (frequency : Nat) (s : State) : State :=
  match tuningTo frequency s with
  | none => reply .notWaiting s
  | some _ => failTuning .tuner (reply .ok s)

/-- The ARMED AUDIO route chosen again after arming; none when its stream holds an ARMED route of another use (R95). -/
def rearmAudio (m : ProgMap) (audio : Option Lang) (t : RouteTable) : Option RouteTable :=
  match (t.find fun r => r.isArmed && r.use == .audio).bind t.route, m.audioFor audio with
  | some r, some n =>
      if n = r.stream then some t
      else if (t.find (Route.isAt .a n .armed)).isSome then none
      else (t.free fun x => x.isArmed && x.use == .audio).insertArmed n .audio r.binding
  | _, _ => some t

/-- The LIVE AUDIO route moved to the stream chosen again; none when the stream holds a LIVE route of another use
(R95; log entry 16). -/
def moveAudio (p : Presentation) (audio : Option Lang) (t : RouteTable) : Option (RouteTable × LaneStreams) :=
  let after := { p.live with audio := p.map.audioFor audio }
  match p.live.audio, after.audio with
  | some n, some n' =>
      if n = n' then some (t, p.live)
      else if (t.find (Route.isAt .a n' .live)).isSome then none
      else some (rebindLanes p.live after t, after)
  | _, _ => some (t, p.live)

/-- SET_AUDIO with a preference that is a language or none (R95). -/
def setAudio (audio : Option Lang) (s : State) : State :=
  match s.cce.engine, s.cce.change, s.cce.presented with
  | .idle, _, none => reply .notWaiting s
  | .idle, _, some p =>
      match moveAudio p audio s.routes with
      | none => reply .noRoute s
      | some (routes, live) =>
          reply .ok { s with routes, cce := { s.cce with presented := some { p with audio, live } } }
  | _, none, _ => reply .ok s
  | .tuning, some c, _ => reply .ok (enter .tuning { c with audio } s)
  | .waitMap, some c, _ => reply .ok (enter .waitMap { c with audio } s)
  | e, some c, _ =>
      match c.map.elim (some s.routes) fun m => rearmAudio m audio s.routes with
      | none => reply .noRoute s
      | some routes => reply .ok (enter e { c with audio } { s with routes })

/-- STANDBY (R97). -/
def enterStandby (s : State) : State :=
  let s1 := reply .ok s
  if s.cce.standby then s1
  else
    let s2 := { s1 with cce := { s1.cce with pendingTune := none } }
    let s3 := dropPresented .standby (endChange .cancelled s2)
    { s3 with cce := { s3.cce with standby := true } }

/-- WAKE (R98). -/
def wake (resume : Nat) (s : State) : State :=
  if resume > 1 then reply .badParam s
  else if !s.cce.standby then reply .notWaiting s
  else
    let s1 := { s with cce := { s.cce with standby := false } }
    if resume = 0 then reply .ok s1
    else
      match s1.cce.lastService.bind s1.sdr.find with
      | none => reply .noService s1
      | some target => startChange target none (reply .accepted s1)

/-! ### The commands -/

/-- TUNE (R81): a preference that is not three letters is none (R190). -/
def execTune (s : State) : Answer :=
  whenRunning s fun s =>
    match s.asked with
    | some (.tune service audio) => tune service (langOrNone audio) s
    | _ => s

/-- CANCEL (R94). -/
def execCancel (s : State) : Answer :=
  whenRunning s fun s =>
    match s.asked with
    | some .cancel => cancel s
    | _ => s

/-- TUNER_READY (R83). -/
def execTunerReady (s : State) : Answer :=
  whenRunning s fun s =>
    match s.asked with
    | some (.tunerReady frequency) => tunerReady frequency s
    | _ => s

/-- TUNER_FAIL (R84). -/
def execTunerFail (s : State) : Answer :=
  whenRunning s fun s =>
    match s.asked with
    | some (.tunerFail frequency) => tunerFail frequency s
    | _ => s

/-- SET_AUDIO (R95): three 00H bytes are none, and any other non-letter is refused. -/
def execSetAudio (s : State) : Answer :=
  whenRunning s fun s =>
    match s.asked with
    | some (.setAudio audio) =>
        if audio.letters || audio = Lang.zero then setAudio (langOrNone audio) s else reply .badParam s
    | _ => s

/-- STANDBY (R97). -/
def execStandby (s : State) : Answer :=
  whenRunning s fun s =>
    match s.asked with
    | some .standby => enterStandby s
    | _ => s

/-- WAKE (R98). -/
def execWake (s : State) : Answer :=
  whenRunning s fun s =>
    match s.asked with
    | some (.wake resume) => wake resume s
    | _ => s

/-- PORT_A_LOCK_REPORT: taken in TUNING it sets the lock mark, and elsewhere changes nothing (R83). -/
def execPortALockReport (s : State) : Answer :=
  whenRunning s fun s =>
    match s.nextIn .cinToCce with
    | some .portALock =>
        let s1 := s.taking .cinToCce
        match s1.cce.engine, s1.cce.change with
        | .tuning, some c => testHandshake (enter .tuning { c with lockMark := true } s1)
        | _, _ => s1
    | _ => s

/-- PORT_A_HUNT_REPORT: taken in TUNING it clears the lock mark (R83). -/
def execPortAHuntReport (s : State) : Answer :=
  whenRunning s fun s =>
    match s.nextIn .cinToCce with
    | some .portAHunt =>
        let s1 := s.taking .cinToCce
        match s1.cce.engine, s1.cce.change with
        | .tuning, some c => enter .tuning { c with lockMark := false } s1
        | _, _ => s1
    | _ => s

/-- Whether the engine has been in a state for at least this many LOCAL milliseconds. -/
def phaseOver (e : Engine) (limit : Nat) (s : State) : Bool :=
  s.cce.engine == e && s.cce.change.any fun c => decide (limit ≤ elapsed c.phaseStart s.tmb.localTime)

/-- TUNE_TIMEOUT (R84). -/
def execTuneTimeout (s : State) : Answer :=
  whenRunning s fun s => if phaseOver .tuning 1500 s then failTuning .tuneTimeout s else s

/-- NO_MAP_TIMEOUT (R86). -/
def execNoMapTimeout (s : State) : Answer :=
  whenRunning s fun s => if phaseOver .waitMap 800 s then endChange .noMap s else s

/-- WAIT_KEY_TIMEOUT (R88). -/
def execWaitKeyTimeout (s : State) : Answer :=
  whenRunning s fun s =>
    match s.cce.change with
    | some c => if phaseOver .waitKey 1200 s then enterWaitSplice c s else s
    | none => s

/-- FORCED_SPLICE (R89). -/
def execForcedSplice (s : State) : Answer :=
  whenRunning s fun s =>
    if phaseOver .waitSplice 1000 s then
      splice .forced { s with cce := { s.cce with forcedSplices := satInc max32 s.cce.forcedSplices } }
    else s

/-- ARMING_REPORT: the engine makes the test of WAIT_KEY on the record as it stands (R88, R111). -/
def execArmingReport (s : State) : Answer :=
  whenRunning s fun s =>
    match s.nextIn .dscToCce with
    | some (.armingReport _ _ _) => testWaitKey (s.taking .dscToCce)
    | _ => s

/-- MAP_SECTION (R85). -/
def execMapSection (s : State) : Answer := whenRunning s (consume .map applyMapSection)

end Sys2Proof.Machine
end

