-- ==== Sys2Proof/Machine/TimeBase.lean ====
section
/-! DEFINITION. The Time Base: stamps and the recovery of NETWORK time (R36 to R44), the second-advance rule (R46, R47),
TIME sections and offsets (R48 to R53). -/

namespace Sys2Proof.Machine

/-! ### Running (R35, R36) -/

/-- The denominator of the rate: one unit of T is 1 / 16,777,216 of it (R36). -/
def rateUnit : Nat := 16777216

/-- One LOCAL millisecond: 8,000 × (1 + T / 16,777,216) ticks, the fraction of a tick carried (R35, R36). -/
def Tmb.runMs (t : Tmb) : Tmb :=
  let owed := t.ntFraction + 8000 * ((rateUnit : Int) + t.trim).toNat
  { t with
    localTime := t.localTime + 1#32
    nt := t.nt + BitVec.ofNat 40 (owed / rateUnit)
    ntFraction := owed % rateUnit }

/-! ### The second-advance check (R46) -/

/-- A whole number of seconds in ticks, modulo 2^40. -/
def secondsInTicks (k : Int) : NetTime := BitVec.ofInt 40 (k * ticksPerSecond)

/-- The check's outcome: nothing handed on, one advance to a wall second, or a rewind. -/
inductive WallMove where
  | still
  | advance (w : Nat)
  | rewind (before after : Nat)
  deriving DecidableEq, Repr

/-- The second-advance check on the wall record (R46). -/
def Tmb.check (t : Tmb) : Tmb × WallMove :=
  let d := (t.nt - t.ns).toInt
  let k := d / ticksPerSecond
  if !t.wallValid then (t, .still)
  else if (ticksPerSecond : Int) ≤ d then
    let w := min (t.w + k.toNat) wallMax
    ({ t with w, ns := t.ns + secondsInTicks k }, .advance w)
  else if d < -2400000000 then
    if (t.w : Int) + k < 0 then ({ t with w := 0, ns := t.nt }, .rewind t.w 0)
    else
      let w := ((t.w : Int) + k).toNat
      ({ t with w, ns := t.ns + secondsInTicks k }, .rewind t.w w)
  else (t, .still)

/-- The hand-overs of a move of the wall: an advance to the SCP, a rewind to the SCP and the GDS (R47). -/
def WallMove.handovers : WallMove → List Handover
  | .still => []
  | .advance w => [.advance w]
  | .rewind _ _ => [.rewind .scp, .rewind .gds]

/-- The event record of a move of the wall: WALL_REWOUND for a rewind (R46). -/
def WallMove.events : WallMove → List Event
  | .rewind before after => [.wallRewound before after]
  | _ => []

/-- Applying the check: the move is handed on (R47), and the event records that are to come before its own are emitted
first (R38). -/
def applyCheck (first : List Event) (s : State) : State :=
  let out := s.tmb.check
  emitAll (first ++ out.2.events) (sendAll out.2.handovers { s with tmb := out.1 })

/-! ### Stamps (R38 to R42) -/

/-- A quarter of the phase error, rounded to nearest with halves away from zero (R42). -/
def quarter (e : Int) : Int := e.sign * ((e.natAbs + 2) / 4 : Nat)

/-- The rate part before the clamp (R42). -/
def Tmb.rawTrim (t : Tmb) (e : Int) : Int := t.trim + 2 * e

/-- The correction: the phase part and the rate part, both at once (R42). -/
def Tmb.correct (t : Tmb) (e : Int) : Tmb :=
  { t with
    nt := t.nt + BitVec.ofInt 40 (quarter e)
    trim := max (-4096) (min 4096 (t.rawTrim e))
    trimLimit := t.trimLimit || decide (t.rawTrim e < -4096) || decide (4096 < t.rawTrim e) }

/-- A load (R39). -/
def Tmb.load (t : Tmb) (stamp : NetTime) : Tmb :=
  { t with
    nt := stamp, recovery := .acquire, good := 0
    steps := if t.recovery = .free then t.steps else satInc max16 t.steps }

/-- A step of NETWORK time to the stamp (R40, R41). -/
def Tmb.stepTo (t : Tmb) (stamp : NetTime) : Tmb :=
  { t with nt := stamp, recovery := .acquire, good := 0, steps := satInc max16 t.steps }

/-- A stamp within the step window in ACQUIRE or HOLDOVER: the correction, the good count and the move towards
LOCKED, with whether CLOCK_STATE is called for (R40). -/
def Tmb.pullIn (t : Tmb) (e : Int) : Tmb × Bool :=
  let t1 := t.correct e
  let good := if e.natAbs ≤ 400 then t.good + 1 else 0
  if good ≥ 3 then ({ t1 with recovery := .locked, good := 0 }, true)
  else ({ t1 with recovery := .acquire, good }, t.recovery == .holdover)

/-- The phase error of a stamp, read as signed (R38). -/
def Tmb.phaseError (t : Tmb) (stamp : NetTime) : Int := (stamp - t.nt).toInt

/-- A stamp's handling by the discontinuity flag and the recovery state, with whether CLOCK_STATE is called for
(R38 to R41). -/
def Tmb.stamp (t : Tmb) (stamp : NetTime) (flag : Bool) : Tmb × Bool :=
  let e := t.phaseError stamp
  let t1 := { t with lastError := some e, lastStamp := some t.localTime, stamps := satInc max32 t.stamps }
  if flag || t.recovery == .free then (t1.load stamp, true)
  else if 12000 < e.natAbs then (t1.stepTo stamp, true)
  else if t.recovery = .locked then (t1.correct e, false)
  else t1.pullIn e

/-- The CLOCK_STATE event record (R44). -/
def Tmb.clockState (t : Tmb) (error : Option Int) : Event := .clockState t.recovery t.steps t.trim error

/-- A stamp arrival: the stamp is handled, the second-advance check follows, then CLOCK_STATE, then WALL_REWOUND
(R38). -/
def stampArrival (payload : List Byte) (s : State) : State :=
  let out := s.tmb.stamp (stampOf payload).1 (stampOf payload).2
  applyCheck (if out.2 then [out.1.clockState out.1.lastError] else []) { s with tmb := out.1 }

/-! ### TIME sections (R48 to R53) -/

/-- Whether an offset lies in −720 to +840 minutes (R48). -/
def offsetOk (offset : Int) : Bool := decide (-720 ≤ offset) && decide (offset ≤ 840)

/-- The seconds that NT lies past an anchor (R48). -/
def Tmb.sinceAnchor (t : Tmb) (n0 : NetTime) : Int := (t.nt - n0).toInt / ticksPerSecond

/-- The wall second W′ that an anchor gives now (R48). -/
def Tmb.anchorWall (t : Tmb) (b : TimeBody) : Int := (b.w0 : Int) + t.sinceAnchor b.n0

/-- The three checks of R48. -/
def Tmb.accepts (t : Tmb) (b : TimeBody) : Bool :=
  t.recovery != .free && offsetOk b.offset && b.next.all (fun n => offsetOk n.2)
    && decide (0 ≤ t.anchorWall b) && decide (t.anchorWall b ≤ wallMax)

/-- Handing an offset change to the SCP and the PLU (R51). -/
def handOffset (s : State) : State := sendAll [.offsetChange .scp, .offsetChange .plu] s

/-- An offset that becomes the current one, handed on where it differs (R51, R53). -/
def setOffset (offset : Int) (s : State) : State :=
  if offset = s.tmb.offset then s else handOffset { s with tmb := { s.tmb with offset } }

/-- The next-change part (R52). -/
def applyNext (next : Option (Nat × Int)) (s : State) : State :=
  match next with
  | some (time, offset) =>
      if s.tmb.w < time then
        keyEntry .offsetChange time none none { s with tmb := { s.tmb with pendingChange := some (time, offset) } }
      else
        clearEntry .offsetChange (setOffset offset { s with tmb := { s.tmb with pendingChange := none } })
  | none => clearEntry .offsetChange { s with tmb := { s.tmb with pendingChange := none } }

/-- The blocks that wait for a valid wall time (R49). -/
def wallSetHandovers : List Handover :=
  [.wallSet .scp, .wallSet .gds, .wallSet .enu, .wallSet .dsc, .wallSet .plu, .wallSet .gwn]

/-- The anchor that sets the wall (R49). -/
def setWall (b : TimeBody) (s : State) : State :=
  sendAll wallSetHandovers
    { s with tmb := { s.tmb with
        wallValid := true
        w := (s.tmb.anchorWall b).toNat
        ns := b.n0 + secondsInTicks (s.tmb.sinceAnchor b.n0) } }

/-- The anchor on a valid wall: N_s is realigned and the check settles the outcome (R50). The check reads NT − N_s as signed
40 bits also for an anchor too far from W for that (DESIGN CHOICE, log entry 40). -/
def realign (b : TimeBody) (s : State) : State :=
  let q := s.tmb.sinceAnchor b.n0
  applyCheck []
    { s with tmb := { s.tmb with
        ns := b.n0 + secondsInTicks (q + ((s.tmb.w : Int) - s.tmb.anchorWall b)) } }

/-- Applying a TIME section: the anchor, the offset, the next change, and WALL_SET where the anchor set the wall
(R48, R49). -/
def applyTimeSection (x : Section) (s : State) : State :=
  match (TimeBody.parse x.body).filter s.tmb.accepts with
  | none => { s with tmb := { s.tmb with rejected := satInc max32 s.tmb.rejected } }
  | some b =>
      let s1 := { s with tmb := { s.tmb with applied := satInc max32 s.tmb.applied } }
      let s2 := if s.tmb.wallValid then realign b s1 else setWall b s1
      let s3 := applyNext b.next (setOffset b.offset s2)
      if s.tmb.wallValid then s3 else emit (.wallSet s3.tmb.w s3.tmb.offset) s3

/-! ### The commands -/

/-- HOLDOVER_WATCH_EXPIRY: 2,000 LOCAL milliseconds without a stamp in ACQUIRE or LOCKED (R43). -/
def holdoverDue (t : Tmb) : Bool :=
  (t.recovery == .acquire || t.recovery == .locked)
    && t.lastStamp.any fun since => decide (2000 ≤ elapsed since t.localTime)

/-- HOLDOVER_WATCH_EXPIRY (R43, R44). -/
def execHoldoverWatchExpiry (s : State) : Answer :=
  whenRunning s fun s =>
    if holdoverDue s.tmb then
      let t := { s.tmb with recovery := .holdover }
      emit (t.clockState none) { s with tmb := t }
    else s

/-- SECOND_ADVANCE (R46). -/
def execSecondAdvance (s : State) : Answer := whenRunning s (applyCheck [])

/-- TIME_SECTION (R48). -/
def execTimeSection (s : State) : Answer := whenRunning s (consume .time applyTimeSection)

/-- OFFSET_CHANGE_FIRING: a due pending change is applied, and a stale firing ignored (R53). -/
def execOffsetChangeFiring (s : State) : Answer :=
  whenRunning s fun s =>
    match s.nextIn .scpToTmb with
    | some (.firing .offsetChange _ _ _) =>
        let s1 := s.taking .scpToTmb
        match s1.tmb.pendingChange with
        | some (time, offset) =>
            if time ≤ s1.tmb.w then setOffset offset { s1 with tmb := { s1.tmb with pendingChange := none } }
            else s1
        | none => s1
    | _ => s

end Sys2Proof.Machine
end

