-- ==== Sys2Proof/Machine/Cells.lean ====
section
/-! DEFINITION. Cell Intake and the handling of cells: sync on Ports A and B (R2, R3), the idle watch (R6), Port L (R1,
R4), the header checks (R7), route lookup and continuity (R11, R12), and forwarding (R16 to R18). -/

namespace Sys2Proof.Machine

/-! ### Ports -/

/-- The record of a serial port; Port L has none. -/
def Cin.serial (c : Cin) : Port → Option SerialPort
  | .a => some c.a
  | .b => some c.b
  | .l => none

/-- The part with a serial port's record changed. -/
def withSerial (port : Port) (f : SerialPort → SerialPort) (s : State) : State :=
  match port with
  | .a => { s with cin := { s.cin with a := f s.cin.a } }
  | .b => { s with cin := { s.cin with b := f s.cin.b } }
  | .l => s

/-- The part with Port L's record changed. -/
def withStrobed (f : StrobedPort → StrobedPort) (s : State) : State :=
  { s with cin := { s.cin with l := f s.cin.l } }

/-- One more on a port's parity-error count (R7, R18). -/
def countParityError (port : Port) (s : State) : State :=
  withStrobed (fun l => if port = .l then { l with parityErrors := satInc max32 l.parityErrors } else l)
    (withSerial port (fun p => { p with parityErrors := satInc max32 p.parityErrors }) s)

/-- One more on a port's unrouted-cell count (R11). -/
def countUnrouted (port : Port) (s : State) : State :=
  withStrobed (fun l => if port = .l then { l with unrouted := satInc max32 l.unrouted } else l)
    (withSerial port (fun p => { p with unrouted := satInc max32 p.unrouted }) s)

/-- One more on a port's received-cell count (R7). -/
def countReceived (port : Port) (s : State) : State :=
  withStrobed (fun l => if port = .l then { l with received := satInc max32 l.received } else l)
    (withSerial port (fun p => { p with received := satInc max32 p.received }) s)

/-- One more on the unkeyed-cell count, which Port A alone has (R8, R16). -/
def countUnkeyed (port : Port) (s : State) : State :=
  if port = .a then { s with cin := { s.cin with unkeyedA := satInc max32 s.cin.unkeyedA } } else s

/-! ### The search for sync (R2) -/

/-- A cell is 160 bytes (R187). -/
def cellBytes : Nat := 160

/-- Whether the byte at an offset, if it has been taken, is a sync byte. -/
def syncAt (bytes : List Byte) (offset : Nat) : Bool := bytes[offset]?.all (· == syncByte)

/-- The search over the bytes kept: the list from the first sync byte that no byte taken so far refutes as a candidate
(R2). A refuted candidate is given up and the search goes on at the byte after it. -/
def scan : List Byte → List Byte
  | [] => []
  | b :: rest =>
      if b == syncByte && syncAt (b :: rest) cellBytes && syncAt (b :: rest) (2 * cellBytes) then b :: rest
      else scan rest

/-- A port in HUNT or VERIFY that has taken these bytes: in HUNT with no candidate, in VERIFY with one, or LOCKED once
the third sync byte has been taken (R2). The idle watch starts with the lock (R6). -/
def SerialPort.search (now : LocalTime) (bytes : List Byte) (p : SerialPort) : SerialPort :=
  let kept := scan bytes
  if kept.isEmpty then { p with sync := .hunt, goodSync := 0, taken := [] }
  else if kept.length ≤ 2 * cellBytes then
    { p with sync := .verify, goodSync := if kept.length ≤ cellBytes then 1 else 2, taken := kept }
  else
    { p with sync := .locked, goodSync := 3, failures := 0, idle := false, idleSince := some now,
             taken := kept.drop (2 * cellBytes) }

/-- What an entry to LOCKED reports (R2). -/
def reportLock (port : Port) (s : State) : State :=
  let s1 := emit (.inputState port .locked) s
  if port = .a then send .portALock s1 else s1

/-- The bytes that a port has still to examine: framed further in LOCKED, searched otherwise. -/
def SerialPort.absorb (now : LocalTime) (bytes : List Byte) (p : SerialPort) : SerialPort :=
  if p.sync = .locked then { p with taken := p.taken ++ bytes } else p.search now (p.taken ++ bytes)

/-- A byte taken on a port in HUNT or VERIFY (R2). -/
def searchByte (port : Port) (byte : Byte) (s : State) : State :=
  match s.cin.serial port with
  | none => s
  | some p =>
      if p.sync = .locked then s
      else
        let p' := p.search s.tmb.localTime (p.taken ++ [byte])
        let s1 := withSerial port (fun _ => p') s
        if p'.sync = .locked then reportLock port s1 else s1

/-! ### Forwarding (R16 to R18) -/

/-- A cell as a LIVE present route sends it on, or none where a null cell takes its place (R16). -/
def sendPresent (use : RouteUse) (c : Cell) (s : State) : State :=
  match use with
  | .video => { s with lanes := { s.lanes with video := s.lanes.video ++ [c] } }
  | .audio => { s with lanes := { s.lanes with audio := s.lanes.audio ++ [c] } }
  | _ => { s with lanes := { s.lanes with waiting := s.lanes.waiting ++ [c] } }

/-- The first step of forwarding: a clear cell stands, a scrambled one goes to the descrambler on a route bound to the
ACTIVE record and is replaced by a null cell elsewhere (R16). -/
def clearCell (r : Route) (c : Cell) (s : State) : Option Cell × State :=
  match c.parity.slot with
  | none => (some c, s)
  | some k =>
      match r.binding, s.dsc.active with
      | .active, some record => scrambledCell record k c s
      | _, _ => (none, countUnkeyed r.port s)

/-- The last two steps of forwarding: the gate, and the parity with which a cell leaves (R16). -/
def gated (isOpen broken : Bool) (use : RouteUse) (c : Option Cell) : Cell :=
  match c with
  | some c =>
      if isOpen then { c with parity := if broken && use == .video then .reserved else .clear } else nullCell
  | none => nullCell

/-- A cell of a LIVE present route; `broken` tells a cell out of sequence. It meets the gate as the first step has left it (R16,
R108). -/
def forward (r : Route) (broken : Bool) (c : Cell) (s : State) : State :=
  let out := clearCell r c s
  sendPresent r.use (gated out.2.pgt.isOpen broken r.use out.1) out.2

/-- A marker cell that the engine takes as its splice point: the splice, then the same cell handled by the route now
LIVE in its entry, without a second continuity check (R17, R89). The count of the first check is the only trace
of a break (R12). The cell is the first to meet the gate for the new service (R17): before it the PGT takes what the splice handed
it, the descrambler's posting and the new context, as the splice is whole before the cell is handled (R90; DEDUCED, log entry 43).
Where the splice starts a pending cross-multiplex TUNE (R90), which frees that route (R82), no route is left for the cell and it
goes nowhere (DESIGN CHOICE, log entry 39). -/
def spliceOn (k : Nat) (c : Cell) (s : State) : State :=
  let s1 := splice .ok s
  match RouteTable.route s1.routes k with
  | some r => if r.state == .live && r.use == .video then forward r false c (gateCatchUp [.dscToPgt, .cceTo .pgt] s1) else s1
  | none => s1

/-- A cell of an ARMED present route: its parity is reported, then a marker cell (R17). -/
def observe (k : Nat) (r : Route) (c : Cell) (s : State) : State :=
  let s1 := match c.parity.slot with
    | some slot => parityReport slot s
    | none => s
  if r.use == .video && c.start && c.marker && s1.cce.engine == .waitSplice then spliceOn k c s1 else s1

/-- The part with the section in assembly of an entry abandoned (R12, R18, R26). -/
def abandonEntry (k : Nat) (s : State) : State :=
  { s with routes := setAt s.routes k ((RouteTable.route s.routes k).map Route.abandon) }

/-- A cell of a SECTIONS route: a scrambled one is discarded, and the break of continuity abandons the section in
assembly as the discard does (R12, R18). -/
def sectionsCell (k : Nat) (r : Route) (broken : Bool) (c : Cell) (s : State) : State :=
  if c.parity.slot.isSome then abandonEntry k (countParityError r.port s)
  else assemble k c (if broken then abandonEntry k s else s)

/-- A cell handled by the use and state of the route that took it (R16 to R18). -/
def useCell (k : Nat) (r : Route) (broken : Bool) (c : Cell) (s : State) : State :=
  match r.use with
  | .video | .audio | .data => if r.state = .live then forward r broken c s else observe k r c s
  | .sections _ => sectionsCell k r broken c s
  | .stamps => if c.parity.slot.isSome then countParityError r.port s else stampArrival c.payload s
  | .control =>
      if c.parity.slot.isSome then countParityError r.port s
      else { s with rqh := { s.rqh with intake := s.rqh.intake ++ [c.payload] } }
  | .pass => { s with lanes := { s.lanes with waiting := s.lanes.waiting ++ [c] } }

/-- Whether a cell is out of sequence on a route (R12). -/
def Route.broken (c : Cell) (r : Route) : Bool := r.expected.any (· != c.continuity)

/-- A route that has taken a cell: the cell count, the continuity check, and the count expected next (R11, R12). -/
def Route.take (c : Cell) (r : Route) : Route :=
  { r with
    cells := satInc max32 r.cells
    discontinuities := if r.broken c then satInc max16 r.discontinuities else r.discontinuities
    expected := some (c.continuity + 1#4) }

/-- A cell taken by the route of an entry (R11). -/
def takeCell (k : Nat) (c : Cell) (s : State) : State :=
  match RouteTable.route s.routes k with
  | none => s
  | some r =>
      useCell k (r.take c) (r.broken c) c { s with routes := setAt s.routes k (some (r.take c)) }

/-- The route lookup: the LIVE route of the cell's port and stream, then the ARMED one, or an unrouted cell (R11). -/
def lookup (port : Port) (c : Cell) (s : State) : State :=
  match RouteTable.find s.routes (Route.isAt port c.stream.toNat .live),
      RouteTable.find s.routes (Route.isAt port c.stream.toNat .armed) with
  | none, none => countUnrouted port s
  | some k, none => takeCell k c s
  | none, some k => takeCell k c s
  | some k, some k' => takeCell k' c (takeCell k c s)

/-- The header checks on a cell with a good sync byte (R7). -/
def checkHeader (port : Port) (c : Cell) (s : State) : State :=
  let s1 := countReceived port s
  if c.parity = .reserved then countParityError port s1
  else if c.stream = 4095#12 then s1
  else if port = .l ∧ c.stream ≠ 4080#12 then
    withStrobed (fun l => { l with foreign := satInc max32 l.foreign }) s1
  else lookup port c s1

/-! ### Cell arrivals (R3, R4, R6) -/

/-- The third consecutive failure: the port leaves LOCKED for HUNT (R3). -/
def losePort (port : Port) (s : State) : State :=
  let s1 := withSerial port (fun p =>
    { p with sync := .hunt, goodSync := 0, failures := 0, idle := false, idleSince := none, taken := []
             syncLosses := satInc max16 p.syncLosses }) s
  let s2 := emit (.inputState port .lost) { s1 with routes := RouteTable.resync s1.routes port }
  if port = .a then send .portAHunt s2 else s2

/-- An arrival at the idle watch: a set flag is cleared and reported, and the watch restarts (R6). -/
def noteArrival (port : Port) (p : SerialPort) (s : State) : State :=
  let s1 := withSerial port (fun p => { p with idle := false, idleSince := some s.tmb.localTime }) s
  if p.idle then emit (.inputState port .active) s1 else s1

/-- A cell that a LOCKED port has framed (R3). -/
def frameCell (port : Port) (bytes : List Byte) (s : State) : State :=
  if byteAt bytes 0 = syncByte then
    checkHeader port (.ofBytes bytes) (withSerial port (fun p => { p with failures := 0 }) s)
  else
    let s1 := withSerial port (fun p =>
      { p with syncErrors := satInc max32 p.syncErrors, failures := p.failures + 1 }) s
    if (s1.cin.serial port).any fun p => decide (3 ≤ p.failures) then losePort port s1 else s1

/-- Bytes taken on a LOCKED port: the 160th byte of the cell in progress makes a cell arrival, and the bytes after it are
framed or searched further (R3). -/
def takeBytes (port : Port) (bytes : List Byte) (s : State) : State :=
  match s.cin.serial port with
  | none => s
  | some p =>
      if p.sync != .locked then s
      else
        let all := p.taken ++ bytes
        if all.length < cellBytes then withSerial port (fun p => { p with taken := all }) s
        else
          let s1 := noteArrival port p (withSerial port (fun p => { p with taken := [] }) s)
          let s2 := frameCell port (all.take cellBytes) s1
          withSerial port (SerialPort.absorb s2.tmb.localTime (all.drop cellBytes)) s2

/-- A cell that Port L has framed (R4). -/
def frameStrobed (bytes : List Byte) (s : State) : State :=
  if byteAt bytes 0 = syncByte then checkHeader .l (.ofBytes bytes) s
  else withStrobed (fun l => { l with syncErrors := satInc max32 l.syncErrors }) s

/-- A strobe: it begins a cell, and ends a short one as a sync error (R1). -/
def StrobedPort.strobe (l : StrobedPort) : StrobedPort :=
  { l with framing := some []
           syncErrors := if l.framing.isSome then satInc max32 l.syncErrors else l.syncErrors }

/-- Bytes on Port L, the first of them with or without the strobe: none is taken while ready is withdrawn, and bytes
outside a cell are discarded (R1). -/
def takeStrobed (strobe : Bool) (bytes : List Byte) (s : State) : State :=
  if !s.ready then s
  else
    let s1 := if strobe then withStrobed StrobedPort.strobe s else s
    match s1.cin.l.framing with
    | none => s1
    | some l =>
        let all := l ++ bytes
        if all.length < cellBytes then withStrobed (fun p => { p with framing := some all }) s1
        else frameStrobed (all.take cellBytes) (withStrobed (fun p => { p with framing := none }) s1)

/-! ### The commands -/

/-- SYNC_SEARCH (R2). -/
def execSyncSearch (port : Port) (byte : Byte) (s : State) : Answer := whenRunning s (searchByte port byte)

/-- CELL_ARRIVAL (R3). -/
def execCellArrival (port : Port) (bytes : List Byte) (s : State) : Answer := whenRunning s (takeBytes port bytes)

/-- PORT_L_CELL (R4). -/
def execPortLCell (strobe : Bool) (bytes : List Byte) (s : State) : Answer :=
  whenRunning s (takeStrobed strobe bytes)

/-- Whether a port's idle watch has run out: 200 LOCAL milliseconds without a cell arrival (R6). -/
def idleDue (p : SerialPort) (now : LocalTime) : Bool :=
  p.sync == .locked && p.idleSince.any fun since => decide (200 ≤ elapsed since now)

/-- The idle watch running out: the flag is set, IDLE reported, and the watch stops (R6). -/
def goIdle (port : Port) (s : State) : State :=
  emit (.inputState port .idle) (withSerial port (fun p => { p with idle := true, idleSince := none }) s)

/-- IDLE_WATCH_EXPIRY (R6). -/
def execIdleWatchExpiry (port : Port) (s : State) : Answer :=
  whenRunning s fun s =>
    if (s.cin.serial port).any fun p => idleDue p s.tmb.localTime then goIdle port s else s

end Sys2Proof.Machine
end

