-- ==== Sys2Proof/Machine/Reset.lean ====
section
/-! DEFINITION. Warm resets and the cold start (R185, R186), the reset pin, and the loss of the main supply. -/

namespace Sys2Proof.Machine

/-- PLU after a warm reset: the profiles, the active profile and the stored day number stand, and BUDGET is posted when
the retained active profile is spent (R148, R165). -/
def Plu.warm (p : Plu) : Plu :=
  { Plu.reset with
    profiles := p.profiles, active := p.active, dayNumber := p.dayNumber
    posted := { PluPosting.clear with budget := p.activeProfile.isSpent } }

/-- PGT after a warm reset, with BUDGET as the PLU posts it (R165). -/
def Pgt.warm (p : Plu) : Pgt :=
  { Pgt.reset with sources := { Sources.empty with budget := p.activeProfile.isSpent } }

/-- ENU after a warm reset: all of its state but the counts stands (R118). -/
def Enu.warm (e : Enu) : Enu := { e with applied := 0, checkFailed := 0, formFailed := 0, tiersDropped := 0 }

/-- A range after a warm reset: its profile and minutes stand (R69); the contain flag is clear until the next evaluation
(log entry 25). -/
def HoursRange.warm (r : HoursRange) : HoursRange := { r with contains := false }

/-- The lanes after a reset: no cell waits, and the arbiter acts as if the last cell had been a forwarded one (R19). The
record of what has left stands (log entry 26). -/
def Lanes.cleared (l : Lanes) : Lanes := { l with waiting := [], lastStatus := false }

/-- A warm reset with its cause: every block takes the values its chapter gives, and the retained store stands (R185,
R186). -/
def warmResetFrom (cause : ResetCause) (s : State) : State :=
  { State.reset with
    scp := { Scp.reset with ranges := s.scp.ranges.map HoursRange.warm }
    cce := { Cce.reset with lastService := s.cce.lastService }
    enu := s.enu.warm
    plu := s.plu.warm
    pgt := .warm s.plu
    rpq := { Rpq.reset with classes := s.rpq.classes, enabled := s.rpq.enabled }
    lanes := s.lanes.cleared
    rts := { cause, warmResets := satInc max16 s.rts.warmResets }
    power := s.power
    draws := s.draws
    pending := s.pending }

/-- The main supply present. -/
def powerOn (s : State) : State := { s with power := { s.power with powered := true } }

/-- The reset pin low. -/
def holdPin (s : State) : State := { s with power := { s.power with pinLow := true } }

/-- A pin reset takes place when the pin goes low on a part with supply (R185). -/
def pinReset (s : State) : State :=
  if s.power.powered && !s.power.pinLow then holdPin (warmResetFrom .pin s) else holdPin s

/-- The pin going high again ends the hold (R185). -/
def releasePin (s : State) : State := { s with power := { s.power with pinLow := false } }

/-- A cold start: everything at its cold-start value (R186). The pin's level and the model's own fields stand. -/
def coldStart (s : State) : State :=
  { State.reset with
    lanes := s.lanes.cleared, power := { powered := true, pinLow := s.power.pinLow }, draws := s.draws, pending := s.pending }

/-! ### The commands -/

/-- COLD_START (R186). -/
def execColdStart (s : State) : Answer := .next (coldStart s)

/-- RESET_PIN_RELEASE (R185). -/
def execResetPinRelease (s : State) : Answer := .next (releasePin s)

/-- MAIN_SUPPLY_LOSS: the part stops, and what it holds outside the retained store is lost at the next power-up
(R186). -/
def execMainSupplyLoss (s : State) : Answer :=
  .next { s with power := { s.power with powered := false } }

end Sys2Proof.Machine
end

