-- ==== Sys2Proof/Machine/Tables.lean ====
section
/-! DEFINITION. The sixteen tables of READ_TABLE (R20, R33, R55, R72, R73, R77, R113, R131, R147, R167, R180, R181), each
as the list of its records from index 0, coded as R191 codes them (log entry 23). -/

namespace Sys2Proof.Machine

/-! ### Shared codings -/

/-- A field that may be absent and has no fixed width: a presence byte, then the field, or the bytes of a blank one, all
0 (R191). -/
def encMaybe (enc : α → List Byte) (blank : α) : Option α → List Byte
  | none => 0#8 :: (enc blank).map fun _ => 0#8
  | some v => 1#8 :: enc v

/-- A record that is marked free, unused or without context: the mark alone, or 01H and the record (log entry 23). -/
def encMarked (enc : α → List Byte) : Option α → List Byte
  | none => [0#8]
  | some v => 1#8 :: enc v

/-- A 32-bit count. -/
def encCount (n : Nat) : List Byte := beBytes 4 n

/-- Several 32-bit counts, in order. -/
def encCounts (ns : List Nat) : List Byte := ns.flatMap encCount

/-- A language, coded as text: a length byte of 3 and the letters (DESIGN CHOICE, log entry 23). -/
def encLang (l : Lang) : List Byte := encText [l.l0, l.l1, l.l2]

/-- A language, or none. -/
def encOptLang (l : Option Lang) : List Byte := encMaybe encLang .zero l

/-- A window state: OPEN 0, CLOSED 1 (R155). -/
def encWindow (isOpen : Bool) : List Byte := encCode (if isOpen then 0 else 1)

/-- A set of advisory flags (R148). -/
def encAdvisory (flags : Advisory) : List Byte := beBytes 1 flags.toNat

/-- A version, or ABSENT. -/
def encVersion (v : Option Nat) : List Byte := encOptNat 1 v

/-! ### IDENT and PORTS (R8, R181) -/

/-- The causes in the order of R181. -/
def causeCode : ResetCause → Nat
  | .power => 0
  | .pin => 1
  | .request => 2
  | .cold => 3

/-- The event class set as a bit map (R183). -/
def encClasses (classes : List EventClass) : List Byte := encCode (bitMap (EventClass.all.map classes.contains))

/-- IDENT (R181). -/
def tableIdent (s : State) : List (List Byte) :=
  [beBytes 4 Config.unitAddress.toNat ++ Config.partRevision ++ encCode (causeCode s.rts.cause)
    ++ beBytes 2 s.rts.warmResets ++ encClasses s.rpq.classes ++ encFlag s.rpq.enabled ++ beBytes 1 s.held
    ++ beBytes 1 s.rpq.lost ++ beBytes 1 s.rqh.intake.length]

/-- The fields that the records of Ports A and B share (R8). -/
def encSerial (p : SerialPort) : List Byte :=
  encCode p.sync.code ++ encFlag p.idle ++ encCounts [p.received, p.syncErrors] ++ beBytes 2 p.syncLosses
    ++ encCounts [p.parityErrors, p.unrouted]

/-- The record of Port L (R8). -/
def encStrobed (p : StrobedPort) : List Byte :=
  encCode SyncState.locked.code ++ encCounts [p.received, p.syncErrors, p.parityErrors, p.unrouted, p.foreign]

/-- PORTS (R8). -/
def tablePorts (s : State) : List (List Byte) :=
  [encSerial s.cin.a ++ encCount s.cin.unkeyedA, encSerial s.cin.b, encStrobed s.cin.l]

/-! ### ROUTES and SECTIONS (R20, R33) -/

def RouteUse.code : RouteUse → Nat
  | .video => 0
  | .audio => 1
  | .data => 2
  | .sections _ => 3
  | .stamps => 4
  | .control => 5
  | .pass => 6

/-- The class set of a SECTIONS use. -/
def RouteUse.classes : RouteUse → Option (List SectionClass)
  | .sections classes => some classes
  | _ => none

/-- A class set as a bit map, in the order of R9. -/
def encSectionClasses (classes : List SectionClass) : List Byte :=
  encCode (bitMap (SectionClass.all.map classes.contains))

def RouteState.code : RouteState → Nat
  | .live => 0
  | .armed => 1

def Owner.code : Owner → Nat
  | .fixed => 0
  | .change => 1
  | .host => 2

/-- A key binding: ACTIVE, ARMING or none. -/
def encBinding : Binding → List Byte
  | .active => [1#8, 0#8]
  | .arming => [1#8, 1#8]
  | .none => [0#8, 0#8]

/-- Every field of R9. -/
def encRoute (r : Route) : List Byte :=
  encCode (portCode r.port) ++ beBytes 2 r.stream ++ encCode r.use.code
    ++ encOption 1 encSectionClasses r.use.classes ++ encCode r.state.code ++ encCode r.owner.code
    ++ encBinding r.binding ++ encOptNat 1 (r.expected.map BitVec.toNat) ++ beBytes 2 r.discontinuities
    ++ encCount r.cells

/-- ROUTES (R20). -/
def tableRoutes (s : State) : List (List Byte) := s.routes.map (encMarked encRoute)

def Assembly.code : Assembly → Nat
  | .idle => 0
  | .assembling .. => 1
  | .skipping => 2

/-- The bytes collected, while ASSEMBLING. -/
def Assembly.collected : Assembly → Option Nat
  | .assembling _ _ bytes => some bytes.length
  | _ => none

/-- The nine counts in the order of R32. -/
def SectionCounts.list (c : SectionCounts) : List Nat :=
  [c.delivered, c.classSkip, c.lengthSkip, c.addressSkip, c.noBuffer, c.abandoned, c.stray, c.crcFail, c.overrun]

/-- The record of a route's context (R33). -/
def encContext (r : Route) (c : Context) : List Byte :=
  encCode (portCode r.port) ++ beBytes 2 r.stream ++ encCode r.state.code
    ++ encSectionClasses (r.use.classes.getD []) ++ encCode c.asm.code ++ encOptNat 2 c.asm.collected
    ++ encCounts c.counts.list

/-- The pool record (R33). -/
def encPool (s : State) : List Byte :=
  beBytes 1 s.freeBuffers ++ SectionClass.all.flatMap (fun c => beBytes 1 (s.queues.waiting c))
    ++ SectionClass.all.flatMap (fun c => encFlag (s.queues.applying c))

/-- SECTIONS (R33). -/
def tableSections (s : State) : List (List Byte) :=
  encPool s :: s.routes.map fun entry =>
    encMarked id (entry.bind fun r => r.ctx.map (encContext r))

/-! ### TIME (R55) -/

/-- What TIME holds when WALL_VALID is set; the next local midnight can lie beyond the last wall second (R54), so it takes 5
bytes. -/
def encWallRecord (t : Tmb) : List Byte :=
  beBytes 4 t.w ++ beBytes 5 t.ns.toNat ++ beBytesInt 2 t.offset ++ beBytesInt 5 t.lw ++ beBytes 2 t.minute
    ++ beBytesInt 4 t.day ++ beBytes 5 t.midnight

/-- A change time and a new offset. -/
def encPending (p : Nat × Int) : List Byte := beBytes 4 p.1 ++ beBytesInt 2 p.2

/-- TIME (R55). WALL_VALID stands before the values that depend on it as their presence byte. -/
def tableTime (s : State) : List (List Byte) :=
  let t := s.tmb
  [beBytes 4 t.localTime.toNat ++ beBytes 5 t.nt.toNat ++ beBytesInt 2 t.trim ++ encCode t.recovery.code
    ++ beBytes 1 t.good ++ beBytes 2 t.steps ++ encFlag t.trimLimit
    ++ encOptNat 4 (t.lastStamp.map BitVec.toNat) ++ encOption 5 (beBytesInt 5) t.lastError ++ encCount t.stamps
    ++ encMaybe encWallRecord t (if t.wallValid then some t else none)
    ++ encOption 6 encPending t.pendingChange ++ encCounts [t.applied, t.rejected]]

/-! ### SCHEDULE and RANGES (R72, R73) -/

def DeviceKind.code : DeviceKind → Nat
  | .eventEnd => 1
  | .dayRoll => 2
  | .entExpiry => 3
  | .overrideEnd => 4
  | .offsetChange => 5

/-- The kind, REMINDER being 0 (R56). -/
def EntryKind.code : EntryKind → Nat
  | .reminder .. => 0
  | .device k => k.code

/-- The period of a reminder. -/
def EntryKind.period : EntryKind → Option Nat
  | .reminder _ period _ => some period
  | .device _ => none

/-- The due-held mark of a reminder. -/
def EntryKind.held : EntryKind → Option Bool
  | .reminder _ _ held => some held
  | .device _ => none

/-- Every field of R56. -/
def encEntry (e : Entry) : List Byte :=
  encCode e.kind.code ++ beBytes 4 e.due ++ encOptNat 4 e.kind.period ++ encOptNat 2 e.reminderId
    ++ encOptNat 2 e.service ++ encOptNat 2 e.event ++ encOption 1 encFlag e.kind.held

/-- SCHEDULE (R72). -/
def tableSchedule (s : State) : List (List Byte) :=
  (encFlag s.scp.hold ++ beBytes 1 s.scp.target.length ++ beBytes 1 s.scp.reminders.length)
    :: s.scp.target.map encEntry

/-- One range; the mark unused is the absence of its profile (DESIGN CHOICE, log entry 23). -/
def encRange (r : HoursRange) : List Byte :=
  encOptNat 1 r.profile ++ beBytes 2 r.lower ++ beBytes 2 r.upper ++ encFlag r.contains

/-- RANGES (R73). -/
def tableRanges (s : State) : List (List Byte) :=
  s.scp.ranges.map encRange ++ [s.scp.windows.flatMap encWindow ++ encOptNat 2 s.scp.lastMinute]

/-! ### DIRECTORY (R77) -/

/-- Every field of R74. -/
def encService (r : Service) : List Byte :=
  beBytes 2 r.number ++ beBytes 4 r.frequency ++ beBytes 1 r.modulation ++ beBytes 2 r.mapStream
    ++ encList (beBytes 2) r.tiers ++ encFlag r.hidden ++ encText r.name ++ beBytes 1 r.segment

/-- DIRECTORY (R77). -/
def tableDirectory (s : State) : List (List Byte) :=
  (beBytes 2 s.sdr.services.length ++ s.sdr.versions.flatMap encVersion
    ++ encCounts [s.sdr.applied, s.sdr.rejected, s.sdr.entriesRejected, s.sdr.entriesDropped])
    :: s.sdr.services.map encService

/-! ### KEYS (R113) -/

/-- Criteria: a kind byte, 0 for a tier list and 1 for an event criterion, then the contents in the order of R99. R191 codes no
choice of two forms (DESIGN CHOICE, log entry 23). -/
def encCriteria : Criteria → List Byte
  | .tiers list => encCode 0 ++ encList (beBytes 2) list
  | .event id price => encCode 1 ++ beBytes 2 id ++ beBytes 2 price

def Verdict.code : Verdict → Nat
  | .unknown => 0
  | .entitled => 1
  | .notEntitled => 2

/-- A slot's state: EMPTY 0, VALID 1; the control word itself is in no record (R113). -/
def encSlot (word : Option ControlWord) : List Byte := encCode (if word.isSome then 1 else 0)

/-- A scrambled parity: NONE 0, EVEN 1, ODD 2. -/
def encParity : Option Slot → List Byte
  | none => encCode 0
  | some .even => encCode 1
  | some .odd => encCode 2

/-- A key record (R113). -/
def encKeyRecord (r : KeyRecord) : List Byte :=
  beBytes 2 r.service ++ beBytes 2 r.stream ++ encMaybe encCriteria (.tiers []) r.criteria
    ++ encCode r.verdict.code ++ encSlot r.even ++ encSlot r.odd ++ encParity r.live
    ++ encCounts [r.checkFailures, r.liveRefusals, r.noKeyCells]

/-- KEYS (R113). -/
def tableKeys (s : State) : List (List Byte) :=
  [encMarked encKeyRecord s.dsc.active, encMarked encKeyRecord s.dsc.arming,
   encCounts [s.dsc.applied, s.dsc.ignored, s.dsc.faulted] ++ encFlag s.dsc.noKey ++ encFlag s.dsc.notEntitled]

/-! ### ENTITLEMENTS, GRANTS, PURCHASES and CREDIT (R131) -/

/-- ENTITLEMENTS (R131). -/
def tableEntitlements (s : State) : List (List Byte) :=
  s.enu.table.map fun e => beBytes 2 e.tier ++ beBytes 4 e.expiry

/-- GRANTS (R131). -/
def tableGrants (s : State) : List (List Byte) :=
  s.enu.grants.map fun g => beBytes 2 g.service ++ beBytes 2 g.event ++ beBytes 4 g.expiry

/-- PURCHASES (R131). -/
def tablePurchases (s : State) : List (List Byte) :=
  s.enu.log.map fun r =>
    beBytes 4 r.seq ++ beBytes 2 r.service ++ beBytes 2 r.event ++ beBytes 2 r.price ++ beBytes 4 r.wall

/-- A group assignment. -/
def encGroup (g : Nat × Nat) : List Byte := beBytes 2 g.1 ++ beBytes 1 g.2

/-- CREDIT (R131); EXHAUSTED is the absence of a next sequence number (DESIGN CHOICE, log entry 23). -/
def tableCredit (s : State) : List (List Byte) :=
  let e := s.enu
  [beBytes 4 e.granted ++ beBytes 4 e.spent ++ beBytesInt 4 e.remaining ++ encOptNat 4 e.nextSeq
    ++ beBytes 1 e.log.length ++ encOption 3 encGroup e.group ++ beBytes 1 e.table.length
    ++ beBytes 1 e.grants.length ++ encOptNat 4 (s.scp.dueOf .entExpiry)
    ++ encCounts [e.applied, e.checkFailed, e.formFailed, e.tiersDropped]]

/-! ### PROFILES (R167) -/

def BudgetMode.code : BudgetMode → Nat
  | .none => 0
  | .daily => 1
  | .once => 2

/-- Every field of R148. -/
def encProfile (p : Profile) : List Byte :=
  beBytes 1 p.ceiling ++ encAdvisory p.blocked ++ encCode (if p.blockUnrated then 1 else 0) ++ encFlag p.follow
    ++ encCode p.mode.code ++ beBytes 2 p.budget ++ beBytes 2 p.latch ++ beBytes 2 p.used
    ++ beBytes 1 p.seconds ++ encFlag p.warned ++ encList (beBytes 2) p.locked

/-- The override record (R160); its end, W plus at most 14,400, takes 5 bytes. -/
def encOverride (o : Override) : List Byte :=
  encCode (if o.scope.isSome then 0 else 1) ++ encOptNat 2 o.scope ++ beBytes 5 o.stop

/-- The current rating (R151). Where R154 gives it no age and no flags, the age is absent and the set of flags is empty
(DESIGN CHOICE, log entry 23). -/
def encCurrent : CurrentRating → List Byte
  | .inStream age flags => encCode 0 ++ encOptNat 1 (some age) ++ encAdvisory flags ++ encOptNat 2 none
  | .guide event age flags => encCode 1 ++ encOptNat 1 (some age) ++ encAdvisory flags ++ encOptNat 2 (some event)
  | .unrated => encCode 2 ++ encOptNat 1 none ++ encAdvisory 0#4 ++ encOptNat 2 none
  | .none => encCode 3 ++ encOptNat 1 none ++ encAdvisory 0#4 ++ encOptNat 2 none

/-- The presented in-stream rating (R151). -/
def encStreamRating (r : StreamRating) : List Byte :=
  beBytes 2 r.service ++ beBytes 1 r.version ++ beBytes 1 r.age ++ encAdvisory r.flags

/-- The prepared in-stream rating (R151). -/
def encPrepared (r : PreparedRating) : List Byte :=
  beBytes 2 r.service ++ beBytes 2 r.mapStream ++ beBytes 1 r.version ++ beBytes 1 r.age ++ encAdvisory r.flags

/-- The guide rating (R151). -/
def encGuideRating (r : GuideRating) : List Byte :=
  beBytes 2 r.service ++ beBytes 2 r.event ++ beBytes 1 r.age ++ encAdvisory r.flags

/-- The PLU record (R167). -/
def encPlu (p : Plu) : List Byte :=
  beBytes 1 p.active ++ encOption 4 (beBytesInt 4) p.dayNumber ++ encOption 9 encOverride p.override
    ++ encCurrent p.current ++ encOption 5 encStreamRating p.presentedRating
    ++ encOption 7 encPrepared p.preparedRating ++ encOption 6 encGuideRating p.guideRating
    ++ p.windows.flatMap encWindow ++ beBytes 2 p.remainder ++ encFlag p.accruing
    ++ encCounts [p.applied, p.ignored, p.rejected]

/-- PROFILES (R167). -/
def tableProfiles (s : State) : List (List Byte) := s.plu.profiles.map encProfile ++ [encPlu s.plu]

/-! ### GATE (R167) -/

/-- The gate record: PRESENTING 0, NONE 1, in the order of R163. -/
def encPgt (g : Pgt) : List Byte :=
  encSources g.sources ++ encMask g.mask ++ encCode (if g.presented.isSome then 0 else 1)
    ++ encOptNat 2 g.presented ++ encGate g.isOpen ++ beBytes 4 g.lastChange.toNat ++ encCount g.emitted

def ComponentKind.code : ComponentKind → Nat
  | .video => 0
  | .audio => 1
  | .data => 2

/-- One component (R78). -/
def encComponent (c : Component) : List Byte :=
  beBytes 2 c.stream ++ encCode c.kind.code ++ encOptLang c.lang

/-- The fields of the presentation context after its state (R78). -/
def encPresentation (p : Presentation) : List Byte :=
  beBytes 2 p.service ++ beBytes 4 p.frequency ++ beBytes 2 p.mapStream ++ beBytes 1 p.map.version
    ++ encList encComponent p.map.components ++ encOptNat 2 p.map.keyStream ++ encLaneStreams p.live
    ++ encOptLang p.audio ++ beBytes 4 p.since.toNat ++ encFlag p.forced

/-- A map without components. -/
def ProgMap.blank : ProgMap := { version := 0, components := [], keyStream := none }

/-- A context whose fields are all 0. -/
def Presentation.blank : Presentation :=
  { service := 0, frequency := 0, mapStream := 0, map := .blank
    live := { video := none, audio := none, data := none }, audio := none, since := 0#32, forced := false }

def Engine.code : Engine → Nat
  | .idle => 0
  | .tuning => 1
  | .waitMap => 2
  | .waitKey => 3
  | .waitSplice => 4

/-- The map taken for a change (R79). -/
def encMap (m : ProgMap) : List Byte :=
  encList encComponent m.components ++ encOptNat 2 m.keyStream ++ beBytes 1 m.version

/-- The change record (R79). The tuning target and the two marks are present while the engine is in TUNING, and the map and
the parity after arming. -/
def encChange (tuning : Bool) (c : Change) : List Byte :=
  beBytes 2 c.service ++ beBytes 4 c.frequency ++ beBytes 1 c.modulation ++ beBytes 2 c.mapStream
    ++ encOptLang c.audio ++ beBytes 4 c.phaseStart.toNat
    ++ encOptNat 4 (if tuning then some c.tuningTarget else none)
    ++ encOption 1 encFlag (if tuning then some c.readyMark else none)
    ++ encOption 1 encFlag (if tuning then some c.lockMark else none)
    ++ encMaybe encMap .blank c.map
    ++ encOption 1 encParity (if c.map.isSome then some c.parity else none)

/-- A change record whose fields are all 0. -/
def Change.blank : Change :=
  { service := 0, frequency := 0, modulation := 0, mapStream := 0, audio := none, phaseStart := 0#32,
    tuningTarget := 0, readyMark := false, lockMark := false, map := none, parity := none }

/-- The pending TUNE (R79). -/
def encPendingTune (p : Nat × Option Lang) : List Byte := beBytes 2 p.1 ++ encOptLang p.2

/-- The engine's record (R79). -/
def encEngine (c : Cce) : List Byte :=
  encCode c.engine.code ++ encFlag c.standby ++ encOptNat 4 c.tuned
    ++ encMaybe (encChange (c.engine == .tuning)) .blank c.change
    ++ encMaybe encPendingTune (0, none) c.pendingTune ++ encOptNat 2 c.lastService
    ++ encCounts [c.forcedSplices, c.pendingReplaced, c.badMaps]

/-- GATE (R167); the state of the context, NONE 0 and PRESENTING 1, stands before its fields. -/
def tableGate (s : State) : List (List Byte) :=
  [encPgt s.pgt, encMaybe encPresentation .blank s.cce.presented, encEngine s.cce]

/-! ### GUIDE (R147) -/

/-- The ten counts in the order of R134. -/
def GuideCounts.list (c : GuideCounts) : List Nat :=
  [c.applied, c.rejected, c.servicesRefused, c.outOfSpan, c.noLength, c.overlapping, c.displaced, c.guideFull,
   c.evicted, c.purged]

/-- The now-event's id, start and end; the end is exact and takes 5 bytes (R133, R191). -/
def encNowEvent (e : GuideEvent) : List Byte := beBytes 2 e.id ++ beBytes 4 e.start ++ beBytes 5 e.stop

/-- The next event's id and start. -/
def encNextEvent (e : GuideEvent) : List Byte := beBytes 2 e.id ++ beBytes 4 e.start

/-- The header record; the now-event and the next event are those at the moment of the read (R141; log entry 24). -/
def encGuideHeader (s : State) : List Byte :=
  beBytes 2 s.gds.events.length ++ beBytes 2 s.gds.services.length ++ encOptNat 2 s.gds.followed
    ++ encOption 11 encNowEvent s.nowEvent ++ encOption 6 encNextEvent s.nextEvent
    ++ encOptNat 4 (s.scp.dueOf .eventEnd) ++ encCounts s.gds.counts.list

/-- A guide service record with its event count. -/
def encGuideService (s : State) (r : GuideService) : List Byte :=
  beBytes 2 r.number ++ beBytes 2 (s.serviceEvents r.number) ++ r.versions.flatMap encVersion

/-- Every field of R133. -/
def encGuideEvent (e : GuideEvent) : List Byte :=
  beBytes 2 e.service ++ beBytes 1 e.segment ++ beBytes 2 e.id ++ beBytes 4 e.start ++ beBytes 4 e.duration
    ++ beBytes 1 e.age ++ encAdvisory e.flags ++ beBytes 1 e.category ++ encOptNat 2 e.price ++ encText e.title

/-- GUIDE: the header, the service records with unused marks up to index 256, then the event records (R147). -/
def tableGuide (s : State) : List (List Byte) :=
  encGuideHeader s
    :: (List.range 256).map (fun k => encMarked (encGuideService s) s.gds.services[k]?)
    ++ s.gds.events.map encGuideEvent

/-! ### All tables (R180, R190) -/

/-- The table that an id names, ids 00H to 0FH (R190). -/
def tableOf (s : State) : Nat → Option (List (List Byte))
  | 0 => some (tableIdent s)
  | 1 => some (tablePorts s)
  | 2 => some (tableRoutes s)
  | 3 => some (tableSections s)
  | 4 => some (tableTime s)
  | 5 => some (tableSchedule s)
  | 6 => some (tableRanges s)
  | 7 => some (tableDirectory s)
  | 8 => some (tableKeys s)
  | 9 => some (tableEntitlements s)
  | 10 => some (tableGrants s)
  | 11 => some (tablePurchases s)
  | 12 => some (tableCredit s)
  | 13 => some (tableProfiles s)
  | 14 => some (tableGate s)
  | 15 => some (tableGuide s)
  | _ => none

/-- One table record in a reply: its index, its length, its bytes (R191). -/
def encIndexed (index : Nat) (record : List Byte) : List Byte :=
  beBytes 2 index ++ beBytes 2 record.length ++ record

/-- The records of a table from a first index on, at most `count` of them (R180). -/
def tableSlice (table : List (List Byte)) (first count : Nat) : List Byte :=
  (((table.drop first).take count).zipIdx first).flatMap fun (record, k) => encIndexed k record

/-- Whether a read reaches the end of the table, which gives its reply the end marker (R180). -/
def reachesEnd (table : List (List Byte)) (first count : Nat) : Bool := decide (table.length ≤ first + count)

end Sys2Proof.Machine
end

