-- ==== Sys2Proof/Machine/Control.lean ====
section
/-! DEFINITION. The Request Handler and the Reply Queue: request intake (R177, R178), RESET, SET_EVENT_MASK and READ_TABLE
(R180, R183, R185), the data lane with its status cells (R19, R184), and the warm reset's occasions (R185). -/

namespace Sys2Proof.Machine

/-! ### Request intake (R177, R178) -/

/-- The records a request may need: 10 for GRID_READ and 1 for every other (R177). The code alone tells a GRID_READ, so a
malformed cell of that code waits for 10 too (DESIGN CHOICE, log entry 41). -/
def recordsNeeded (payload : List Byte) : Nat := if fieldAt payload 0 1 = 0x62 then 10 else 1

/-- Whether the RQH takes the request at the head of the intake queue (R177). -/
def State.canTake (s : State) (payload : List Byte) : Bool :=
  s.rqh.inProgress.isNone && !s.rqh.stopped && decide (s.held + recordsNeeded payload ≤ 32)

/-- A request that the RQH has taken: refused with the code and tag as the cell gave them, or in progress with its
records reserved (R177, R178). -/
def takeRequest (payload : List Byte) (rest : List (List Byte)) (s : State) : State :=
  match requestOf payload with
  | none =>
      { s with
        rqh := { s.rqh with intake := rest }
        rpq := { s.rpq with queue := s.rpq.queue ++
          [.reply (byteAt payload 0) (byteAt payload 1) .badRequest false false []] } }
  | some request =>
      { s with rqh := { s.rqh with
          intake := rest
          inProgress := some { tag := byteAt payload 1, request, reserved := recordsNeeded payload } } }

/-- Request intake (R177). -/
def intakeRequest (s : State) : State :=
  match s.rqh.intake with
  | [] => s
  | payload :: rest => if s.canTake payload then takeRequest payload rest s else s

/-! ### Requests of the RQH and the RPQ (R180, R183, R185) -/

/-- RESET: its reply is placed and the RQH takes no further request (R185). -/
def resetRequest (s : State) : State :=
  let s1 := reply .ok s
  { s1 with rqh := { s1.rqh with stopped := true } }

/-- The classes that a class set byte names (R190). -/
def classesOf (byte : Nat) : List EventClass := EventClass.all.filter fun c => byte.testBit c.code

/-- SET_EVENT_MASK (R183); an enable byte other than 0 and 1 is refused (R190). -/
def setEventMask (classes enable : Nat) (s : State) : State :=
  if enable > 1 then reply .badParam s
  else reply .ok { s with rpq := { s.rpq with classes := classesOf classes, enabled := enable == 1 } }

/-- The id of the TIME table (R190). -/
def timeTable : Nat := 4

/-- A read of the TIME table that includes index 0 clears TRIM_LIMIT (R55). -/
def clearTrimLimit (table first : Nat) (s : State) : State :=
  if table = timeTable ∧ first = 0 then { s with tmb := { s.tmb with trimLimit := false } } else s

/-- READ_TABLE (R180). -/
def readTable (table first count : Nat) (s : State) : State :=
  match tableOf s table with
  | none => reply .badParam s
  | some records =>
      if count = 0 || count > 512 then reply .badParam s
      else
        clearTrimLimit table first
          (answerRecords .ok (reachesEnd records first count) [tableSlice records first count] s)

/-! ### Status cells (R184) -/

/-- The cells that a record takes: as many payloads as its bytes need (R184). -/
def Record.cells (r : Record) : Nat := (r.bytes.length + 155) / payloadBytes

/-- A payload of a status cell, with padding after the record's end; the draw names the padding (log entry 7). -/
def padded (draw : Nat) (bytes : List Byte) : List Byte :=
  bytes ++ (List.range (payloadBytes - bytes.length)).map fun k => Config.paddingByte draw (bytes.length + k)

/-- The status cell that carries payload `k` of a record (R184). -/
def statusCell (r : Record) (k : Nat) (continuity : BitVec 4) (draw : Nat) : Cell :=
  { sync := syncByte, start := k == 0, marker := false, parity := .clear, stream := 4081#12, continuity,
    reserved := 0#4, payload := padded draw ((r.bytes.drop (payloadBytes * k)).take payloadBytes) }

/-- Whether a record is the reply to a RESET that was carried out (R185). -/
def Record.isResetReply : Record → Bool
  | .reply code _ result _ _ _ => code == 0x01#8 && result == .ok
  | .event .. => false

/-- Sending a status cell of the head record: the record leaves the queue with its last cell (R184), and with the RESET
reply's last cell the warm reset takes place (R185). -/
def sendStatus (r : Record) (rest : List Record) (s : State) : State :=
  let k := s.rpq.sentCells
  let last := decide (r.cells ≤ k + 1)
  let s1 := { s with
    lanes := { s.lanes with data := s.lanes.data ++ [statusCell r k s.rpq.continuity s.draws], lastStatus := true }
    rpq := { s.rpq with
      queue := if last then rest else s.rpq.queue
      sentCells := if last then 0 else k + 1
      continuity := s.rpq.continuity + 1#4 }
    draws := s.draws + 1 }
  if last && r.isResetReply && s.rqh.stopped then warmResetFrom .request s1 else s1

/-- Sending the next forwarded cell (R19). -/
def sendForwarded (c : Cell) (rest : List Cell) (s : State) : State :=
  { s with lanes := { s.lanes with data := s.lanes.data ++ [c], waiting := rest, lastStatus := false } }

/-- The data lane sends a cell: alternately from the two sources while both have one waiting (R19). -/
def sendDataCell (s : State) : State :=
  match s.lanes.waiting, s.rpq.queue with
  | [], [] => s
  | c :: rest, [] => sendForwarded c rest s
  | [], r :: rest => sendStatus r rest s
  | c :: cells, r :: records => if s.lanes.lastStatus then sendForwarded c cells s else sendStatus r records s

/-- Whether the next cell on the data lane is the last cell of the RESET reply (R185). -/
def resetReplyNext (s : State) : Bool :=
  match s.rpq.queue with
  | r :: _ => s.rqh.stopped && r.isResetReply && decide (r.cells ≤ s.rpq.sentCells + 1)
      && (s.lanes.waiting.isEmpty || !s.lanes.lastStatus)
  | [] => false

/-! ### The commands -/

/-- WARM_RESET by its cause: the pin going low, a power-up with the retained supply held, or the hand-off of the RESET
reply's cell, which acts when that cell is the next to leave (R185). A cold start is no warm reset (R186). -/
def execWarmReset (cause : ResetCause) (s : State) : Answer :=
  match cause with
  | .power => .next (powerOn (warmResetFrom .power s))
  | .pin => .next (pinReset s)
  | .request => whenRunning s fun s => if resetReplyNext s then sendDataCell s else s
  | .cold => .next s

/-- REQUEST_INTAKE (R177). -/
def execRequestIntake (s : State) : Answer := whenRunning s intakeRequest

/-- RESET (R185). -/
def execReset (s : State) : Answer :=
  whenRunning s fun s =>
    match s.asked with
    | some .reset => resetRequest s
    | _ => s

/-- READ_TABLE (R180). The request is taken, and the table read, at this command, its owner's own event (R178), and not at the
intake (R177) (DESIGN CHOICE, log entry 44). -/
def execReadTable (s : State) : Answer :=
  whenRunning s fun s =>
    match s.asked with
    | some (.readTable table first count) => readTable table first count s
    | _ => s

/-- SET_EVENT_MASK (R183). The request is taken at this command, its owner's own event (R178), so an event offered between the
intake (R177) and this command meets the old mask (DESIGN CHOICE, log entry 44). -/
def execSetEventMask (s : State) : Answer :=
  whenRunning s fun s =>
    match s.asked with
    | some (.setEventMask classes enable) => setEventMask classes enable s
    | _ => s

/-- DATA_LANE_CELL_SENT (R19). -/
def execDataLaneCellSent (s : State) : Answer := whenRunning s sendDataCell

end Sys2Proof.Machine
end

