-- ==== Sys2Proof/Machine/Directory.lean ====
section
/-! DEFINITION. The Service Directory: DIRECTORY sections (R75, R76). -/

namespace Sys2Proof.Machine

/-- Whether an entry passes the checks of R76, with the tier count of R189 and the tier range of R74 (log entry 17). -/
def entryOk (tierCount : Nat) (r : Service) : Bool :=
  decide (1 ≤ r.number) && decide (r.number ≤ 9999) && r.frequency != 0
    && !reservedStreams.contains r.mapStream
    && decide (tierCount ≤ 4) && r.tiers.all tierOk && decide r.tiers.Nodup

/-- Taking one entry: rejected, replacing the record of its number, inserted in number order, or dropped for capacity
(R75). -/
def takeEntry (d : Sdr) (entry : Nat × Service) : Sdr :=
  let r := entry.2
  if !entryOk entry.1 r then { d with entriesRejected := satInc max32 d.entriesRejected }
  else if (d.find r.number).isSome || decide (d.services.length < 256) then
    { d with services :=
        putOrdered (fun x => x.number == r.number) (fun x => decide (r.number < x.number)) r d.services }
  else { d with entriesDropped := satInc max32 d.entriesDropped }

/-- Applying a DIRECTORY section (R75). -/
def applyDirectorySection (x : Section) (s : State) : State :=
  match s.sdr.versions[x.key]?, directoryEntries x.key x.body with
  | some stored, some entries =>
      if stored = some x.version then s
      else
        let cleared := { s.sdr with services := s.sdr.services.filter fun r => r.segment != x.key }
        let filled := entries.foldl takeEntry cleared
        let d := { filled with
          versions := setAt filled.versions x.key (some x.version)
          applied := satInc max32 filled.applied }
        emit (.directoryChanged x.key x.version d.services.length) { s with sdr := d }
  | _, _ => { s with sdr := { s.sdr with rejected := satInc max32 s.sdr.rejected } }

/-- DIRECTORY_SECTION (R75). -/
def execDirectorySection (s : State) : Answer := whenRunning s (consume .directory applyDirectorySection)

end Sys2Proof.Machine
end

