-- ==== Sys2Proof/Machine/Entitlements.lean ====
section
/-! DEFINITION. The Entitlement Unit: the headend's messages (R119 to R124), expiry (R125, R126) and purchases (R129,
R130). -/

namespace Sys2Proof.Machine

/-! ### Keeping ENT_EXPIRY and reporting changes (R124, R125) -/

/-- Keeping ENT_EXPIRY at the earliest expiry other than no expiry, or clearing it (R125). -/
def keepEntExpiry (s : State) : State :=
  match s.enu.earliestExpiry with
  | some due => keyEntry .entExpiry due none none s
  | none => clearEntry .entExpiry s

/-- What follows a change of the entitlement table or the grants: ENT_EXPIRY, the descrambler's notice, ENT_CHANGED
(R124). -/
def entChanged (cause : EntCause) (s : State) : State :=
  let s1 := send .entNotice (keepEntExpiry s)
  emit (.entChanged cause s1.enu.table.length s1.enu.grants.length s1.enu.earliestExpiry) s1

/-- CREDIT_CHANGED after a change of the credit record or the purchase log (R124). -/
def creditChanged (cause : CreditCause) (s : State) : State :=
  emit (.creditChanged cause s.enu.granted s.enu.spent s.enu.log.length
    (s.enu.log.head?.map PurchaseRecord.seq)) s

/-! ### Messages (R120 to R123) -/

/-- The table with a tier's entry inserted or re-timed at its place in tier order. -/
def putTier (x : Entitlement) (table : List Entitlement) : List Entitlement :=
  putOrdered (fun e => e.tier == x.tier) (fun e => decide (x.tier < e.tier)) x table

/-- The entry with the earliest expiry, of several the one with the lowest tier (R120). -/
def earliestEntry (table : List Entitlement) : Option Entitlement :=
  table.foldl (fun best e =>
    match best with
    | none => some e
    | some b => if e.expiry < b.expiry then some e else some b) none

/-- What an ENTITLE message has made so far: the table, whether it changed, and the tiers dropped. -/
structure Entitling where
  table : List Entitlement
  changed : Bool
  dropped : Nat
  deriving DecidableEq, Repr

/-- The purge of expired entries from a full table, made while WALL_VALID is set (R120). -/
def Entitling.purge (t : Tmb) (x : Entitling) : Entitling :=
  let table := x.table.filter fun e => !t.expired e.expiry
  { x with table, changed := x.changed || table.length != x.table.length }

/-- One item of an ENTITLE message, acting on the table as it stands after the items before it (R120). -/
def entitleItem (t : Tmb) (x : Entitling) (item : Entitlement) : Entitling :=
  match x.table.find? fun e => e.tier == item.tier with
  | some e =>
      { x with table := putTier item x.table, changed := x.changed || e.expiry != item.expiry }
  | none =>
      if x.table.length < 64 then { x with table := putTier item x.table, changed := true }
      else
        let y := x.purge t
        if y.table.length < 64 then { y with table := putTier item y.table, changed := true }
        else
          match earliestEntry y.table with
          | none => y
          | some b =>
              if b.expiry < item.expiry then
                { y with table := putTier item (y.table.filter (· != b)), changed := true }
              else { y with dropped := satInc max32 y.dropped }

/-- ENTITLE (R120). -/
def entitle (items : List Entitlement) (s : State) : State :=
  let out := items.foldl (entitleItem s.tmb)
    { table := s.enu.table, changed := false, dropped := s.enu.tiersDropped }
  let s1 := { s with enu := { s.enu with table := out.table, tiersDropped := out.dropped } }
  if out.changed then entChanged .entitle s1 else s1

/-- REVOKE (R121). -/
def revoke (tiers : List Nat) (s : State) : State :=
  let table := s.enu.table.filter fun e => !tiers.contains e.tier
  let s1 := { s with enu := { s.enu with table } }
  if table.length = s.enu.table.length then s1 else entChanged .revoke s1

/-- CREDIT (R122). -/
def credit (granted through : Nat) (s : State) : State :=
  let log := s.enu.log.filter fun r => decide (through < r.seq)
  let spent := logTotal log
  let s1 := { s with enu := { s.enu with granted, spent, log } }
  if granted = s.enu.granted ∧ spent = s.enu.spent ∧ log = s.enu.log then s1 else creditChanged .credit s1

/-- Applying a message according to its kind (R120 to R123). -/
def applyMessage (m : Message) (s : State) : State :=
  match m with
  | .entitle items => entitle items s
  | .revoke tiers => revoke tiers s
  | .credit granted through => credit granted through s
  | .group number position => { s with enu := { s.enu with group := some (number, position) } }

/-- Applying an ENTITLEMENT section: the check, then the form, then the message (R119). -/
def applyEntitlementSection (x : Section) (s : State) : State :=
  if !checkPasses x.body then
    { s with enu := { s.enu with checkFailed := satInc max32 s.enu.checkFailed } }
  else
    match messageOf x.body with
    | none => { s with enu := { s.enu with formFailed := satInc max32 s.enu.formFailed } }
    | some m => applyMessage m { s with enu := { s.enu with applied := satInc max32 s.enu.applied } }

/-! ### Expiry (R126) -/

/-- The firing of ENT_EXPIRY: everything expired is removed (R126). -/
def expireEntitlements (s : State) : State :=
  let table := s.enu.table.filter fun e => !s.tmb.expired e.expiry
  let grants := s.enu.grants.filter fun g => !s.tmb.expired g.expiry
  let s1 := { s with enu := { s.enu with table, grants } }
  if table.length = s.enu.table.length ∧ grants.length = s.enu.grants.length then keepEntExpiry s1
  else entChanged .expiry s1

/-! ### Purchases (R129, R130) -/

/-- The price that a key record's criterion gives for an event of its service (R129). -/
def KeyRecord.priceOf (service event : Nat) (r : KeyRecord) : Option Nat :=
  match r.criteria with
  | some (.event id price) => if r.service = service ∧ id = event then some price else none
  | _ => none

/-- The price of an event: the ACTIVE record's, failing that the ARMING record's, failing that the guide's (R129). -/
def State.priceOf (s : State) (service event : Nat) : Option Nat :=
  match s.dsc.active.bind (KeyRecord.priceOf service event),
      s.dsc.arming.bind (KeyRecord.priceOf service event) with
  | some price, _ => some price
  | none, some price => some price
  | none, none => (s.gds.eventById service event).bind GuideEvent.price

/-- Whether the guide says that the event is over: its end plus 600 is at or before W (R129). -/
def State.eventOver (s : State) (service event : Nat) : Bool :=
  (s.gds.eventById service event).any fun e => decide (e.stop + 600 ≤ s.tmb.w)

/-- The expiry of a new grant (R130). -/
def State.grantExpiry (s : State) (service event : Nat) : Nat :=
  let raw := ((s.gds.eventById service event).map fun e => e.stop + 600).getD (s.tmb.w + 14400)
  min raw (noExpiry - 1)

/-- The grants left for a new one: the expired ones go from a full list, and an expired grant for the same service and
event goes (R130). -/
def State.roomForGrant (s : State) (service event : Nat) : List Grant :=
  let kept := if s.enu.grants.length ≥ 16 then s.enu.grants.filter fun g => !s.tmb.expired g.expiry
    else s.enu.grants
  kept.filter fun g => !(g.isFor service event && s.tmb.expired g.expiry)

/-- A purchase that has passed every check (R130). -/
def carryOutPurchase (service event price seq : Nat) (s : State) : State :=
  let expiry := s.grantExpiry service event
  let s1 := { s with enu := { s.enu with
    grants := s.roomForGrant service event ++ [{ service, event, expiry }]
    log := s.enu.log ++ [{ seq, service, event, price, wall := s.tmb.w }]
    spent := s.enu.spent + price
    nextSeq := if seq < max32 then some (seq + 1) else none } }
  creditChanged .purchase (entChanged .purchase (answer .ok (beBytes 4 seq ++ beBytes 4 expiry) s1))

/-- PURCHASE (R129). -/
def purchase (service event : Nat) (s : State) : State :=
  if service = 0 || service > 9999 then reply .badParam s
  else if !s.tmb.wallValid then reply .noTime s
  else if s.hasCurrentGrant service event then reply .already s
  else
    match s.priceOf service event with
    | none => reply .notOffered s
    | some price =>
        if s.eventOver service event then reply .notOffered s
        else if s.enu.remaining < price then reply .noCredit s
        else
          match s.enu.nextSeq with
          | none => reply .logFull s
          | some seq =>
              if s.enu.log.length ≥ 32 then reply .logFull s
              else if s.enu.grants.length ≥ 16 && !s.enu.grants.any (fun g => s.tmb.expired g.expiry) then
                reply .grantFull s
              else carryOutPurchase service event price seq s

/-! ### The commands -/

/-- ENTITLEMENT_SECTION (R119). -/
def execEntitlementSection (s : State) : Answer := whenRunning s (consume .entitlement applyEntitlementSection)

/-- ENT_EXPIRY_FIRING (R126). -/
def execEntExpiryFiring (s : State) : Answer :=
  whenRunning s fun s =>
    match s.nextIn .scpToEnu with
    | some (.firing .entExpiry _ _ _) => expireEntitlements (s.taking .scpToEnu)
    | _ => s

/-- ENU_WALL_SET (R125). -/
def execEnuWallSet (s : State) : Answer :=
  whenRunning s fun s =>
    match s.nextIn (.tmbTo .enu) with
    | some (.wallSet .enu) => keepEntExpiry (s.taking (.tmbTo .enu))
    | _ => s

/-- PURCHASE (R129). -/
def execPurchase (s : State) : Answer :=
  whenRunning s fun s =>
    match s.asked with
    | some (.purchase service event) => purchase service event s
    | _ => s

end Sys2Proof.Machine
end

