-- ==== Sys2Proof/Machine/Guide.lean ====
section
/-! DEFINITION. The Guide Store: GUIDE sections (R135, R136), capacity (R138), what follows a change (R139), day-roll
purges (R140), and the EVENT_END entry with its notices (R141 to R145). -/

namespace Sys2Proof.Machine

/-- A count with `n` more, stopping at the largest 32-bit value (R134). -/
def addCount (n count : Nat) : Nat := min max32 (count + n)

/-! ### Keeping EVENT_END (R142, R143) -/

/-- A now-event as the now record and the notice carry it (R141, R143). -/
def GuideEvent.asNow (e : GuideEvent) : NowEvent :=
  { id := e.id, start := e.start, stop := e.stop, age := e.age, flags := e.flags }

/-- The key or clear request for EVENT_END (R142). -/
def requestEventEnd (s : State) : State :=
  match s.nowEvent, s.nextEvent with
  | some e, _ => keyEntry .eventEnd e.stop s.gds.followed (some e.id) s
  | none, some e => keyEntry .eventEnd e.start s.gds.followed (some e.id) s
  | none, none => clearEntry .eventEnd s

/-- The now record set afresh (R141, R142). -/
def setNow (s : State) : State :=
  { s with gds := { s.gds with
      now := s.gds.followed.bind fun n => s.nowEvent.map fun e => (n, e.asNow) } }

/-- Keeping EVENT_END, then sending the now-event notice (R142, R143). -/
def keepEventEnd (s : State) : State :=
  send (.nowEvent s.gds.followed (s.nowEvent.map GuideEvent.asNow)) (setNow (requestEventEnd s))

/-! ### Making an event fit to store (R135) -/

/-- An event's fields as they are stored. -/
def GuideEvent.fit (e : GuideEvent) : GuideEvent :=
  { e with
    duration := max 60 (min 86400 e.duration)
    age := if 8 ≤ e.age ∧ e.age ≤ 14 then 7 else e.age
    price := e.price.filter (· != 0)
    title := e.title.take 40 }

/-- Whether an event's start lies in its section's span (R135). -/
def GuideEvent.inSpan (segmentStart : Nat) (e : GuideEvent) : Bool :=
  decide (segmentStart ≤ e.start) && decide (e.start < segmentStart + 10800)

/-! ### Inserting an event (R136, R138) -/

/-- The capacity of the store (R133). -/
def guideCapacity : Nat := 4096

/-- What the application of a section has made so far: the event records, the counts, and whether events of another
service were purged or evicted (R139). -/
structure GuideWork where
  events : List GuideEvent
  counts : GuideCounts
  others : Bool
  deriving DecidableEq, Repr

/-- Store order: ascending service number, and within a service ascending start (R133). -/
def GuideEvent.before (x y : GuideEvent) : Bool :=
  decide (x.service < y.service) || (x.service == y.service && decide (x.start < y.start))

/-- An event at its place in store order (R136). -/
def insertEvent (e : GuideEvent) : List GuideEvent → List GuideEvent
  | [] => [e]
  | x :: xs => if x.before e then x :: insertEvent e xs else e :: x :: xs

/-- The event that an eviction removes: the latest start, and of several the highest service number, which in store
order is the last of them (R138). -/
def latestEvent (events : List GuideEvent) : Option GuideEvent :=
  events.foldl (fun best e =>
    match best with
    | none => some e
    | some b => if b.start ≤ e.start then some e else some b) none

/-- Whether an event has ended at a wall second (R138, R140). -/
def GuideEvent.ended (w : Nat) (e : GuideEvent) : Bool := decide (e.stop ≤ w)

/-- The purge of ended events that a full store makes while WALL_VALID is set (R138). -/
def GuideWork.purge (t : Tmb) (service : Nat) (g : GuideWork) : GuideWork :=
  if t.wallValid then
    let gone := g.events.filter (GuideEvent.ended t.w)
    { events := g.events.filter fun e => !e.ended t.w
      counts := { g.counts with purged := addCount gone.length g.counts.purged }
      others := g.others || gone.any fun e => e.service != service }
  else g

/-- Inserting an event into a store that is still full: the arrival is dropped if it starts last of all, and the event
that starts last makes room for it otherwise (R138). -/
def GuideWork.evictFor (e : GuideEvent) (g : GuideWork) : GuideWork :=
  match latestEvent g.events with
  | none => g
  | some last =>
      if last.start < e.start then
        { g with counts := { g.counts with guideFull := addCount 1 g.counts.guideFull } }
      else
        { events := insertEvent e (g.events.erase last)
          counts := { g.counts with evicted := addCount 1 g.counts.evicted }
          others := g.others || last.service != e.service }

/-- Inserting an event, with room made where the store is full (R136, R138). -/
def GuideWork.insert (t : Tmb) (e : GuideEvent) (g : GuideWork) : GuideWork :=
  if g.events.length < guideCapacity then { g with events := insertEvent e g.events }
  else
    let g1 := g.purge t e.service
    if g1.events.length < guideCapacity then { g1 with events := insertEvent e g1.events }
    else g1.evictFor e

/-- One event of a section: tested against the section's own inserted events, then against the service's others, then
inserted (R136). -/
def GuideWork.take (t : Tmb) (g : GuideWork) (e : GuideEvent) : GuideWork :=
  if g.events.any fun x => x.segment == e.segment && x.overlaps e then
    { g with counts := { g.counts with overlapping := addCount 1 g.counts.overlapping } }
  else
    let gone := g.events.filter fun x => x.overlaps e
    GuideWork.insert t e
      { g with
        events := g.events.filter fun x => !x.overlaps e
        counts := { g.counts with displaced := addCount gone.length g.counts.displaced } }

/-- One event as the section lists it: dropped for no length or for its span, or made fit and taken (R135, R136). -/
def GuideWork.arrive (t : Tmb) (segmentStart : Nat) (g : GuideWork) (e : GuideEvent) : GuideWork :=
  if e.duration = 0 then { g with counts := { g.counts with noLength := addCount 1 g.counts.noLength } }
  else if !e.inSpan segmentStart then
    { g with counts := { g.counts with outOfSpan := addCount 1 g.counts.outOfSpan } }
  else g.take t e.fit

/-! ### Applying a section (R135, R136, R139) -/

/-- The guide service records with a record for a service, created with every version ABSENT where none exists
(R132). -/
def withService (service : Nat) (services : List GuideService) : List GuideService :=
  if services.any fun r => r.number == service then services
  else putOrdered (fun r => r.number == service) (fun r => decide (service < r.number))
    { number := service, versions := List.replicate 56 none } services

/-- The version stored for a service's segment. -/
def Gds.versionOf (g : Gds) (service segment : Nat) : Option Nat :=
  (g.services.find? fun r => r.number == service).bind fun r => (r.versions[segment]?).join

/-- The records with a segment's version stored (R136). -/
def storeVersion (service segment version : Nat) (services : List GuideService) : List GuideService :=
  services.map fun r =>
    if r.number = service then { r with versions := setAt r.versions segment (some version) } else r

/-- Applying the events of a section that is no repeat (R136). -/
def applyGuideEvents (service segment version segmentStart : Nat) (events : List GuideEvent) (s : State) :
    State × Bool :=
  let cleared := s.gds.events.filter fun e => !(e.service == service && e.segment == segment)
  let out := events.foldl (GuideWork.arrive s.tmb segmentStart)
    { events := cleared, counts := s.gds.counts, others := false }
  ({ s with gds := { s.gds with
      services := storeVersion service segment version (withService service s.gds.services)
      events := out.events
      counts := { out.counts with applied := addCount 1 out.counts.applied } } }, out.others)

/-- Completing an event at the store that applied a section (R139): `before` is the store before it. -/
def completeGuide (before : Gds) (service segment version : Nat) (others : Bool) (s : State) : State :=
  let moved := s.gds.followed.any fun n => before.eventsOf n != s.gds.eventsOf n
  let s1 := if moved then keepEventEnd s else s
  if before.events = s.gds.events then s1
  else
    emit (.guideChanged service segment version (s1.serviceEvents service) s1.gds.events.length others) s1

/-- A GUIDE section's count of one kind. -/
def countGuide (f : GuideCounts → GuideCounts) (s : State) : State :=
  { s with gds := { s.gds with counts := f s.gds.counts } }

/-- Applying a GUIDE section (R135, R136). -/
def applyGuideSection (x : Section) (s : State) : State :=
  let segment := x.bits % 64
  match guideBody x.key segment x.body with
  | none => countGuide (fun c => { c with rejected := addCount 1 c.rejected }) s
  | some (segmentStart, events) =>
      if x.key = 0 || x.key > 9999 || segment > 55 then
        countGuide (fun c => { c with rejected := addCount 1 c.rejected }) s
      else if s.gds.versionOf x.key segment = some x.version then s
      else if !s.gds.hasService x.key && s.gds.services.length ≥ 256 then
        countGuide (fun c => { c with servicesRefused := addCount 1 c.servicesRefused }) s
      else
        let out := applyGuideEvents x.key segment x.version segmentStart events s
        completeGuide s.gds x.key segment x.version out.2 out.1

/-- The day-roll purge (R140). -/
def purgeEnded (s : State) : State :=
  { s with gds := { s.gds with
      events := s.gds.events.filter fun e => !e.ended s.tmb.w
      counts := { s.gds.counts with
        purged := addCount (s.gds.events.filter (GuideEvent.ended s.tmb.w)).length s.gds.counts.purged } } }

/-! ### The commands -/

/-- GUIDE_SECTION (R135). -/
def execGuideSection (s : State) : Answer := whenRunning s (consume .guide applyGuideSection)

/-- EVENT_END_FIRING (R144). -/
def execEventEndFiring (s : State) : Answer :=
  whenRunning s fun s =>
    match s.nextIn .scpToGds with
    | some (.firing .eventEnd _ _ _) => keepEventEnd (s.taking .scpToGds)
    | _ => s

/-- GDS_CONTEXT_CHANGE: the followed service is the presented one, or none (R141, R143). -/
def execGdsContextChange (s : State) : Answer :=
  whenRunning s fun s =>
    match s.nextIn (.cceTo .gds) with
    | some (.context .gds _ service _) =>
        let s1 := s.taking (.cceTo .gds)
        keepEventEnd { s1 with gds := { s1.gds with followed := service } }
    | _ => s

/-- GDS_REWIND (R145). -/
def execGdsRewind (s : State) : Answer :=
  whenRunning s fun s =>
    match s.nextIn (.tmbTo .gds) with
    | some (.rewind .gds) => keepEventEnd (s.taking (.tmbTo .gds))
    | _ => s

/-- GDS_WALL_SET (R145). -/
def execGdsWallSet (s : State) : Answer :=
  whenRunning s fun s =>
    match s.nextIn (.tmbTo .gds) with
    | some (.wallSet .gds) => keepEventEnd (s.taking (.tmbTo .gds))
    | _ => s

/-- DAY_ROLL_PURGE (R140). -/
def execDayRollPurge (s : State) : Answer :=
  whenRunning s fun s =>
    match s.nextIn .pluToGds with
    | some .dayRoll => purgeEnded (s.taking .pluToGds)
    | _ => s

end Sys2Proof.Machine
end

