-- ==== Sys2Proof/Machine/Parental.lean ====
section
/-! DEFINITION. The Parental Limit Unit: profiles and limits (R149, R150), ratings (R151 to R154), viewing hours (R155),
budgets (R156 to R159), the override (R160, R161) and HOST_MUTE (R162). -/

namespace Sys2Proof.Machine

/-! ### Evaluations and the posting (R150, R154, R155, R158, R163) -/

/-- The PLU with what it has posted changed. -/
def withPosted (f : PluPosting → PluPosting) (s : State) : State :=
  { s with plu := { s.plu with posted := f s.plu.posted } }

/-- The presented service as the context stands, or none. -/
def State.presentedService (s : State) : Option Nat := s.cce.presented.map Presentation.service

/-- Evaluating RATING: the current rating, then the tests (R154). -/
def evalRating (s : State) : State :=
  let current := s.plu.currentFor s.presentedService
  withPosted (fun p => { p with rating := s.plu.ratingSet current }) { s with plu := { s.plu with current } }

/-- Evaluating LOCKED (R150). -/
def evalLocked (s : State) : State :=
  withPosted (fun p => { p with locked := s.presentedService.any s.plu.lockHolds }) s

/-- Evaluating HOURS from the window states held (R155). -/
def evalHours (s : State) : State :=
  withPosted (fun p => { p with hours := !s.plu.windows.getD s.plu.active true }) s

/-- Evaluating BUDGET (R158). -/
def evalBudget (s : State) : State :=
  withPosted (fun p => { p with budget := s.plu.activeProfile.isSpent }) s

/-- The mask: present while an override is (R163). -/
def evalMask (s : State) : State :=
  withPosted (fun p => { p with mask := s.plu.override.isSome }) s

/-- The three conditions of the accrual (R157). -/
def Plu.accrues (p : Plu) : Bool := p.gateOpen && p.override.isNone && p.activeProfile.mode != .none

/-- Starting or stopping the accrual as its conditions require (R157). -/
def settleAccrual (s : State) : State := { s with plu := { s.plu with accruing := s.plu.accrues } }

/-- Sending what an event at the PLU changed of its sources and mask, together as one posting (R163). A posting that
changes nothing is one the gate would leave without effect, so it is not sent. -/
def flushPosting (before : PluPosting) (s : State) : State :=
  if s.plu.posted = before then s else send (.pluPosting s.plu.posted) s

/-- An event at the PLU: its effect, then the accrual settled, then the posting. -/
def pluEvent (effect : State → State) (s : State) : State :=
  flushPosting s.plu.posted (settleAccrual (effect s))

/-- The PLU with one profile changed. -/
def withProfile (n : Nat) (f : Profile → Profile) (s : State) : State :=
  { s with plu := { s.plu with profiles := setAt s.plu.profiles n (f (s.plu.profile n)) } }

/-! ### Budgets (R156 to R159) -/

/-- The minutes left, 0 if the difference is negative (R158). -/
def Profile.left (p : Profile) : Nat := p.budget - p.used

/-- Whether the warn test finds its condition (R158). -/
def Profile.warns (p : Profile) : Bool := p.mode != .none && !p.warned && decide (p.budget ≤ p.used + 5)

/-- The warn test (R158). -/
def warnTest (n : Nat) (s : State) : State :=
  let p := s.plu.profile n
  if p.warns then emit (.budgetWarn n p.left) (withProfile n (fun p => { p with warned := true }) s) else s

/-- The spent test; `before` is the profile before the change (R158). -/
def spentTest (n : Nat) (before : Profile) (s : State) : State :=
  let p := s.plu.profile n
  if p.isSpent && !before.isSpent then emit (.budgetSpent n p.used p.budget) s else s

/-- The two tests for a profile, the warning first (R158). -/
def budgetTests (n : Nat) (before : Profile) (s : State) : State := spentTest n before (warnTest n s)

/-- The budget mode that a code names (R190). -/
def BudgetMode.ofCode : Nat → Option BudgetMode
  | 0 => some .none
  | 1 => some .daily
  | 2 => some .once
  | _ => none

/-- A profile whose minute has completed: the used minutes stop at 1,440 (R157). -/
def Profile.addMinute (p : Profile) : Profile := { p with seconds := 0, used := min 1440 (p.used + 1) }

/-- A completed minute for the active profile, with its tests (R157). -/
def accrueMinute (s : State) : State :=
  evalBudget (budgetTests s.plu.active s.plu.activeProfile
    (withProfile s.plu.active Profile.addMinute s))

/-- Whether a second of the accrual has completed (R157). -/
def Plu.secondDue (p : Plu) : Bool := p.accruing && decide (1000 ≤ p.remainder)

/-- A completed second: one more on the seconds accumulator, or the minute when it reaches 60 (R157). -/
def accrueSecond (s : State) : State :=
  let s1 := { s with plu := { s.plu with remainder := s.plu.remainder - 1000 } }
  if s.plu.activeProfile.seconds ≥ 59 then accrueMinute s1
  else withProfile s1.plu.active (fun p => { p with seconds := p.seconds + 1 }) s1

/-- A DAILY profile after a day roll; the others are unchanged (R159). -/
def Profile.roll (p : Profile) : Profile :=
  if p.mode = .daily then { p with budget := p.latch, used := 0, seconds := 0, warned := false } else p

/-- The tests of R158 for each DAILY profile, from their states before the roll (R159), profile 0 first and profile 3 last (DESIGN
CHOICE, log entry 45). -/
def rollTests (before : Plu) (s : State) : State :=
  (List.range 4).foldl
    (fun s n => if (before.profile n).mode = .daily then budgetTests n (before.profile n) s else s) s

/-- A day roll; `stored` is the day number stored before (R159). -/
def rollDay (stored : Int) (s : State) : State :=
  let day := s.tmb.day
  let s1 := { s with plu := { s.plu with
    profiles := s.plu.profiles.map Profile.roll, dayNumber := some day } }
  send .dayRoll (evalBudget (rollTests s.plu (emit (.dayRoll day stored) s1)))

/-- The roll of a firing or an offset change, made when the day number has risen (R159). -/
def rollIfRisen (s : State) : State :=
  match s.plu.dayNumber with
  | some stored => if stored < s.tmb.day then rollDay stored s else s
  | none => s

/-- The day number at WALL_SET: stored for the first time, or rolled where it differs (R159). -/
def rollAtWallSet (s : State) : State :=
  match s.plu.dayNumber with
  | some stored => if stored = s.tmb.day then s else rollDay stored s
  | none => { s with plu := { s.plu with dayNumber := some s.tmb.day } }

/-- SET_BUDGET (R156). -/
def setBudget (profile mode minutes timing : Nat) (s : State) : State :=
  match BudgetMode.ofCode mode with
  | none => reply .badParam s
  | some m =>
      if profile > 3 || minutes > 1439 || timing > 1 || (timing == 1 && m != .daily) then reply .badParam s
      else if timing = 1 then
        reply .ok (withProfile profile (fun p => { p with latch := minutes }) s)
      else
        let s1 := reply .ok (withProfile profile
          (fun p => { p with mode := m, budget := minutes, latch := minutes, warned := false }) s)
        evalBudget (budgetTests profile (s.plu.profile profile) s1)

/-! ### The override (R160, R161) -/

/-- The end of an override (R161). The entry of an EXPIRED override has already left the table. -/
def stopOverride (cause : OverrideCause) (s : State) : State :=
  match s.plu.override with
  | none => s
  | some o =>
      let s1 := { s with plu := { s.plu with override := none } }
      let s2 := if cause = .expired then s1 else clearEntry .overrideEnd s1
      evalMask (emit (.overrideEnd cause o.scope) s2)

/-- Beginning an override of a scope for minutes that have been taken (R160). -/
def beginOverride (scope : Option Nat) (minutes : Nat) (s : State) : State :=
  let stop := s.tmb.w + 60 * minutes
  let s1 := { s with plu := { s.plu with override := some { scope, stop } } }
  evalMask (answer .ok (beBytes 1 minutes ++ beBytes 5 stop) (keyEntry .overrideEnd stop scope none s1))

/-- OVERRIDE: scope 0 is SERVICE and 1 is ALL (R160, R190). -/
def override (minutes scope : Nat) (s : State) : State :=
  if minutes = 0 || scope > 1 then reply .badParam s
  else if !s.tmb.wallValid then reply .noTime s
  else if scope = 1 then beginOverride none (min minutes 240) s
  else
    match s.presentedService with
    | none => reply .notWaiting s
    | some service => beginOverride (some service) (min minutes 240) s

/-- END_OVERRIDE (R161). -/
def endOverride (s : State) : State :=
  if s.plu.override.isSome then stopOverride .ended (reply .ok s) else reply .notWaiting s

/-! ### Profiles (R149, R150) -/

/-- SELECT_PROFILE: a profile change (R149). -/
def selectProfile (n : Nat) (s : State) : State :=
  if n > 3 then reply .badParam s
  else
    let s1 := stopOverride .profile (reply .ok { s with plu := { s.plu with active := n } })
    let s2 := send .profileChange { s1 with plu := { s1.plu with remainder := 0 } }
    evalBudget (evalHours (evalLocked (evalRating s2)))

/-- SET_PROFILE_LIMITS (R150). A blocked-flags byte above 15 and a flag byte above 1 are refused by R190. -/
def setProfileLimits (profile ceiling blocked policy follow : Nat) (s : State) : State :=
  if profile > 3 || ceiling > 7 || blocked > 15 || policy > 1 || follow > 1 || (profile == 0 && follow == 1) then
    reply .badParam s
  else
    let s1 := reply .ok (withProfile profile
      (fun p => { p with ceiling, blocked := BitVec.ofNat 4 blocked, blockUnrated := policy == 1,
                         follow := follow == 1 }) s)
    if profile = s1.plu.active || (profile == 0 && s1.plu.activeProfile.follow) then evalRating s1 else s1

/-- Whether a service number lies in 1 to 9,999. -/
def serviceOk (service : Nat) : Bool := decide (1 ≤ service) && decide (service ≤ 9999)

/-- Evaluating LOCKED after a change of a profile's list, for the active profile (R150). -/
def lockChanged (profile : Nat) (s : State) : State := if profile = s.plu.active then evalLocked s else s

/-- LOCK_SERVICE (R150). -/
def lockService (profile service : Nat) (s : State) : State :=
  if profile > 3 || !serviceOk service then reply .badParam s
  else if (s.plu.profile profile).locked.contains service then reply .duplicate s
  else if (s.plu.profile profile).locked.length ≥ 16 then reply .full s
  else lockChanged profile
    (reply .ok (withProfile profile (fun p => { p with locked := p.locked ++ [service] }) s))

/-- UNLOCK_SERVICE (R150). -/
def unlockService (profile service : Nat) (s : State) : State :=
  if profile > 3 || !serviceOk service then reply .badParam s
  else if !(s.plu.profile profile).locked.contains service then reply .notFound s
  else lockChanged profile
    (reply .ok (withProfile profile (fun p => { p with locked := p.locked.filter (· != service) }) s))

/-- HOST_MUTE (R162). -/
def hostMute (value : Nat) (s : State) : State :=
  if value > 1 then reply .badParam s
  else reply .ok (withPosted (fun p => { p with hostMute := value == 1 }) s)

/-! ### Ratings (R152, R153) -/

/-- An age as the PLU takes it: 8 to 14 count as 7 (R152). -/
def ageTaken (age : Nat) : Nat := if 8 ≤ age ∧ age ≤ 14 then 7 else age

/-- The presentation that a RATING section is for, if any (R152). -/
def ratesPresentation (x : Section) (s : State) : Option Presentation :=
  s.cce.presented.filter fun p => x.port == .a && x.stream == p.mapStream && x.key == p.service

/-- The change that a RATING section is for, if any (R152). -/
def ratesChange (x : Section) (s : State) : Option Change :=
  match s.cce.engine with
  | .waitMap | .waitKey | .waitSplice =>
      s.cce.change.filter fun c => x.port == .a && x.stream == c.mapStream && x.key == c.service
  | .idle | .tuning => none

/-- Whether a section repeats the presented in-stream rating (R152). -/
def repeatsPresented (x : Section) (p : Plu) : Bool :=
  p.presentedRating.any fun r => r.service == x.key && r.version == x.version

/-- Whether a section repeats the prepared in-stream rating (R152). -/
def repeatsPrepared (x : Section) (p : Plu) : Bool :=
  p.preparedRating.any fun r => r.service == x.key && r.mapStream == x.stream && r.version == x.version

/-- Applying a RATING section (R152). -/
def applyRatingSection (x : Section) (s : State) : State :=
  match ratingBody x.body with
  | none => { s with plu := { s.plu with rejected := satInc max32 s.plu.rejected } }
  | some (sent, flags) =>
      let age := ageTaken sent
      let shown := (ratesPresentation x s).isSome
      let prepared := (ratesChange x s).isSome
      let setShown := shown && !repeatsPresented x s.plu
      let setPrepared := prepared && !repeatsPrepared x s.plu
      if !shown && !prepared then { s with plu := { s.plu with ignored := satInc max32 s.plu.ignored } }
      else
        let s1 := { s with plu := { s.plu with
          presentedRating :=
            if setShown then some { service := x.key, version := x.version, age, flags }
            else s.plu.presentedRating
          preparedRating :=
            if setPrepared then some { service := x.key, mapStream := x.stream, version := x.version, age, flags }
            else s.plu.preparedRating
          applied := if setShown || setPrepared then satInc max32 s.plu.applied else s.plu.applied } }
        if setShown then evalRating s1 else s1

/-- Taking the now-event notice (R153). -/
def takeNowEvent (service : Option Nat) (event : Option NowEvent) (s : State) : State :=
  evalRating { s with plu := { s.plu with
    guideRating := service.bind fun n => event.map fun e =>
      { service := n, event := e.id, age := e.age, flags := e.flags } } }

/-- The in-stream rating that the splice adopts: the prepared one, if it is held for the new service and the context's
map stream (R153). -/
def adopted (service mapStream : Option Nat) (p : Plu) : Option StreamRating :=
  (p.preparedRating.filter fun r => some r.service == service && some r.mapStream == mapStream).map fun r =>
    { service := r.service, version := r.version, age := r.age, flags := r.flags }

/-- Whether a change of context ends the override, and with which cause (R153). -/
def contextEnds (cause : ContextCause) (service : Option Nat) (o : Option Override) : Option OverrideCause :=
  match cause, o with
  | .splice, some { scope := some named, .. } => if service = some named then none else some .splice
  | .standby, some _ => some .standby
  | _, _ => none

/-- Taking a change of the presentation context (R153). -/
def takeContext (cause : ContextCause) (service mapStream : Option Nat) (s : State) : State :=
  let s1 := { s with plu := { s.plu with
    presentedRating := if cause = .splice then adopted service mapStream s.plu else none
    preparedRating := none
    guideRating := s.plu.guideRating.filter fun g => some g.service == service } }
  let s2 :=
    match contextEnds cause service s.plu.override with
    | some why => stopOverride why s1
    | none => s1
  evalLocked (evalRating s2)

/-! ### The commands -/

/-- RATING_SECTION (R152). -/
def execRatingSection (s : State) : Answer :=
  whenRunning s (consume .rating fun x => pluEvent (applyRatingSection x))

/-- NOW_EVENT_NOTICE (R153). -/
def execNowEventNotice (s : State) : Answer :=
  whenRunning s fun s =>
    match s.nextIn .gdsToPlu with
    | some (.nowEvent service event) => pluEvent (takeNowEvent service event) (s.taking .gdsToPlu)
    | _ => s

/-- PLU_CONTEXT_CHANGE (R153). -/
def execPluContextChange (s : State) : Answer :=
  whenRunning s fun s =>
    match s.nextIn (.cceTo .plu) with
    | some (.context .plu cause service mapStream) =>
        pluEvent (takeContext cause service mapStream) (s.taking (.cceTo .plu))
    | _ => s

/-- WINDOW_STATES_HANDOVER (R155). -/
def execWindowStatesHandover (s : State) : Answer :=
  whenRunning s fun s =>
    match s.nextIn .windowsToPlu with
    | some (.windowStates windows) =>
        pluEvent (fun s => evalHours { s with plu := { s.plu with windows } }) (s.taking .windowsToPlu)
    | _ => s

/-- GATE_STATE_HANDOVER (R157). -/
def execGateStateHandover (s : State) : Answer :=
  whenRunning s fun s =>
    match s.nextIn .pgtToPlu with
    | some (.gateState isOpen) =>
        pluEvent (fun s => { s with plu := { s.plu with gateOpen := isOpen } }) (s.taking .pgtToPlu)
    | _ => s

/-- BUDGET_ACCRUAL_SECOND: a completed second of the accrual (R157). -/
def execBudgetAccrualSecond (s : State) : Answer :=
  whenRunning s fun s => if s.plu.secondDue then pluEvent accrueSecond s else s

/-- BUDGET_ACCRUAL_MINUTE: the completed second with which the accumulator reaches 60 (R157). -/
def execBudgetAccrualMinute (s : State) : Answer :=
  whenRunning s fun s =>
    if s.plu.secondDue && decide (59 ≤ s.plu.activeProfile.seconds) then pluEvent accrueSecond s else s

/-- DAY_ROLL_FIRING (R159). -/
def execDayRollFiring (s : State) : Answer :=
  whenRunning s fun s =>
    match s.nextIn .scpToPlu with
    | some (.firing .dayRoll _ _ _) => pluEvent rollIfRisen (s.taking .scpToPlu)
    | _ => s

/-- PLU_OFFSET_CHANGE (R159). -/
def execPluOffsetChange (s : State) : Answer :=
  whenRunning s fun s =>
    match s.nextIn (.tmbTo .plu) with
    | some (.offsetChange .plu) => pluEvent rollIfRisen (s.taking (.tmbTo .plu))
    | _ => s

/-- PLU_WALL_SET (R159). -/
def execPluWallSet (s : State) : Answer :=
  whenRunning s fun s =>
    match s.nextIn (.tmbTo .plu) with
    | some (.wallSet .plu) => pluEvent rollAtWallSet (s.taking (.tmbTo .plu))
    | _ => s

/-- SELECT_PROFILE (R149). -/
def execSelectProfile (s : State) : Answer :=
  whenRunning s fun s =>
    match s.asked with
    | some (.selectProfile profile) => pluEvent (selectProfile profile) s
    | _ => s

/-- SET_PROFILE_LIMITS (R150). -/
def execSetProfileLimits (s : State) : Answer :=
  whenRunning s fun s =>
    match s.asked with
    | some (.setProfileLimits profile ceiling blocked policy follow) =>
        pluEvent (setProfileLimits profile ceiling blocked policy follow) s
    | _ => s

/-- LOCK_SERVICE (R150). -/
def execLockService (s : State) : Answer :=
  whenRunning s fun s =>
    match s.asked with
    | some (.lockService profile service) => pluEvent (lockService profile service) s
    | _ => s

/-- UNLOCK_SERVICE (R150). -/
def execUnlockService (s : State) : Answer :=
  whenRunning s fun s =>
    match s.asked with
    | some (.unlockService profile service) => pluEvent (unlockService profile service) s
    | _ => s

/-- SET_BUDGET (R156). -/
def execSetBudget (s : State) : Answer :=
  whenRunning s fun s =>
    match s.asked with
    | some (.setBudget profile mode minutes timing) => pluEvent (setBudget profile mode minutes timing) s
    | _ => s

/-- OVERRIDE (R160). -/
def execOverride (s : State) : Answer :=
  whenRunning s fun s =>
    match s.asked with
    | some (.override minutes scope) => pluEvent (override minutes scope) s
    | _ => s

/-- END_OVERRIDE (R161). -/
def execEndOverride (s : State) : Answer :=
  whenRunning s fun s =>
    match s.asked with
    | some .endOverride => pluEvent endOverride s
    | _ => s

/-- OVERRIDE_END_FIRING: an override whose end W has reached ends, and a stale firing changes nothing (R161). -/
def execOverrideEndFiring (s : State) : Answer :=
  whenRunning s fun s =>
    match s.nextIn .scpToPlu with
    | some (.firing .overrideEnd _ _ _) =>
        let s1 := s.taking .scpToPlu
        if s1.plu.override.any fun o => decide (o.stop ≤ s1.tmb.w) then pluEvent (stopOverride .expired) s1 else s1
    | _ => s

/-- HOST_MUTE (R162). -/
def execHostMute (s : State) : Answer :=
  whenRunning s fun s =>
    match s.asked with
    | some (.hostMute value) => pluEvent (hostMute value) s
    | _ => s

end Sys2Proof.Machine
end

