-- ==== Sys2Proof/Machine/Schedule.lean ====
section
/-! DEFINITION. The Schedule Comparator: reminders (R58 to R61, R63), the firing pass (R62, R64), the DAY_ROLL entry
(R65) and the viewing-hours ranges (R69 to R71). -/

namespace Sys2Proof.Machine

/-! ### Reminders (R63) -/

/-- The number of periods a reminder covers at W: 1 for a one-shot, and for a repeating one the due points at or
before W (R63). -/
def periodsCovered (due period w : Nat) : Nat :=
  if period = 0 then 1 else if w < due then 0 else (w - due) / period + 1

/-- The smallest due point of a repeating reminder after W (R63). -/
def nextDue (due period w : Nat) : Nat := due + periodsCovered due period w * period

/-- The table after a reminder has fired at W: removed if it is one-shot or its next due point lies beyond the last wall
second, moved to that point otherwise (R63). -/
def rescheduled (e : Entry) (id period w : Nat) (table : List Entry) : List Entry :=
  let rest := removeReminder id table
  if period = 0 || wallMax < nextDue e.due period w then rest
  else insertEntry { e with kind := .reminder id period false, due := nextDue e.due period w } rest

/-- Firing a reminder at W: REMINDER_DUE, then removal or rescheduling (R63). -/
def fireReminder (e : Entry) (id period w : Nat) (s : State) : State :=
  let s1 := emit (.reminderDue id e.due (periodsCovered e.due period w) w e.service e.event) s
  { s1 with scp := { s1.scp with target := rescheduled e id period w s1.scp.target } }

/-- Setting the due-held mark of a reminder where it stands (R60). -/
def markHeld (id : Nat) (table : List Entry) : List Entry :=
  table.map fun e =>
    match e.kind with
    | .reminder i period _ => if i = id then { e with kind := .reminder i period true } else e
    | .device _ => e

/-! ### The firing pass (R62, R64, R65) -/

/-- Keeping DAY_ROLL at the next local midnight (R65). -/
def keepDayRoll (s : State) : State := keyEntry .dayRoll s.tmb.midnight none none s

/-- Firing a device entry: it leaves the table, its firing is delivered to its owner, and DAY_ROLL is recomputed (R62,
R64). -/
def fireDevice (k : DeviceKind) (e : Entry) (s : State) : State :=
  let s1 := send (.firing k e.due e.service e.event)
    { s with scp := { s.scp with target := removeDevice k s.scp.target } }
  if k = .dayRoll then keepDayRoll s1 else s1

/-- Dealing with one entry that the pass to Wn visits (R62). -/
def visit (wn : Nat) (s : State) (e : Entry) : State :=
  match e.kind with
  | .reminder id period _ =>
      if s.scp.hold then { s with scp := { s.scp with target := markHeld id s.scp.target } }
      else fireReminder e id period wn s
  | .device k => fireDevice k e s

/-- The entries that a pass to Wn visits, in table order: due at or before Wn and not due-held (R62). They are those of
the table as the pass starts, so none inserted or moved while it runs is visited. -/
def visited (wn : Nat) (table : List Entry) : List Entry :=
  table.filter fun e => decide (e.due ≤ wn) && !e.isHeld

/-- The firing pass of an advance to Wn (R62). -/
def firingPass (wn : Nat) (s : State) : State := (visited wn s.scp.target).foldl (visit wn) s

/-! ### Viewing hours (R70, R71) -/

/-- The ranges with their contain flags set at a minute (R70). -/
def flagged (m : Nat) (ranges : List HoursRange) : List HoursRange :=
  ranges.map fun r => { r with contains := r.profile.isSome && r.covers m }

/-- The window state of a profile: open if no used range names it, or if one that names it contains the minute (R70). -/
def windowOpen (ranges : List HoursRange) (profile : Nat) : Bool :=
  let own := ranges.filter fun r => r.profile == some profile
  own.isEmpty || own.any HoursRange.contains

/-- The window states of the four profiles. -/
def windowsOf (ranges : List HoursRange) : List Bool := (List.range 4).map (windowOpen ranges)

/-- An evaluation at a minute (R70, R71). -/
def Scp.evaluate (p : Scp) (m : Nat) : Scp :=
  let ranges := flagged m p.ranges
  { p with ranges, windows := windowsOf ranges, lastMinute := some m }

/-- Handing the window states to the parental limit unit (R71). -/
def handWindows (s : State) : State := send (.windowStates s.scp.windows) s

/-- Evaluating the ranges and handing the window states on; while WALL_VALID is clear the states are handed on as they
stand (R71). -/
def evaluateRanges (s : State) : State :=
  handWindows (if s.tmb.wallValid then { s with scp := s.scp.evaluate s.tmb.minute } else s)

/-- The evaluation of an advance or a rewind, made when M differs from the minute of the last one (R71). -/
def evaluateIfMoved (s : State) : State :=
  if s.tmb.wallValid && s.scp.lastMinute != some s.tmb.minute then evaluateRanges s else s

/-- Whether an advance repeats the W of the pass before it at W's limit, the one place where R62 has it happen. A rewind between the
two passes changes nothing of that at the limit; below it, an advance back to the W of the pass before a rewind is an advance like
any other, and evaluates by R71 where the minute differs (DESIGN CHOICE, log entry 38). -/
def repeatsPass (wn : Nat) (p : Scp) : Bool := wn == wallMax && p.lastPass == some wallMax

/-- An advance at the SCP: the pass, then the ranges, which an advance repeating W at its limit does not evaluate
(R47, R62, R71). -/
def advanceTo (wn : Nat) (s : State) : State :=
  let s1 := firingPass wn s
  let s2 := { s1 with scp := { s1.scp with lastPass := some wn } }
  if repeatsPass wn s.scp then s2 else evaluateIfMoved s2

/-! ### Requests (R58 to R61, R69) -/

/-- Whether a period is one a reminder may have (R58). -/
def periodOk (period : Nat) : Bool := period == 0 || (decide (60 ≤ period) && decide (period ≤ 604800))

/-- ADD_REMINDER (R58). The presence byte says which of the service number and event id is present; a value above 3
exceeds its range (R190). -/
def addReminder (id due period service event presence : Nat) (s : State) : State :=
  let service := if presence % 2 = 1 then some service else none
  let event := if presence / 2 = 1 then some event else none
  if id = 0 || !periodOk period || presence > 3 || service.any (fun n => n == 0 || decide (9999 < n))
      || (event.isSome && service.isNone) then reply .badParam s
  else if !s.tmb.wallValid then reply .noTime s
  else if due ≤ s.tmb.w then reply .timePast s
  else if s.scp.target.any (fun e => e.reminderId == some id) then reply .duplicate s
  else if s.scp.reminders.length ≥ 35 then reply .full s
  else
    reply .ok { s with scp := { s.scp with
      target := insertEntry { kind := .reminder id period false, due, service, event } s.scp.target } }

/-- DROP_REMINDER (R59). -/
def dropReminder (id : Nat) (s : State) : State :=
  if s.scp.target.any (fun e => e.reminderId == some id) then
    reply .ok { s with scp := { s.scp with target := removeReminder id s.scp.target } }
  else reply .notFound s

/-- A due-held reminder released: its mark is cleared and it fires against the current W (R61). -/
def releaseEntry (s : State) (e : Entry) : State :=
  match e.kind with
  | .reminder id period _ => fireReminder e id period s.tmb.w s
  | .device _ => s

/-- RELEASE_REMINDERS: the reply is placed before the first event (R61). -/
def releaseReminders (s : State) : State :=
  let s1 := reply .ok { s with scp := { s.scp with hold := false } }
  if s.scp.hold then (s.scp.target.filter Entry.isHeld).foldl releaseEntry s1 else s1

/-- SET_RANGE: the profile FFH makes the range unused (R69, R190). -/
def setRange (index profile lower upper : Nat) (s : State) : State :=
  match s.scp.ranges[index]? with
  | none => reply .badParam s
  | some r =>
      if lower > 1439 || upper > 1439 || (profile > 3 && profile != 255) then reply .badParam s
      else
        let r' := { r with profile := if profile = 255 then none else some profile, lower, upper }
        evaluateRanges (reply .ok { s with scp := { s.scp with ranges := setAt s.scp.ranges index r' } })

/-! ### The commands -/

/-- FIRING_PASS (R62). -/
def execFiringPass (s : State) : Answer :=
  whenRunning s fun s =>
    match s.nextIn (.tmbTo .scp) with
    | some (.advance wn) => advanceTo wn (s.taking (.tmbTo .scp))
    | _ => s

/-- SCP_WALL_SET (R65, R68). -/
def execScpWallSet (s : State) : Answer :=
  whenRunning s fun s =>
    match s.nextIn (.tmbTo .scp) with
    | some (.wallSet .scp) => evaluateRanges (keepDayRoll (s.taking (.tmbTo .scp)))
    | _ => s

/-- SCP_REWIND (R67). -/
def execScpRewind (s : State) : Answer :=
  whenRunning s fun s =>
    match s.nextIn (.tmbTo .scp) with
    | some (.rewind .scp) => evaluateIfMoved (keepDayRoll (s.taking (.tmbTo .scp)))
    | _ => s

/-- SCP_OFFSET_CHANGE (R65, R66). -/
def execScpOffsetChange (s : State) : Answer :=
  whenRunning s fun s =>
    match s.nextIn (.tmbTo .scp) with
    | some (.offsetChange .scp) => evaluateRanges (keepDayRoll (s.taking (.tmbTo .scp)))
    | _ => s

/-- SCP_PROFILE_CHANGE (R71). -/
def execScpProfileChange (s : State) : Answer :=
  whenRunning s fun s =>
    match s.nextIn .pluToScp with
    | some .profileChange => evaluateRanges (s.taking .pluToScp)
    | _ => s

/-- ADD_REMINDER (R58). -/
def execAddReminder (s : State) : Answer :=
  whenRunning s fun s =>
    match s.asked with
    | some (.addReminder id due period service event presence) =>
        addReminder id due period service event presence s
    | _ => s

/-- DROP_REMINDER (R59). -/
def execDropReminder (s : State) : Answer :=
  whenRunning s fun s =>
    match s.asked with
    | some (.dropReminder id) => dropReminder id s
    | _ => s

/-- HOLD_REMINDERS (R60). -/
def execHoldReminders (s : State) : Answer :=
  whenRunning s fun s =>
    match s.asked with
    | some .holdReminders => reply .ok { s with scp := { s.scp with hold := true } }
    | _ => s

/-- RELEASE_REMINDERS (R61). -/
def execReleaseReminders (s : State) : Answer :=
  whenRunning s fun s =>
    match s.asked with
    | some .releaseReminders => releaseReminders s
    | _ => s

/-- SET_RANGE (R69). -/
def execSetRange (s : State) : Answer :=
  whenRunning s fun s =>
    match s.asked with
    | some (.setRange index profile lower upper) => setRange index profile lower upper s
    | _ => s

end Sys2Proof.Machine
end

