-- ==== Sys2Proof/Machine/Window.lean ====
section
/-! DEFINITION. The Guide Window: GRID_SET (R170), CURSOR_MOVE (R171 to R173) and GRID_READ (R174 to R176). -/

namespace Sys2Proof.Machine

/-! ### The ring and the effective values (R169) -/

/-- The number of visible rows V. -/
def Gwn.visible (g : Gwn) (ring : List Service) : Nat := min g.rows ring.length

/-- The effective top row; of use while the ring is not empty. -/
def Gwn.effectiveTop (g : Gwn) (ring : List Service) : Nat := g.top % ring.length

/-- The effective cursor row; of use while the ring is not empty. -/
def Gwn.effectiveRow (g : Gwn) (ring : List Service) : Nat := min g.cursorRow (g.visible ring - 1)

/-- The ring index that a visible row shows. -/
def Gwn.ringIndex (g : Gwn) (ring : List Service) (row : Nat) : Nat :=
  (g.effectiveTop ring + row) % ring.length

/-- The service on which the cursor stands, none for an empty ring. -/
def Gwn.cursorService (g : Gwn) (ring : List Service) : Option Nat :=
  (ring[g.ringIndex ring (g.effectiveRow ring)]?).map Service.number

/-- A value brought within two limits. -/
def within (low high v : Nat) : Nat := max low (min high v)

/-! ### GRID_SET (R170) -/

/-- The ring index of the first service at or above a number, 0 where there is none. -/
def topFor (ring : List Service) (number : Nat) : Nat :=
  (indexOf (fun r => decide (number ≤ r.number)) ring).getD 0

/-- The window record that GRID_SET leaves; top service 0 is none (R170, R190). -/
def Gwn.place (g : Gwn) (ring : List Service) (w top rows columns start : Nat) : Gwn :=
  let columns' := within 1 6 columns
  let start' := within (earliestStart w) (latestStart w) (start / 1800 * 1800)
  { top := if top = 0 then g.top else topFor ring top
    rows := within 1 10 rows
    start := some start'
    columns := columns'
    cursorRow := 0
    cursorTime := some (if start' ≤ w ∧ w < start' + 1800 * columns' then w else start') }

/-- What GRID_SET's reply carries (R170): the top row as it stands in the record, which a kept one may hold beyond the ring,
and the service that it shows (DESIGN CHOICE, log entry 42). Start and cursor time reach beyond the last wall second
(R168), so each takes 5 bytes. -/
def Gwn.setReply (g : Gwn) (ring : List Service) : List Byte :=
  beBytes 1 g.top ++ encOptNat 2 ((ring[g.effectiveTop ring]?).map Service.number) ++ beBytes 1 g.rows
    ++ beBytes 1 g.columns ++ beBytes 5 (g.start.getD 0) ++ beBytes 1 g.cursorRow
    ++ beBytes 5 (g.cursorTime.getD 0)

/-- Whether the window refuses with NO_TIME: the wall is invalid, or start is still none (R168). -/
def State.noGrid (s : State) : Bool := !s.tmb.wallValid || s.gwn.start.isNone

/-- GRID_SET (R170). -/
def gridSet (top rows columns start : Nat) (s : State) : State :=
  if top > 9999 then reply .badParam s
  else if s.noGrid then reply .noTime s
  else
    let g := s.gwn.place s.sdr.ring s.tmb.w top rows columns start
    answer .ok (g.setReply s.sdr.ring) { s with gwn := g }

/-! ### CURSOR_MOVE (R171 to R173) -/

/-- The directions (R190). -/
inductive Direction where
  | up
  | down
  | left
  | right
  | pageUp
  | pageDown
  deriving DecidableEq, Repr

/-- The direction that a code names. -/
def Direction.ofCode : Nat → Option Direction
  | 0 => some .up
  | 1 => some .down
  | 2 => some .left
  | 3 => some .right
  | 4 => some .pageUp
  | 5 => some .pageDown
  | _ => none

/-- Whether a direction moves between rows. -/
def Direction.isVertical : Direction → Bool
  | .left => false
  | .right => false
  | _ => true

/-- Step 1: the effective values and the limits written into the record (R171). -/
def Gwn.normalise (g : Gwn) (ring : List Service) (w : Nat) : Gwn :=
  { g with
    top := if ring.isEmpty then g.top else g.effectiveTop ring
    cursorRow := if ring.isEmpty then g.cursorRow else g.effectiveRow ring
    start := g.start.map (within (earliestStart w) (latestStart w))
    cursorTime := g.cursorTime.map (within (earliestStart w) (cursorLimit w g.columns)) }

/-- Whether an event contains a wall second. -/
def GuideEvent.holds (c : Nat) (e : GuideEvent) : Bool := decide (e.start ≤ c) && decide (c < e.stop)

/-- The start of the next programme after a cursor time (R172). -/
def nextStart (events : List GuideEvent) (c : Nat) : Option Nat :=
  match events.find? (GuideEvent.holds c) with
  | some e => (events.find? fun x => decide (e.stop ≤ x.start)).map GuideEvent.start
  | none => (events.find? fun x => decide (c < x.start)).map GuideEvent.start

/-- The start of the programme before a cursor time (R173). -/
def previousStart (events : List GuideEvent) (c : Nat) : Option Nat :=
  let bound := ((events.find? (GuideEvent.holds c)).map GuideEvent.start).getD c
  ((events.filter fun x => decide (x.start < bound)).getLast?).map GuideEvent.start

/-- RIGHT (R172). -/
def moveRight (events : List GuideEvent) (limit c : Nat) : Nat :=
  ((nextStart events c).filter fun n => decide (n ≤ limit)).getD (min limit (c + 1800))

/-- LEFT (R173). -/
def moveLeft (events : List GuideEvent) (earliest c : Nat) : Nat :=
  max earliest ((previousStart events c).getD (c - 1800))

/-- Step 2: the move on a normalised record; `events` are those of the cursor's service (R171). -/
def Gwn.move (g : Gwn) (ring : List Service) (events : List GuideEvent) (w : Nat) : Direction → Gwn
  | .up =>
      if 0 < g.cursorRow then { g with cursorRow := g.cursorRow - 1 }
      else { g with top := (g.top + ring.length - 1) % ring.length }
  | .down =>
      if g.cursorRow < g.visible ring - 1 then { g with cursorRow := g.cursorRow + 1 }
      else { g with top := (g.top + 1) % ring.length }
  | .pageUp => { g with top := (g.top + ring.length - g.visible ring) % ring.length }
  | .pageDown => { g with top := (g.top + g.visible ring) % ring.length }
  | .right => { g with cursorTime := g.cursorTime.map (moveRight events (cursorLimit w g.columns)) }
  | .left => { g with cursorTime := g.cursorTime.map (moveLeft events (earliestStart w)) }

/-- A number of half hours, rounded up. -/
def halfHours (seconds : Nat) : Nat := (seconds + 1799) / 1800

/-- Step 3: the scroll, half hour by half hour, that ends with the cursor time in the window or at a limit (R171). -/
def scrolled (w columns start c : Nat) : Nat :=
  if start + 1800 * columns ≤ c then
    start + 1800 * min ((c - (start + 1800 * columns)) / 1800 + 1) (halfHours (latestStart w - start))
  else if c < start then
    start - 1800 * min (halfHours (start - c)) (halfHours (start - earliestStart w))
  else start

/-- The record after the scroll. -/
def Gwn.scroll (g : Gwn) (w : Nat) : Gwn :=
  { g with start := g.start.map fun start => scrolled w g.columns start (g.cursorTime.getD start) }

/-- What CURSOR_MOVE's reply carries (R171). -/
def Gwn.moveReply (g : Gwn) (ring : List Service) : List Byte :=
  beBytes 1 g.top ++ beBytes 1 g.cursorRow ++ encOptNat 2 (g.cursorService ring)
    ++ beBytes 5 (g.cursorTime.getD 0) ++ beBytes 5 (g.start.getD 0)

/-- A cursor move that passes its checks: normalise, move, scroll (R171). -/
def moveCursor (d : Direction) (s : State) : State :=
  let ring := s.sdr.ring
  let g := s.gwn.normalise ring s.tmb.w
  let events := ((g.cursorService ring).map s.gds.eventsOf).getD []
  let g' := (g.move ring events s.tmb.w d).scroll s.tmb.w
  answer .ok (g'.moveReply ring) { s with gwn := g' }

/-- CURSOR_MOVE (R171). -/
def cursorMove (code : Nat) (s : State) : State :=
  match Direction.ofCode code with
  | none => reply .badParam s
  | some d =>
      if s.noGrid then reply .noTime s
      else if d.isVertical && s.sdr.ring.isEmpty then reply .notFound s
      else moveCursor d s

/-! ### GRID_READ (R174 to R176) -/

/-- The attribute set of a span, in the order of R176. -/
def attributesOf (s : State) (onCursorRow : Bool) (service : Service) (s0 s1 : Nat) (e : GuideEvent) : List Bool :=
  [onCursorRow && s.gwn.cursorTime.any fun c => e.holds c,
   e.holds s.tmb.w,
   s.scp.reminders.any fun r => r.service == some e.service && r.event == some e.id,
   s.plu.ratingFails e.age e.flags || s.plu.lockHolds service.number,
   !service.tiers.isEmpty && !service.tiers.any s.tierEntitled,
   s.grantTest e.service e.id,
   decide (e.start < s0),
   decide (s1 < e.stop)]

/-- The start minute of a span (R175). -/
def startMinute (s0 : Nat) (e : GuideEvent) : Nat := (max e.start s0 - s0) / 60

/-- The end minute of a span (R175). -/
def endMinute (s0 s1 : Nat) (e : GuideEvent) : Nat := (min e.stop s1 - s0 + 59) / 60

/-- The events visible in a window (R175). -/
def visibleEvents (events : List GuideEvent) (s0 s1 : Nat) : List GuideEvent :=
  events.filter fun e => decide (s0 < e.stop) && decide (e.start < s1)

/-- One span of a row record (R174, R191). -/
def encSpan (s : State) (onCursorRow : Bool) (service : Service) (s0 s1 : Nat) (e : GuideEvent) : List Byte :=
  beBytes 2 e.id ++ beBytes 1 (startMinute s0 e) ++ beBytes 1 (endMinute s0 s1 e - startMinute s0 e)
    ++ encCode (bitMap (attributesOf s onCursorRow service s0 s1 e))

/-- The record of a visible row, its fields in the order of R174: the span count and the truncated flag, then the spans as a
list with a count byte of its own (DESIGN CHOICE, log entry 23). -/
def rowRecord (s : State) (s0 row : Nat) : List Byte :=
  let ring := s.sdr.ring
  let index := s.gwn.ringIndex ring row
  let s1 := s0 + 1800 * s.gwn.columns
  match ring[index]? with
  | none => []
  | some service =>
      let onCursorRow := row == s.gwn.effectiveRow ring
      let events := visibleEvents (s.gds.eventsOf service.number) s0 s1
      let spans := events.take 12
      beBytes 1 row ++ beBytes 1 index ++ beBytes 2 service.number ++ encText service.name
        ++ encFlag onCursorRow ++ encFlag (!s.gds.hasService service.number)
        ++ beBytes 5 s0 ++ beBytes 1 s.gwn.columns
        ++ beBytes 1 spans.length ++ encFlag (decide (12 < events.length))
        ++ encList (encSpan s onCursorRow service s0 s1) spans

/-- The records of GRID_READ: one for each visible row, or one that carries no row for an empty ring (R174). -/
def gridRecords (s : State) (s0 : Nat) : List (List Byte) :=
  if s.sdr.ring.isEmpty then [[]]
  else (List.range (s.gwn.visible s.sdr.ring)).map (rowRecord s s0)

/-- GRID_READ (R174). -/
def gridRead (s : State) : State :=
  match s.gwn.start with
  | none => reply .noTime s
  | some s0 => if s.tmb.wallValid then answerRecords .ok false (gridRecords s s0) s else reply .noTime s

/-! ### The commands -/

/-- GWN_WALL_SET (R168). -/
def execGwnWallSet (s : State) : Answer :=
  whenRunning s fun s =>
    match s.nextIn (.tmbTo .gwn) with
    | some (.wallSet .gwn) =>
        let s1 := s.taking (.tmbTo .gwn)
        if s1.gwn.start.isNone then
          { s1 with gwn := { s1.gwn with start := some (earliestStart s1.tmb.w), cursorTime := some s1.tmb.w } }
        else s1
    | _ => s

/-- GRID_SET (R170). -/
def execGridSet (s : State) : Answer :=
  whenRunning s fun s =>
    match s.asked with
    | some (.gridSet top rows columns start) => gridSet top rows columns start s
    | _ => s

/-- CURSOR_MOVE (R171). -/
def execCursorMove (s : State) : Answer :=
  whenRunning s fun s =>
    match s.asked with
    | some (.cursorMove code) => cursorMove code s
    | _ => s

/-- GRID_READ (R174). -/
def execGridRead (s : State) : Answer :=
  whenRunning s fun s =>
    match s.asked with
    | some .gridRead => gridRead s
    | _ => s

end Sys2Proof.Machine
end

