-- ==== Sys2Proof/Machine/Dispatch.lean ====
section
/-! DEFINITION. Which meaning runs for each command: one arm per constructor. -/

namespace Sys2Proof.Machine

def exec (i : Instr) (s : State) : Host.Outcome State Fault Refusal :=
  match i with
  | .warmReset cause => Sys2Proof.Machine.execWarmReset cause s
  | .resetPinRelease => Sys2Proof.Machine.execResetPinRelease s
  | .coldStart => Sys2Proof.Machine.execColdStart s
  | .syncSearch port byte => Sys2Proof.Machine.execSyncSearch port byte s
  | .cellArrival port bytes => Sys2Proof.Machine.execCellArrival port bytes s
  | .portLCell strobe bytes => Sys2Proof.Machine.execPortLCell strobe bytes s
  | .idleWatchExpiry port => Sys2Proof.Machine.execIdleWatchExpiry port s
  | .holdoverWatchExpiry => Sys2Proof.Machine.execHoldoverWatchExpiry s
  | .secondAdvance => Sys2Proof.Machine.execSecondAdvance s
  | .timeSection => Sys2Proof.Machine.execTimeSection s
  | .offsetChangeFiring => Sys2Proof.Machine.execOffsetChangeFiring s
  | .firingPass => Sys2Proof.Machine.execFiringPass s
  | .scpWallSet => Sys2Proof.Machine.execScpWallSet s
  | .scpRewind => Sys2Proof.Machine.execScpRewind s
  | .scpOffsetChange => Sys2Proof.Machine.execScpOffsetChange s
  | .scpProfileChange => Sys2Proof.Machine.execScpProfileChange s
  | .addReminder => Sys2Proof.Machine.execAddReminder s
  | .dropReminder => Sys2Proof.Machine.execDropReminder s
  | .holdReminders => Sys2Proof.Machine.execHoldReminders s
  | .releaseReminders => Sys2Proof.Machine.execReleaseReminders s
  | .setRange => Sys2Proof.Machine.execSetRange s
  | .directorySection => Sys2Proof.Machine.execDirectorySection s
  | .tune => Sys2Proof.Machine.execTune s
  | .portALockReport => Sys2Proof.Machine.execPortALockReport s
  | .portAHuntReport => Sys2Proof.Machine.execPortAHuntReport s
  | .tunerReady => Sys2Proof.Machine.execTunerReady s
  | .tunerFail => Sys2Proof.Machine.execTunerFail s
  | .tuneTimeout => Sys2Proof.Machine.execTuneTimeout s
  | .mapSection => Sys2Proof.Machine.execMapSection s
  | .noMapTimeout => Sys2Proof.Machine.execNoMapTimeout s
  | .armingReport => Sys2Proof.Machine.execArmingReport s
  | .waitKeyTimeout => Sys2Proof.Machine.execWaitKeyTimeout s
  | .forcedSplice => Sys2Proof.Machine.execForcedSplice s
  | .cancel => Sys2Proof.Machine.execCancel s
  | .setAudio => Sys2Proof.Machine.execSetAudio s
  | .standby => Sys2Proof.Machine.execStandby s
  | .wake => Sys2Proof.Machine.execWake s
  | .addRoute => Sys2Proof.Machine.execAddRoute s
  | .dropRoute => Sys2Proof.Machine.execDropRoute s
  | .keySection => Sys2Proof.Machine.execKeySection s
  | .entChangeNotice => Sys2Proof.Machine.execEntChangeNotice s
  | .dscWallSet => Sys2Proof.Machine.execDscWallSet s
  | .entitlementSection => Sys2Proof.Machine.execEntitlementSection s
  | .entExpiryFiring => Sys2Proof.Machine.execEntExpiryFiring s
  | .enuWallSet => Sys2Proof.Machine.execEnuWallSet s
  | .purchase => Sys2Proof.Machine.execPurchase s
  | .guideSection => Sys2Proof.Machine.execGuideSection s
  | .eventEndFiring => Sys2Proof.Machine.execEventEndFiring s
  | .gdsContextChange => Sys2Proof.Machine.execGdsContextChange s
  | .gdsRewind => Sys2Proof.Machine.execGdsRewind s
  | .gdsWallSet => Sys2Proof.Machine.execGdsWallSet s
  | .dayRollPurge => Sys2Proof.Machine.execDayRollPurge s
  | .ratingSection => Sys2Proof.Machine.execRatingSection s
  | .nowEventNotice => Sys2Proof.Machine.execNowEventNotice s
  | .pluContextChange => Sys2Proof.Machine.execPluContextChange s
  | .windowStatesHandover => Sys2Proof.Machine.execWindowStatesHandover s
  | .gateStateHandover => Sys2Proof.Machine.execGateStateHandover s
  | .budgetAccrualMinute => Sys2Proof.Machine.execBudgetAccrualMinute s
  | .dayRollFiring => Sys2Proof.Machine.execDayRollFiring s
  | .pluOffsetChange => Sys2Proof.Machine.execPluOffsetChange s
  | .pluWallSet => Sys2Proof.Machine.execPluWallSet s
  | .selectProfile => Sys2Proof.Machine.execSelectProfile s
  | .setProfileLimits => Sys2Proof.Machine.execSetProfileLimits s
  | .lockService => Sys2Proof.Machine.execLockService s
  | .unlockService => Sys2Proof.Machine.execUnlockService s
  | .setBudget => Sys2Proof.Machine.execSetBudget s
  | .override => Sys2Proof.Machine.execOverride s
  | .endOverride => Sys2Proof.Machine.execEndOverride s
  | .overrideEndFiring => Sys2Proof.Machine.execOverrideEndFiring s
  | .hostMute => Sys2Proof.Machine.execHostMute s
  | .gatePosting poster => Sys2Proof.Machine.execGatePosting poster s
  | .pgtContextChange => Sys2Proof.Machine.execPgtContextChange s
  | .gwnWallSet => Sys2Proof.Machine.execGwnWallSet s
  | .gridSet => Sys2Proof.Machine.execGridSet s
  | .cursorMove => Sys2Proof.Machine.execCursorMove s
  | .gridRead => Sys2Proof.Machine.execGridRead s
  | .requestIntake => Sys2Proof.Machine.execRequestIntake s
  | .reset => Sys2Proof.Machine.execReset s
  | .readTable => Sys2Proof.Machine.execReadTable s
  | .setEventMask => Sys2Proof.Machine.execSetEventMask s
  | .dataLaneCellSent => Sys2Proof.Machine.execDataLaneCellSent s
  | .mainSupplyLoss => Sys2Proof.Machine.execMainSupplyLoss s
  | .budgetAccrualSecond => Sys2Proof.Machine.execBudgetAccrualSecond s

end Sys2Proof.Machine
end

