-- ==== Sys2Proof/Machine/Idle.lean ====
section
/-! DEFINITION. What the part does when no command waits: the next of its own steps that is due, or one LOCAL millisecond
(log entry 3). -/

namespace Sys2Proof.Machine

/-- The command that handles a request at its owner (R178). -/
def Request.command : Request → Instr
  | .reset => .reset
  | .readTable .. => .readTable
  | .setEventMask .. => .setEventMask
  | .addRoute .. => .addRoute
  | .dropRoute .. => .dropRoute
  | .tune .. => .tune
  | .cancel => .cancel
  | .tunerReady .. => .tunerReady
  | .tunerFail .. => .tunerFail
  | .setAudio .. => .setAudio
  | .standby => .standby
  | .wake .. => .wake
  | .addReminder .. => .addReminder
  | .dropReminder .. => .dropReminder
  | .holdReminders => .holdReminders
  | .releaseReminders => .releaseReminders
  | .setRange .. => .setRange
  | .purchase .. => .purchase
  | .selectProfile .. => .selectProfile
  | .setProfileLimits .. => .setProfileLimits
  | .setBudget .. => .setBudget
  | .lockService .. => .lockService
  | .unlockService .. => .unlockService
  | .override .. => .override
  | .endOverride => .endOverride
  | .hostMute .. => .hostMute
  | .gridSet .. => .gridSet
  | .cursorMove .. => .cursorMove
  | .gridRead => .gridRead

/-- The command by which the owner of a device kind takes its firing (R64). -/
def DeviceKind.command : DeviceKind → Instr
  | .eventEnd => .eventEndFiring
  | .dayRoll => .dayRollFiring
  | .entExpiry => .entExpiryFiring
  | .overrideEnd => .overrideEndFiring
  | .offsetChange => .offsetChangeFiring

/-- The command by which a block takes WALL_SET (R49). -/
def wallSetCommand : Block → Option Instr
  | .scp => some .scpWallSet
  | .gds => some .gdsWallSet
  | .enu => some .enuWallSet
  | .dsc => some .dscWallSet
  | .plu => some .pluWallSet
  | .gwn => some .gwnWallSet
  | .pgt => none

/-- The command by which a block takes a rewind (R47). -/
def rewindCommand : Block → Option Instr
  | .scp => some .scpRewind
  | .gds => some .gdsRewind
  | _ => none

/-- The command by which a block takes an offset change (R51). -/
def offsetCommand : Block → Option Instr
  | .scp => some .scpOffsetChange
  | .plu => some .pluOffsetChange
  | _ => none

/-- The command by which a block takes a change of the presentation context (R78). -/
def contextCommand : Block → Option Instr
  | .gds => some .gdsContextChange
  | .plu => some .pluContextChange
  | .pgt => some .pgtContextChange
  | _ => none

/-- The command by which a hand-over is taken. -/
def Handover.command : Handover → Option Instr
  | .advance _ => some .firingPass
  | .wallSet dest => wallSetCommand dest
  | .rewind dest => rewindCommand dest
  | .offsetChange dest => offsetCommand dest
  | .firing kind _ _ _ => some kind.command
  | .windowStates _ => some .windowStatesHandover
  | .profileChange => some .scpProfileChange
  | .dayRoll => some .dayRollPurge
  | .dscPosting _ _ => some (.gatePosting .dsc)
  | .pluPosting _ => some (.gatePosting .plu)
  | .context dest _ _ _ => contextCommand dest
  | .nowEvent _ _ => some .nowEventNotice
  | .gateState _ => some .gateStateHandover
  | .entNotice => some .entChangeNotice
  | .armingReport _ _ _ => some .armingReport
  | .portALock => some .portALockReport
  | .portAHunt => some .portAHuntReport

/-- The command by which the consumer of a class takes a section (R30). -/
def SectionClass.command : SectionClass → Instr
  | .time => .timeSection
  | .directory => .directorySection
  | .guide => .guideSection
  | .entitlement => .entitlementSection
  | .map => .mapSection
  | .key => .keySection
  | .rating => .ratingSection

/-- The command for the first delivery queue in which a section waits (R30). -/
def waitingSection (s : State) : Option Instr :=
  (SectionClass.all.find? fun c => !(s.queues.of c).isEmpty).map SectionClass.command

/-- The commands whose LOCAL time or whose second has come, in the order in which they are tried (R6, R43, R46, R84,
R86, R88, R89). -/
def timedSteps (s : State) : List (Bool × Instr) :=
  [(idleDue s.cin.a s.tmb.localTime, .idleWatchExpiry .a),
   (idleDue s.cin.b s.tmb.localTime, .idleWatchExpiry .b),
   (holdoverDue s.tmb, .holdoverWatchExpiry),
   (s.tmb.check.2 != .still, .secondAdvance),
   (phaseOver .tuning 1500 s, .tuneTimeout),
   (phaseOver .waitMap 800 s, .noMapTimeout),
   (phaseOver .waitKey 1200 s, .waitKeyTimeout),
   (phaseOver .waitSplice 1000 s, .forcedSplice)]

/-- The first timed step that is due. -/
def timedStep (s : State) : Option Instr := ((timedSteps s).find? Prod.fst).map Prod.snd

/-- Request intake, when the head of the intake queue can be taken (R177). -/
def intakeStep (s : State) : Option Instr :=
  match s.rqh.intake with
  | payload :: _ => if s.canTake payload then some .requestIntake else none
  | [] => none

/-- The data lane, when a cell waits for it (R19). -/
def laneStep (s : State) : Option Instr :=
  if s.lanes.waiting.isEmpty && s.rpq.queue.isEmpty then none else some .dataLaneCellSent

/-- The step that the part takes next of its own accord, none when nothing is due (log entry 3). -/
def ownStep (s : State) : Option Instr :=
  if s.running then
    (s.asked.map Request.command)
      <|> (s.inFlight.head?.bind Handover.command)
      <|> waitingSection s
      <|> timedStep s
      <|> intakeStep s
      <|> laneStep s
  else none

/-- The command for a second of the accrual that this millisecond completes, ahead of every other command, so that nothing
can stop the accrual before the second is counted (R157; log entry 35). -/
def secondCommands (p : Plu) : List Instr :=
  if p.secondDue then [if 59 ≤ p.activeProfile.seconds then .budgetAccrualMinute else .budgetAccrualSecond] else []

/-- One LOCAL millisecond of a running part: LOCAL and NETWORK time run, and the budget accrual with them (R35, R36,
R157). -/
def tick (s : State) : State :=
  if s.running then
    let plu := if s.plu.accruing then { s.plu with remainder := s.plu.remainder + 1 } else s.plu
    { s with tmb := s.tmb.runMs, plu, pending := secondCommands plu ++ s.pending }
  else s

end Sys2Proof.Machine
end

