-- ==== Sys2Proof/Machine/Step.lean ====
section
/-! DEFINITION. One step of the part. -/

namespace Sys2Proof.Machine

/-- The state without its waiting commands but for these. -/
def State.withPending (s : State) (rest : List Instr) : State := { s with pending := rest }

/-- What the part does with no command waiting: its own next step if one is due, and one LOCAL millisecond otherwise
(DESIGN CHOICE, log entry 3). -/
def idleStep (s : State) : Host.Outcome State Fault Refusal :=
  match ownStep s with
  | some c => exec c s
  | none => .next (tick s)

/-- One step: the command at the front of the queue, with the queue's rest. -/
def step (s : State) : Host.Outcome State Fault Refusal :=
  match s.pending with
  | c :: rest => exec c (s.withPending rest)
  | [] => idleStep s

/-- The state with the command that a word spells in front of its queue; unchanged where it spells none. -/
def State.withFetchWord (s : State) (nbits w : Nat) : State :=
  match Sys2Proof.decodeTableWord nbits w with
  | some c => s.withPending (c :: s.pending)
  | none => s

end Sys2Proof.Machine
end

