-- ==== Sys2Proof/Safety.lean ====
section
/-! DEFINITION. The words in which the statements about the part are made: a request being answered, and the invariants
that the manual gives the blocks. -/

namespace Sys2Proof.Machine

/-! ### Requests -/

/-- A running part with this request in progress. -/
def State.asking (s : State) (tag : Byte) (request : Request) (reserved : Nat) : Prop :=
  s.running = true ∧ s.rqh.inProgress = some { tag, request, reserved }

/-- The part after the one reply to a request: its record is queued and the request is no longer in progress (R177,
R179). -/
def State.replied (s : State) (tag : Byte) (request : Request) (result : Result) (data : List Byte) : State :=
  { s with
    rqh := { s.rqh with inProgress := none }
    rpq := { s.rpq with queue := s.rpq.queue ++
      [.reply (BitVec.ofNat 8 request.code) tag result false false data] } }

/-- A hand-over that is next in its channel on a running part. -/
def State.offered (s : State) (h : Handover) : Prop := s.running = true ∧ s.nextIn h.channel = some h

/-! ### What an event leaves behind -/

/-- The hand-overs in flight once this one, next in its channel, has been taken. -/
def State.others (s : State) (h : Handover) : List Handover := s.inFlight.eraseP fun x => x.channel == h.channel

/-- The posting that an event at the PLU sends, from the part before it to the part after it: none where neither a
source nor the mask changed (R163). -/
def State.posts (s t : State) : List Handover :=
  if t.plu.posted = s.plu.posted then [] else [.pluPosting t.plu.posted]

/-- The accrual runs exactly while the gate is OPEN, no override is active and the active profile has a budget mode
(R157). -/
def Plu.settled (p : Plu) : Prop :=
  p.accruing = (p.gateOpen && p.override.isNone && p.activeProfile.mode != .none)

/-- The current rating and the source RATING stand as R154 evaluates them for the service presented, none while the context
is NONE: the in-stream rating of that service first, its guide rating next, and unrated otherwise; a rating fails by its
age, by a blocked flag, or by the age of 15 under a policy that blocks the unrated. -/
def Plu.rated (p : Plu) (presented : Option Nat) : Prop :=
  let limits := if p.activeProfile.follow then p.profile 0 else p.activeProfile
  let fails (age : Nat) (flags : Advisory) : Prop := (age ≤ 7 ∧ limits.ceiling < age)
    ∨ flags &&& limits.blocked ≠ 0#4 ∨ (age = 15 ∧ limits.blockUnrated = true)
  match presented with
  | none => p.current = .none ∧ p.posted.rating = false
  | some service =>
      (∀ r, p.presentedRating = some r → r.service = service →
        p.current = .inStream r.age r.flags ∧ (p.posted.rating = true ↔ fails r.age r.flags))
      ∧ ((∀ r, p.presentedRating = some r → r.service ≠ service) →
        (∀ g, p.guideRating = some g → g.service = service →
          p.current = .guide g.event g.age g.flags ∧ (p.posted.rating = true ↔ fails g.age g.flags))
        ∧ ((∀ g, p.guideRating = some g → g.service ≠ service) →
          p.current = .unrated ∧ p.posted.rating = limits.blockUnrated))

/-- The part once a change has ended without a splice and no TUNE waits: its ARMED routes and its ARMING record are gone,
CHANGE_DONE is offered, and the engine is in IDLE (R91). -/
def State.changeEnded (s : State) (service : Nat) (reason : DoneReason) : State :=
  { emit (.changeDone service reason) s with
    routes := s.routes.map fun entry => entry.filter fun r => r.state != .armed
    dsc := { s.dsc with arming := none }
    cce := { s.cce with engine := .idle, change := none } }

/-- The route table with the LIVE routes of owner CHANGE freed. -/
def State.routesDropped (s : State) : List (Option Route) :=
  s.routes.map fun entry => entry.filter fun r => !(r.state == .live && r.owner == .change)

/-- What the descrambler posts when its ACTIVE record is freed: both sources clear, where one was set (R100). -/
def State.postsFreed (s : State) : List Handover :=
  if s.dsc.active.isSome ∧ (s.dsc.noKey = true ∨ s.dsc.notEntitled = true) then [.dscPosting false false] else []

/-- A change of the presentation context, as it is handed to the gate, the guide store and the PLU (R78). -/
def contextHandovers (cause : ContextCause) (service mapStream : Option Nat) : List Handover :=
  [.context .pgt cause service mapStream, .context .gds cause service mapStream, .context .plu cause service mapStream]

/-- The part after the start of a cross-multiplex change (R82): what was presented is dropped, Port A is restarted with its
reports still in flight (R5; log entry 13), and the host is asked to tune. -/
def State.crossed (s : State) (c : Change) : State :=
  emit (.tuneRequest c.service c.frequency c.modulation)
    { s with
      cce := { s.cce with engine := .tuning, change := some c, tuned := none, presented := none }
      routes := s.routesDropped.map (Option.map fun r =>
        if r.port = .a then { r.abandon with expected := none } else r)
      dsc := { s.dsc with
        active := none
        noKey := if s.dsc.active.isSome then false else s.dsc.noKey
        notEntitled := if s.dsc.active.isSome then false else s.dsc.notEntitled }
      cin := { s.cin with a := { s.cin.a with
        sync := .hunt, goodSync := 0, failures := 0, idle := false, idleSince := none, taken := [] } }
      inFlight := (s.inFlight ++ s.postsFreed ++ contextHandovers .crossMultiplex none none).filter
        fun h => h.channel != .cinToCce }

/-- The table with these routes in its lowest free entries, in order (R9, R15). -/
def fillFree : List Route → List (Option Route) → List (Option Route)
  | [], table => table
  | _, [] => []
  | r :: rs, none :: table => some r :: fillFree rs table
  | rs, some r :: table => some r :: fillFree rs table

/-- The host routes that share their port and stream with a route of owner CHANGE in this state (R15), in entry order, which is the
order of their reports by the model's choice (log entry 14). -/
def hostsUnder (state : RouteState) (table : List (Option Route)) : List Route :=
  (table.filterMap id).filter fun h => h.owner == .host && table.any fun entry => entry.any fun r =>
    r.owner == .change && r.state == state && r.port == h.port && r.stream == h.stream

/-- The part after the start, from IDLE, of a change to a target (R82): on the tuned frequency it goes to WAIT_MAP with its
map route ARMED, and elsewhere it crosses to the target's carrier. -/
def State.changeStarted (s : State) (target : Service) (audio : Option Lang) : State :=
  let c : Change :=
    { service := target.number, frequency := target.frequency, modulation := target.modulation
      mapStream := target.mapStream, audio, phaseStart := s.tmb.localTime, tuningTarget := target.frequency
      readyMark := false, lockMark := false, map := none, parity := none }
  if s.cce.tuned = some target.frequency then
    { s with
      routes := (RouteTable.insertArmed s.routes c.mapStream (.sections [.map, .rating]) .none).getD s.routes
      cce := { s.cce with engine := .waitMap, change := some c } }
  else s.crossed c

/-- The part once the engine has entered IDLE: a TUNE that was pending starts as if it had just been accepted, or is done with
NO_SERVICE where the directory no longer has its service (R93). -/
def State.tuneStarted (s : State) : Option (Nat × Option Lang) → State
  | none => s
  | some (service, audio) => match s.sdr.find service with
    | some target => s.changeStarted target audio
    | none => emit (.changeDone service .noService) s

/-- What the splice to a change whose map is `m` makes of a part in which no TUNE waits (R15, R90, R101): LIVE routes of owner
CHANGE and the host routes under a converted one are freed and ARMED routes become LIVE; the ARMING record becomes the
ACTIVE one with the change's parity live, and both descrambler sources are posted afresh; the context takes the change's service and
map and is handed on; CHANGE_DONE follows each ROUTE_DISPLACED, these in entry order (log entry 14). -/
def State.Spliced (s : State) (c : Change) (m : ProgMap) (reason : DoneReason) (t : State) : Prop :=
  t.routes.length = s.routes.length
  ∧ (∀ (k : Nat) (r : Route), s.routes[k]? = some (some r) →
      (r.state = .live → r.owner = .change → t.routes[k]? = some none)
      ∧ (r ∈ hostsUnder .armed s.routes → t.routes[k]? = some none)
      ∧ (r.owner = .change → r.state = .armed → t.routes[k]? = some (some { r with
          state := .live, binding := if r.binding = Binding.arming then .active else r.binding }))
      ∧ (r.state = .live → r.owner ≠ .change → r ∉ hostsUnder .armed s.routes → t.routes[k]? = some (some r)))
  ∧ (∀ k : Nat, s.routes[k]? = some none → t.routes[k]? = some none)
  ∧ t.dsc.active = s.dsc.arming.map (fun r => { r with live := c.parity.or r.live })
  ∧ (t.dsc.notEntitled = true ↔ ∃ r, s.dsc.arming = some r ∧ r.verdict = .notEntitled)
  ∧ (t.dsc.noKey = true ↔ ∃ r, s.dsc.arming = some r
      ∧ (c.parity = some .even ∧ r.even = none ∨ c.parity = some .odd ∧ r.odd = none))
  ∧ t.dsc = { s.dsc with
      active := t.dsc.active, arming := none, noKey := t.dsc.noKey, notEntitled := t.dsc.notEntitled }
  ∧ t.cce = { s.cce with
      engine := .idle, change := none, lastService := some c.service
      presented := some
        { service := c.service, frequency := s.cce.tuned.getD c.frequency, mapStream := c.mapStream, map := m
          live := liveStreams t.routes, audio := c.audio, since := s.tmb.localTime, forced := reason == .forced } }
  ∧ t.inFlight = s.inFlight
      ++ (if t.dsc.noKey = s.dsc.noKey ∧ t.dsc.notEntitled = s.dsc.notEntitled then []
          else [.dscPosting t.dsc.noKey t.dsc.notEntitled])
      ++ contextHandovers .splice (some c.service) (some c.mapStream)
  ∧ t.rpq = (emit (.changeDone c.service reason)
      (emitAll ((hostsUnder .armed s.routes).map fun h => .routeDisplaced h.port h.stream) s)).rpq
  ∧ t = { s with routes := t.routes, dsc := t.dsc, cce := t.cce, inFlight := t.inFlight, rpq := t.rpq }

/-- The part once the PGT has taken each posting of the descrambler that waits for it, and with `contexts` each change of the context
too, in the order handed on, each by its own command (R163). -/
def State.gateCaughtUp (s : State) (contexts : Bool) : State :=
  let taken (c : Instr) (u : State) : State := match exec c u with
    | .next t => t
    | _ => u
  s.inFlight.foldl (fun u h => match h with
    | .dscPosting .. => taken (.gatePosting .dsc) u
    | .context .pgt .. => if contexts = true then taken .pgtContextChange u else u
    | _ => u) s

/-- What forwarding a cell of a LIVE present route makes of the part (R16, R108, R109): one cell leaves on the route's lane. A clear
cell and a descrambled one leave as themselves through an OPEN gate, with parity CLEAR but for the indication of a VIDEO cell out
of sequence, and as a null cell otherwise. A scrambled cell on an unbound route, or with no ACTIVE record, is a null cell and counts as
unkeyed; one whose slot is VALID is descrambled, makes its parity live and clears NO_KEY at the gate, which it meets after that (log
entry 46); one whose slot is EMPTY is a null cell, counts, and sets NO_KEY. -/
def State.Forwarded (s : State) (r : Route) (broken : Bool) (c : Cell) (t : State) : Prop :=
  let out (isOpen : Bool) (cell : Cell) : Cell := if isOpen = true
    then { cell with parity := if broken = true ∧ r.use = .video then .reserved else .clear } else nullCell
  let onLane (cell : Cell) : Lanes := match r.use with
    | .video => { s.lanes with video := s.lanes.video ++ [cell] }
    | .audio => { s.lanes with audio := s.lanes.audio ++ [cell] }
    | _ => { s.lanes with waiting := s.lanes.waiting ++ [cell] }
  let posts (noKey : Bool) : List Handover :=
    if s.dsc.noKey = noKey then [] else [.dscPosting noKey s.dsc.notEntitled]
  (c.parity = .clear → t = { s with lanes := onLane (out s.pgt.isOpen c) })
  ∧ ∀ k : Slot, (c.parity = .even ∧ k = .even ∨ c.parity = .odd ∧ k = .odd) →
    ((r.binding ≠ .active ∨ s.dsc.active = none) → t = { s with
      lanes := onLane nullCell
      cin := if r.port = .a then { s.cin with unkeyedA := satInc max32 s.cin.unkeyedA } else s.cin })
    ∧ ∀ record, r.binding = .active → s.dsc.active = some record →
      (∀ word, record.slot k = some word →
        let cleared := State.gateCaughtUp { s with
          dsc := { s.dsc with active := some { record with live := some k }, noKey := false }
          inFlight := s.inFlight ++ posts false } false
        let plain := { c with payload := (List.range 156).map (Config.descrambledByte word c.payload) }
        t = { cleared with lanes := onLane (out cleared.pgt.isOpen plain) })
      ∧ (record.slot k = none → t = { s with
        lanes := onLane nullCell
        dsc := { s.dsc with
          active := some { record with noKeyCells := satInc max32 record.noKeyCells }, noKey := true }
        inFlight := s.inFlight ++ posts true })

/-- What the observation of a cell makes of a part in which an ARMED present route has just taken it (R17, R88 to R90, R93). Its
parity becomes the change's and can end WAIT_KEY, where the splice follows at once if no VIDEO route is ARMED. A marker cell of the
VIDEO route taken in WAIT_SPLICE is the splice point: the splice is made whole and a TUNE that waits starts; the PGT takes what was
handed to it (log entry 43), and the route now LIVE forwards the cell, unless the TUNE crosses to another carrier (log entry 39). -/
def State.Observed (s : State) (took : Route) (c : Cell) (t : State) : Prop :=
  let usable (slot : Slot) : Prop := s.cce.engine = .waitKey ∧ ∃ key, s.dsc.arming = some key
    ∧ (key.verdict = .notEntitled ∨ key.verdict = .entitled ∧ (key.slot slot).isSome = true)
  let marker : Prop := took.use = .video ∧ c.start = true ∧ c.marker = true
  ((∀ v, some v ∈ s.routes → ¬ (v.state = .armed ∧ v.use = .video)) →
    (c.parity = .clear ∨ s.cce.change = none → t = s)
    ∧ ∀ ch slot, s.cce.change = some ch → (c.parity = .even ∧ slot = .even ∨ c.parity = .odd ∧ slot = .odd) →
      (¬ usable slot → t = { s with cce := { s.cce with change := some { ch with parity := some slot } } })
      ∧ ∀ m, usable slot → ch.map = some m →
        let last := { ch with parity := some slot, phaseStart := s.tmb.localTime }
        ∃ u, State.Spliced { s with cce := { s.cce with
            engine := .waitSplice, change := some last, pendingTune := none } } last m .ok u
          ∧ t = u.tuneStarted s.cce.pendingTune)
  ∧ ((∃ v, some v ∈ s.routes ∧ v.state = .armed ∧ v.use = .video) → ∃ seen : State,
    (c.parity = .clear → seen = s) ∧ (s.cce.change = none → seen = s)
    ∧ (∀ ch slot, s.cce.change = some ch → (c.parity = .even ∧ slot = .even ∨ c.parity = .odd ∧ slot = .odd) →
      (¬ usable slot → seen = { s with cce := { s.cce with change := some { ch with parity := some slot } } })
      ∧ (usable slot → seen = { s with cce := { s.cce with
          engine := .waitSplice
          change := some { ch with parity := some slot, phaseStart := s.tmb.localTime } } }))
    ∧ (¬ (marker ∧ seen.cce.engine = .waitSplice) → t = seen)
    ∧ ∀ ch m, marker → seen.cce.engine = .waitSplice → seen.cce.change = some ch → ch.map = some m →
      took.owner = .change →
      let now : Route := { took with
        state := .live, binding := if took.binding = Binding.arming then .active else took.binding }
      let crosses : Prop := ∃ service audio target, s.cce.pendingTune = some (service, audio)
        ∧ s.sdr.find service = some target ∧ s.cce.tuned ≠ some target.frequency
      ∃ u, State.Spliced { seen with cce := { seen.cce with pendingTune := none } } ch m .ok u
        ∧ (crosses → t = u.tuneStarted s.cce.pendingTune)
        ∧ (¬ crosses → ((u.tuneStarted s.cce.pendingTune).gateCaughtUp true).Forwarded now false c t))

/-- The part once the guide store has kept EVENT_END and sent its notice (R141 to R143): the entry is due at the end of the
followed service's now-event, or at the start of its next event, or is gone; the now record is set; the notice carries the now-event. -/
def State.eventEndKept (s : State) : State :=
  let own := s.gds.events.filter fun e => some e.service == s.gds.followed && s.tmb.wallValid
  let now := own.find? fun e => decide (e.start ≤ s.tmb.w ∧ s.tmb.w < e.start + e.duration)
  let next := own.find? fun e => decide (s.tmb.w < e.start)
  let rest := s.scp.target.filter fun e => !e.isDevice .eventEnd
  let keyed (due : Nat) (e : GuideEvent) : List Entry := insertEntry
    { kind := .device .eventEnd, due := min due 4294967295, service := s.gds.followed, event := some e.id } rest
  let record := now.map fun e =>
    ({ id := e.id, start := e.start, stop := e.start + e.duration, age := e.age, flags := e.flags } : NowEvent)
  { s with
    gds := { s.gds with now := s.gds.followed.bind fun f => record.map fun e => (f, e) }
    scp := { s.scp with target := match now, next with
      | some e, _ => keyed (e.start + e.duration) e
      | none, some e => keyed e.start e
      | none, none => rest }
    inFlight := s.inFlight ++ [.nowEvent s.gds.followed record] }

/-! ### One event of a GUIDE section (R135, R136, R138) -/

/-- What the events of a section so far have made of the store, in any order, of the counts, and of the flag for other
services. -/
abbrev GuideMade := List GuideEvent × GuideCounts × Bool

/-- Making room in a store of 4,096 events for an event that starts at `e.start` (R138): what has ended is purged while the wall
is valid; a store still full drops an event that starts last, and gives up the stored one that starts last otherwise, of several
the one of the highest service number. The event is in the list answered unless it was dropped. -/
def State.roomMade (s : State) (e : GuideEvent) (made : GuideMade) : GuideMade :=
  let (store, c, others) := made
  let ended (v : GuideEvent) : Bool := s.tmb.wallValid && decide (v.start + v.duration ≤ s.tmb.w)
  let left := store.filter fun v => !ended v
  let c1 := if s.tmb.wallValid = true then { c with purged := min 4294967295 (c.purged + store.countP ended) } else c
  let others1 := others || store.any fun v => ended v && v.service != e.service
  let last (v : GuideEvent) : Bool := left.all fun u =>
    decide (u.start < v.start ∨ u.start = v.start ∧ u.service ≤ v.service)
  if left.length < 4096 then (e :: left, c1, others1)
  else if left.all fun v => decide (v.start < e.start) then
    (left, { c1 with guideFull := min 4294967295 (c1.guideFull + 1) }, others1)
  else (e :: left.filter (fun v => !last v), { c1 with evicted := min 4294967295 (c1.evicted + 1) },
    others1 || left.any fun v => last v && v.service != e.service)

/-- One event of a section whose segment starts at `start` (R135, R136): dropped for want of a length, for a start outside the
span, or for an overlap with one of its own section; otherwise made fit, and it displaces what it overlaps of its service. -/
def State.eventTaken (s : State) (start : Nat) (made : GuideMade) (sent : GuideEvent) : GuideMade :=
  let (store, c, others) := made
  let e := { sent with
    duration := max 60 (min 86400 sent.duration), age := if 8 ≤ sent.age ∧ sent.age ≤ 14 then 7 else sent.age
    price := sent.price.filter (· != 0), title := sent.title.take 40 }
  let overlaps (v : GuideEvent) : Bool := v.service == e.service
    && decide (v.start < e.start + e.duration ∧ e.start < v.start + v.duration)
  let left := store.filter fun v => !overlaps v
  let c1 := { c with displaced := min 4294967295 (c.displaced + store.countP overlaps) }
  if sent.duration = 0 then (store, { c with noLength := min 4294967295 (c.noLength + 1) }, others)
  else if ¬ (start ≤ sent.start ∧ sent.start < start + 10800) then
    (store, { c with outOfSpan := min 4294967295 (c.outOfSpan + 1) }, others)
  else if store.any fun v => overlaps v && v.segment == e.segment then
    (store, { c with overlapping := min 4294967295 (c.overlapping + 1) }, others)
  else if left.length < 4096 then (e :: left, c1, others)
  else s.roomMade e (left, c1, others)

/-! ### What the tables hold (R180, R191) -/

/-- A named value: its place in the order in which its rule lists the values (R191). -/
def named [BEq α] (listed : List α) (v : α) : List Byte := [BitVec.ofNat 8 (listed.idxOf v)]

/-- A set: a bit for each value that its rule lists, the first one bit 0 (R191). -/
def setBits [BEq α] (listed held : List α) : List Byte := [BitVec.ofNat 8 (bitMap (listed.map held.contains))]

/-- A group of fields that may be absent: a presence byte, and zeros in place of the fields (R191). -/
def presence (width : Nat) (fields : Option (List Byte)) : List Byte :=
  (fields.map (1#8 :: ·)).getD (0#8 :: List.replicate width 0#8)

/-- A record that may be marked free or unused (log entry 23). -/
def markFree (fields : Option (List Byte)) : List Byte := (fields.map (1#8 :: ·)).getD [0#8]

/-- A language, or none. -/
def language (l : Option Lang) : List Byte := presence 4 (l.map fun l => [3#8, l.l0, l.l1, l.l2])

/-- A set of advisory flags. -/
def advisory (flags : Advisory) : List Byte := [BitVec.ofNat 8 flags.toNat]

/-- IDENT (R181). -/
def State.identRecords (s : State) : List (List Byte) :=
  [beBytes 4 Config.unitAddress.toNat ++ Config.partRevision ++ named [.power, .pin, .request, .cold] s.rts.cause
    ++ beBytes 2 s.rts.warmResets
    ++ setBits [.input, .time, .channel, .gate, .access, .schedule, .parental, .guide] s.rpq.classes
    ++ encFlag s.rpq.enabled
    ++ beBytes 1 (s.rpq.queue.length + (s.rqh.inProgress.map InProgress.reserved).getD 0)
    ++ beBytes 1 s.rpq.lost ++ beBytes 1 s.rqh.intake.length]

/-- PORTS (R8): A, B and L, each with the fields that R8 lists for it. -/
def State.portRecords (s : State) : List (List Byte) :=
  let sync : List SyncState := [.hunt, .verify, .locked]
  let serial (p : SerialPort) : List Byte := named sync p.sync ++ encFlag p.idle
    ++ [p.received, p.syncErrors].flatMap (beBytes 4) ++ beBytes 2 p.syncLosses
    ++ [p.parityErrors, p.unrouted].flatMap (beBytes 4)
  let l := s.cin.l
  [serial s.cin.a ++ beBytes 4 s.cin.unkeyedA, serial s.cin.b,
    named sync .locked ++ [l.received, l.syncErrors, l.parityErrors, l.unrouted, l.foreign].flatMap (beBytes 4)]

/-- The seven section classes in the order of R9. -/
def sectionClasses : List SectionClass := [.time, .directory, .guide, .entitlement, .map, .key, .rating]

/-- The class set of a SECTIONS route. -/
def Route.classSet (r : Route) : Option (List Byte) :=
  match r.use with
  | .sections classes => some (setBits sectionClasses classes)
  | _ => none

/-- ROUTES (R20): every field of R9. -/
def State.routeRecords (s : State) : List (List Byte) :=
  s.routes.map fun entry => markFree (entry.map fun r =>
    named [.a, .b, .l] r.port ++ beBytes 2 r.stream
      ++ (match r.use with
        | .video => [0#8]
        | .audio => [1#8]
        | .data => [2#8]
        | .sections _ => [3#8]
        | .stamps => [4#8]
        | .control => [5#8]
        | .pass => [6#8])
      ++ presence 1 r.classSet ++ named [.live, .armed] r.state ++ named [.fixed, .change, .host] r.owner
      ++ presence 1 (match r.binding with
        | .active => some [0#8]
        | .arming => some [1#8]
        | .none => none)
      ++ encOptNat 1 (r.expected.map BitVec.toNat) ++ beBytes 2 r.discontinuities ++ beBytes 4 r.cells)

/-- SECTIONS (R33): the pool, then the context of each entry. A section being applied holds its buffer and does not count as
waiting (log entry 10). -/
def State.sectionRecords (s : State) : List (List Byte) :=
  let q := s.queues
  let lists := [q.time, q.directory, q.guide, q.entitlement, q.map, q.key, q.rating]
  let assembling := s.routes.countP fun entry => entry.any fun r => r.ctx.any fun c => match c.asm with
    | .assembling .. => true
    | _ => false
  (beBytes 1 (16 - (assembling + (lists.map List.length).sum)) ++ lists.flatMap (fun l => beBytes 1 (l.length - 1))
      ++ lists.flatMap fun l => encFlag (!l.isEmpty))
    :: s.routes.map fun entry => markFree (entry.bind fun r => r.ctx.map fun c =>
      let n := c.counts
      named [.a, .b, .l] r.port ++ beBytes 2 r.stream ++ named [.live, .armed] r.state ++ r.classSet.getD [0#8]
        ++ (match c.asm with
          | .idle => [0#8, 0#8, 0#8, 0#8]
          | .assembling _ _ bytes => [1#8, 1#8] ++ beBytes 2 bytes.length
          | .skipping => [2#8, 0#8, 0#8, 0#8])
        ++ [n.delivered, n.classSkip, n.lengthSkip, n.addressSkip, n.noBuffer, n.abandoned, n.stray, n.crcFail,
          n.overrun].flatMap (beBytes 4))

/-- TIME (R55), with the local quantities of R54. -/
def State.timeRecords (s : State) : List (List Byte) :=
  let t := s.tmb
  let lw : Int := t.w + 60 * t.offset
  let day := lw / 86400
  [beBytes 4 t.localTime.toNat ++ beBytes 5 t.nt.toNat ++ beBytesInt 2 t.trim
    ++ named [.free, .acquire, .locked, .holdover] t.recovery ++ beBytes 1 t.good ++ beBytes 2 t.steps
    ++ encFlag t.trimLimit ++ encOptNat 4 (t.lastStamp.map BitVec.toNat)
    ++ presence 5 (t.lastError.map (beBytesInt 5)) ++ beBytes 4 t.stamps
    ++ presence 27 (if t.wallValid = true then some (beBytes 4 t.w ++ beBytes 5 t.ns.toNat ++ beBytesInt 2 t.offset
        ++ beBytesInt 5 lw ++ beBytes 2 ((lw % 86400) / 60).toNat ++ beBytesInt 4 day
        ++ beBytes 5 ((day + 1) * 86400 - 60 * t.offset).toNat)
      else none)
    ++ presence 6 (t.pendingChange.map fun (time, offset) => beBytes 4 time ++ beBytesInt 2 offset)
    ++ [t.applied, t.rejected].flatMap (beBytes 4)]

/-- SCHEDULE (R72): the header, then every field of R56 for each entry. -/
def State.scheduleRecords (s : State) : List (List Byte) :=
  let reminder (e : Entry) : Bool := match e.kind with
    | .reminder .. => true
    | .device _ => false
  (encFlag s.scp.hold ++ beBytes 1 s.scp.target.length ++ beBytes 1 (s.scp.target.countP reminder))
    :: s.scp.target.map fun e =>
      let optional := encOptNat 2 e.service ++ encOptNat 2 e.event
      match e.kind with
      | .reminder id period mark => [0#8] ++ beBytes 4 e.due ++ encOptNat 4 (some period) ++ encOptNat 2 (some id)
          ++ optional ++ [1#8] ++ encFlag mark
      | .device k => [BitVec.ofNat 8 (1 + [DeviceKind.eventEnd, .dayRoll, .entExpiry, .overrideEnd, .offsetChange].idxOf k)]
          ++ beBytes 4 e.due ++ encOptNat 4 none ++ encOptNat 2 none ++ optional ++ [0#8, 0#8]

/-- RANGES (R73): the eight ranges, then the window states, OPEN before CLOSED, and the minute of the last evaluation. -/
def State.rangeRecords (s : State) : List (List Byte) :=
  s.scp.ranges.map (fun r =>
      encOptNat 1 r.profile ++ beBytes 2 r.lower ++ beBytes 2 r.upper ++ encFlag r.contains)
    ++ [s.scp.windows.flatMap (fun isOpen => [if isOpen = true then 0#8 else 1#8]) ++ encOptNat 2 s.scp.lastMinute]

/-- DIRECTORY (R77): the header, then every field of R74. -/
def State.directoryRecords (s : State) : List (List Byte) :=
  let d := s.sdr
  (beBytes 2 d.services.length ++ d.versions.flatMap (encOptNat 1)
      ++ [d.applied, d.rejected, d.entriesRejected, d.entriesDropped].flatMap (beBytes 4))
    :: d.services.map fun r =>
      beBytes 2 r.number ++ beBytes 4 r.frequency ++ beBytes 1 r.modulation ++ beBytes 2 r.mapStream
        ++ encList (beBytes 2) r.tiers ++ encFlag r.hidden ++ encText r.name ++ beBytes 1 r.segment

/-- NONE, EVEN or ODD. -/
def parityField (p : Option Slot) : List Byte := named [none, some .even, some .odd] p

/-- KEYS (R113): the two records, each slot EMPTY or VALID and no control word, then the device record. -/
def State.keyRecords (s : State) : List (List Byte) :=
  let record (r : KeyRecord) : List Byte := beBytes 2 r.service ++ beBytes 2 r.stream
    ++ presence 2 (r.criteria.map fun c => match c with
      | .tiers list => [0#8] ++ encList (beBytes 2) list
      | .event id price => [1#8] ++ beBytes 2 id ++ beBytes 2 price)
    ++ named [.unknown, .entitled, .notEntitled] r.verdict ++ encFlag r.even.isSome ++ encFlag r.odd.isSome
    ++ parityField r.live ++ [r.checkFailures, r.liveRefusals, r.noKeyCells].flatMap (beBytes 4)
  [markFree (s.dsc.active.map record), markFree (s.dsc.arming.map record),
    [s.dsc.applied, s.dsc.ignored, s.dsc.faulted].flatMap (beBytes 4) ++ encFlag s.dsc.noKey
      ++ encFlag s.dsc.notEntitled]

/-- CREDIT (R131), the amounts and the next sequence number as R116 holds them. -/
def State.creditRecords (s : State) : List (List Byte) :=
  let e := s.enu
  [beBytes 4 e.granted ++ beBytes 4 e.spent ++ beBytesInt 4 ((e.granted : Int) - e.spent) ++ encOptNat 4 e.nextSeq
    ++ beBytes 1 e.log.length ++ presence 3 (e.group.map fun (number, position) => beBytes 2 number ++ beBytes 1 position)
    ++ beBytes 1 e.table.length ++ beBytes 1 e.grants.length
    ++ encOptNat 4 ((s.scp.target.find? (Entry.isDevice .entExpiry)).map Entry.due)
    ++ [e.applied, e.checkFailed, e.formFailed, e.tiersDropped].flatMap (beBytes 4)]

/-- PROFILES (R167): every field of R148 for the four profiles, then the PLU record. -/
def State.profileRecords (s : State) : List (List Byte) :=
  let p := s.plu
  let rated (source : Byte) (age : Option Nat) (flags : Advisory) (event : Option Nat) : List Byte :=
    [source] ++ encOptNat 1 age ++ advisory flags ++ encOptNat 2 event
  p.profiles.map (fun p =>
      beBytes 1 p.ceiling ++ advisory p.blocked ++ encFlag p.blockUnrated ++ encFlag p.follow
        ++ named [.none, .daily, .once] p.mode ++ beBytes 2 p.budget ++ beBytes 2 p.latch ++ beBytes 2 p.used
        ++ beBytes 1 p.seconds ++ encFlag p.warned ++ encList (beBytes 2) p.locked)
    ++ [beBytes 1 p.active ++ presence 4 (p.dayNumber.map (beBytesInt 4))
      ++ presence 9 (p.override.map fun o =>
        [if o.scope.isSome = true then 0#8 else 1#8] ++ encOptNat 2 o.scope ++ beBytes 5 o.stop)
      ++ (match p.current with
        | .inStream age flags => rated 0#8 (some age) flags none
        | .guide event age flags => rated 1#8 (some age) flags (some event)
        | .unrated => rated 2#8 none 0#4 none
        | .none => rated 3#8 none 0#4 none)
      ++ presence 5 (p.presentedRating.map fun r =>
        beBytes 2 r.service ++ beBytes 1 r.version ++ beBytes 1 r.age ++ advisory r.flags)
      ++ presence 7 (p.preparedRating.map fun r =>
        beBytes 2 r.service ++ beBytes 2 r.mapStream ++ beBytes 1 r.version ++ beBytes 1 r.age ++ advisory r.flags)
      ++ presence 6 (p.guideRating.map fun r =>
        beBytes 2 r.service ++ beBytes 2 r.event ++ beBytes 1 r.age ++ advisory r.flags)
      ++ p.windows.flatMap (fun isOpen => [if isOpen = true then 0#8 else 1#8]) ++ beBytes 2 p.remainder
      ++ encFlag p.accruing ++ [p.applied, p.ignored, p.rejected].flatMap (beBytes 4)]

/-- GATE (R167): the gate record of R163, the context of R78 and the engine's record of R79. -/
def State.gateRecords (s : State) : List (List Byte) :=
  let g := s.pgt
  let x := g.sources
  let c := s.cce
  let components (m : ProgMap) : List Byte := encList (fun k : Component =>
    beBytes 2 k.stream ++ named [.video, .audio, .data] k.kind ++ language k.lang) m.components
  let tuning := c.engine = .tuning
  [[BitVec.ofNat 8 (bitMap [x.noKey, x.notEntitled, x.rating, x.locked, x.hours, x.budget, x.hostMute])]
      ++ [if g.mask = true then 15#8 else 0#8] ++ [if g.presented.isSome = true then 0#8 else 1#8]
      ++ encOptNat 2 g.presented ++ [if g.isOpen = true then 0#8 else 1#8] ++ beBytes 4 g.lastChange.toNat
      ++ beBytes 4 g.emitted,
    presence 32 (c.presented.map fun p =>
      beBytes 2 p.service ++ beBytes 4 p.frequency ++ beBytes 2 p.mapStream ++ beBytes 1 p.map.version
        ++ components p.map ++ encOptNat 2 p.map.keyStream ++ encOptNat 2 p.live.video ++ encOptNat 2 p.live.audio
        ++ encOptNat 2 p.live.data ++ language p.audio ++ beBytes 4 p.since.toNat ++ encFlag p.forced),
    named [.idle, .tuning, .waitMap, .waitKey, .waitSplice] c.engine ++ encFlag c.standby ++ encOptNat 4 c.tuned
      ++ presence 35 (c.change.map fun c =>
        beBytes 2 c.service ++ beBytes 4 c.frequency ++ beBytes 1 c.modulation ++ beBytes 2 c.mapStream
          ++ language c.audio ++ beBytes 4 c.phaseStart.toNat
          ++ encOptNat 4 (if tuning then some c.tuningTarget else none)
          ++ presence 1 (if tuning then some (encFlag c.readyMark) else none)
          ++ presence 1 (if tuning then some (encFlag c.lockMark) else none)
          ++ presence 5 (c.map.map fun m => components m ++ encOptNat 2 m.keyStream ++ beBytes 1 m.version)
          ++ presence 1 (if c.map.isSome = true then some (parityField c.parity) else none))
      ++ presence 7 (c.pendingTune.map fun (service, audio) => beBytes 2 service ++ language audio)
      ++ encOptNat 2 c.lastService ++ [c.forcedSplices, c.pendingReplaced, c.badMaps].flatMap (beBytes 4)]

/-- GUIDE (R147): the header, 256 service records or unused marks, then every field of R133 for each event. The now-event and
the next event are those at the moment of the read (log entry 24). -/
def State.guideRecords (s : State) : List (List Byte) :=
  let g := s.gds
  let own := g.events.filter fun e => some e.service == g.followed && s.tmb.wallValid
  let now := own.find? fun e => decide (e.start ≤ s.tmb.w ∧ s.tmb.w < e.start + e.duration)
  let next := own.find? fun e => decide (s.tmb.w < e.start)
  let c := g.counts
  (beBytes 2 g.events.length ++ beBytes 2 g.services.length ++ encOptNat 2 g.followed
      ++ presence 11 (now.map fun e => beBytes 2 e.id ++ beBytes 4 e.start ++ beBytes 5 (e.start + e.duration))
      ++ presence 6 (next.map fun e => beBytes 2 e.id ++ beBytes 4 e.start)
      ++ encOptNat 4 ((s.scp.target.find? (Entry.isDevice .eventEnd)).map Entry.due)
      ++ [c.applied, c.rejected, c.servicesRefused, c.outOfSpan, c.noLength, c.overlapping, c.displaced, c.guideFull,
        c.evicted, c.purged].flatMap (beBytes 4))
    :: (List.range 256).map (fun k => markFree (g.services[k]?.map fun r =>
      beBytes 2 r.number ++ beBytes 2 (g.events.countP fun e => e.service == r.number)
        ++ r.versions.flatMap (encOptNat 1)))
    ++ g.events.map fun e =>
      beBytes 2 e.service ++ beBytes 1 e.segment ++ beBytes 2 e.id ++ beBytes 4 e.start ++ beBytes 4 e.duration
        ++ beBytes 1 e.age ++ advisory e.flags ++ beBytes 1 e.category ++ encOptNat 2 e.price ++ encText e.title

/-- The records of the table with an id, ids 00H to 0FH in the order of R190; none for an unknown id. -/
def State.records (s : State) (id : Nat) : Option (List (List Byte)) :=
  [s.identRecords, s.portRecords, s.routeRecords, s.sectionRecords, s.timeRecords, s.scheduleRecords, s.rangeRecords,
    s.directoryRecords, s.keyRecords,
    s.enu.table.map fun e => beBytes 2 e.tier ++ beBytes 4 e.expiry,
    s.enu.grants.map fun g => beBytes 2 g.service ++ beBytes 2 g.event ++ beBytes 4 g.expiry,
    s.enu.log.map fun r =>
      beBytes 4 r.seq ++ beBytes 2 r.service ++ beBytes 2 r.event ++ beBytes 2 r.price ++ beBytes 4 r.wall,
    s.creditRecords, s.profileRecords, s.gateRecords, s.guideRecords][id]?

/-! ### The account (R114 to R116) -/

/-- The entitlement table: at most 64 entries with distinct tiers in ascending order (R114). -/
def Enu.tableOk (e : Enu) : Prop :=
  e.table.length ≤ 64 ∧ e.table.Pairwise fun x y => x.tier < y.tier

/-- The grant list: at most 16 grants, no two for the same service and event (R115). -/
def Enu.grantsOk (e : Enu) : Prop :=
  e.grants.length ≤ 16 ∧ e.grants.Pairwise fun x y => ¬ (x.service = y.service ∧ x.event = y.event)

/-- The credit record and the purchase log: spent is the sum of the logged prices, at most 32 records, in ascending
order of sequence number and all below the next one (R116). -/
def Enu.creditOk (e : Enu) : Prop :=
  e.spent = logTotal e.log ∧ e.log.length ≤ 32 ∧ e.log.Pairwise (fun x y => x.seq < y.seq)
    ∧ ∀ r ∈ e.log, ∀ n, e.nextSeq = some n → r.seq < n

/-- The account as the manual says it always stands. -/
def State.AccountOk (s : State) : Prop := s.enu.tableOk ∧ s.enu.grantsOk ∧ s.enu.creditOk

/-! ### The reply queue (R177, R182) -/

/-- At most 32 records are held, a request in progress has its records reserved (10 for GRID_READ), and the window
has at most 10 rows, so that every reply finds its room (R168, R177, R182). -/
def State.ReplyQueueOk (s : State) : Prop :=
  s.held ≤ 32 ∧ s.gwn.rows ≤ 10
    ∧ ∀ p, s.rqh.inProgress = some p → 1 ≤ p.reserved ∧ (p.request = .gridRead → 10 ≤ p.reserved)

/-! ### Keys and the gate (R99, R104, R106, R163) -/

/-- A slot is VALID only in a record with criteria and the verdict ENTITLED. -/
def KeyRecord.Ok (r : KeyRecord) : Prop :=
  r.even.isSome ∨ r.odd.isSome → r.verdict = .entitled ∧ r.criteria.isSome

/-- Both key records hold a word only under an ENTITLED verdict, and NOT_ENTITLED is posted exactly while the ACTIVE
record's verdict is NOT_ENTITLED. -/
def State.KeysOk (s : State) : Prop :=
  (∀ r, s.dsc.active = some r → r.Ok) ∧ (∀ r, s.dsc.arming = some r → r.Ok)
    ∧ s.dsc.notEntitled = s.dsc.active.any fun r => r.verdict == Verdict.notEntitled

/-- The gate is OPEN exactly when the context is PRESENTING and every set source is masked (R163). -/
def State.GateOk (s : State) : Prop := s.pgt.isOpen = gateIsOpen s.pgt.sources s.pgt.mask s.pgt.presented.isSome

/-- A key record with its control words hidden; whether a slot is VALID still shows. -/
def KeyRecord.hideWords (r : KeyRecord) : KeyRecord :=
  { r with even := r.even.map fun _ => 0#128, odd := r.odd.map fun _ => 0#128 }

/-- The part with its control words hidden. -/
def State.hideWords (s : State) : State :=
  { s with dsc := { s.dsc with
      active := s.dsc.active.map KeyRecord.hideWords, arming := s.dsc.arming.map KeyRecord.hideWords } }

/-! ### The guide store (R132, R133) -/

/-- Two events in store order that do not overlap: an earlier service, or the same service and over before the other
starts. -/
def GuideEvent.precedes (x y : GuideEvent) : Prop :=
  x.service < y.service ∨ (x.service = y.service ∧ x.stop ≤ y.start)

/-- At most 256 service records in ascending order and 4,096 event records in store order, of 60 to 86,400 seconds,
no two of one service overlapping. -/
def State.GuideOk (s : State) : Prop :=
  s.gds.services.length ≤ 256 ∧ s.gds.services.Pairwise (fun x y => x.number < y.number)
    ∧ s.gds.events.length ≤ 4096 ∧ s.gds.events.Pairwise GuideEvent.precedes
    ∧ ∀ e ∈ s.gds.events, 60 ≤ e.duration ∧ e.duration ≤ 86400

/-! ### The schedule (R56) -/

/-- At most 35 reminders with distinct ids, at most one entry of each device kind, in ascending order of due time. -/
def State.ScheduleOk (s : State) : Prop :=
  s.scp.target.Pairwise (fun x y => x.due ≤ y.due)
    ∧ (s.scp.target.filterMap Entry.reminderId).Nodup
    ∧ (s.scp.target.filterMap Entry.reminderId).length ≤ 35
    ∧ ∀ k, s.scp.target.countP (Entry.isDevice k) ≤ 1

/-! ### Time (R36, R40, R45, R48) -/

/-- The trim stays within its limits, the good count below 3, the carried fraction below a tick, W at or below its
limit, and the offsets within theirs. -/
def State.ClockOk (s : State) : Prop :=
  -4096 ≤ s.tmb.trim ∧ s.tmb.trim ≤ 4096 ∧ s.tmb.good < 3 ∧ s.tmb.ntFraction < 16777216 ∧ s.tmb.w ≤ 4294967295
    ∧ (-720 ≤ s.tmb.offset ∧ s.tmb.offset ≤ 840)
    ∧ ∀ time offset, s.tmb.pendingChange = some (time, offset) → -720 ≤ offset ∧ offset ≤ 840

/-! ### The profiles (R148, R157) -/

/-- The fields of a profile within their ranges. -/
def Profile.Ok (p : Profile) : Prop :=
  p.ceiling ≤ 7 ∧ p.budget ≤ 1439 ∧ p.latch ≤ 1439 ∧ p.used ≤ 1440 ∧ p.seconds ≤ 59
    ∧ p.locked.length ≤ 16 ∧ p.locked.Nodup ∧ ∀ n ∈ p.locked, 1 ≤ n ∧ n ≤ 9999

/-- Four profiles within their ranges, profile 0 no follower, and an active profile among them. -/
def State.ProfilesOk (s : State) : Prop :=
  s.plu.profiles.length = 4 ∧ s.plu.active ≤ 3 ∧ (∀ p ∈ s.plu.profiles, p.Ok) ∧ (s.plu.profile 0).follow = false

/-! ### The fixed routes (R9, R10) -/

/-- Whether a route is the fixed route of this port, stream and use, as it leaves a reset but for its counts and its
context. -/
def Route.isFixedRoute (port : Port) (stream : Nat) (use : RouteUse) (r : Route) : Prop :=
  r.port = port ∧ r.stream = stream ∧ r.use = use ∧ r.state = .live ∧ r.owner = .fixed ∧ r.binding = .none

/-- Entry `k` holds this fixed route. -/
def State.hasFixed (s : State) (k : Nat) (port : Port) (stream : Nat) (use : RouteUse) : Prop :=
  ∃ r, s.routes[k]? = some (some r) ∧ r.isFixedRoute port stream use

/-- The table has 24 entries, and the first six hold the fixed routes. -/
def State.FixedRoutesOk (s : State) : Prop :=
  s.routes.length = 24
    ∧ s.hasFixed 0 .b 4064 .stamps ∧ s.hasFixed 1 .b 4065 (.sections [.time])
    ∧ s.hasFixed 2 .b 4066 (.sections [.directory]) ∧ s.hasFixed 3 .b 4067 (.sections [.guide])
    ∧ s.hasFixed 4 .b 4068 (.sections [.entitlement]) ∧ s.hasFixed 5 .l 4080 .control

/-! ### The route table and the engine's part of it (R9, R15) -/

/-- A present route feeds the video, the audio or the data lane. -/
def Route.isPresent (r : Route) : Bool := r.use == .video || r.use == .audio || r.use == .data

/-- What an owner's routes may be: FIXED ones are LIVE, not on Port A and not present, HOST ones are LIVE PASS routes on Port A
or B, and CHANGE ones are on Port A, so that an ARMED route is of owner CHANGE. -/
def Route.Ok (r : Route) : Prop :=
  (r.owner = .fixed → r.state = .live ∧ r.port ≠ .a ∧ r.isPresent = false)
    ∧ (r.owner = .host → r.state = .live ∧ r.port ≠ .l ∧ r.use = .pass)
    ∧ (r.owner = .change → r.port = .a)

/-- Two routes that may stand in one table: they differ in port, stream or state, and do not feed one lane in one state. -/
def Route.apart (r q : Route) : Prop :=
  ¬ (r.port = q.port ∧ r.stream = q.stream ∧ r.state = q.state)
    ∧ ¬ (r.isPresent = true ∧ r.use = q.use ∧ r.state = q.state)

/-- The route table of R9: 24 entries with exactly six FIXED routes, at most 10 of owner CHANGE and at most 8 of owner HOST, each
as its owner may hold it and any two apart. -/
def State.RoutesOk (s : State) : Prop :=
  s.routes.length = 24
    ∧ s.routes.countP (fun e => e.any fun r => r.owner == .fixed) = 6
    ∧ s.routes.countP (fun e => e.any fun r => r.owner == .change) ≤ 10
    ∧ s.routes.countP (fun e => e.any fun r => r.owner == .host) ≤ 8
    ∧ (∀ r, some r ∈ s.routes → r.Ok)
    ∧ s.routes.Pairwise fun e f => ∀ r q, e = some r → f = some q → r.apart q

/-- The engine holds a change record outside IDLE and is in IDLE in standby; ARMED routes stand only from WAIT_MAP on, present ones
only after it; and a LIVE present route carries the stream that the context names for its lane (R78, R79, R97). -/
def State.EngineOk (s : State) : Prop :=
  (s.cce.engine ≠ .idle → s.cce.change ≠ none) ∧ (s.cce.standby = true → s.cce.engine = .idle)
    ∧ (∀ r, some r ∈ s.routes → r.state = .armed → s.cce.engine ≠ .idle ∧ s.cce.engine ≠ .tuning
        ∧ (r.isPresent = true → s.cce.engine ≠ .waitMap))
    ∧ ∀ p, s.cce.presented = some p → ∀ r, some r ∈ s.routes → r.state = .live → r.isPresent = true →
        p.live.of r.use = some r.stream

/-! ### The directory (R74) -/

/-- A service record's fields within their ranges: the number, the frequency, a map stream that is not reserved, at most 4
distinct tiers, at most 12 characters of name, and the segment. -/
def Service.Ok (r : Service) : Prop :=
  (1 ≤ r.number ∧ r.number ≤ 9999) ∧ r.frequency ≠ 0 ∧ r.modulation ≤ 3
    ∧ (r.mapStream ≤ 4095 ∧ r.mapStream ∉ reservedStreams)
    ∧ (r.tiers.length ≤ 4 ∧ r.tiers.Nodup ∧ ∀ tier ∈ r.tiers, 1 ≤ tier ∧ tier ≤ 4095)
    ∧ r.name.length ≤ 12 ∧ r.segment ≤ 15

/-- The directory: at most 256 records in ascending order of service number, and 16 segment versions. -/
def State.DirectoryOk (s : State) : Prop :=
  s.sdr.services.length ≤ 256 ∧ s.sdr.services.Pairwise (fun x y => x.number < y.number)
    ∧ (∀ r ∈ s.sdr.services, r.Ok) ∧ s.sdr.versions.length = 16

end Sys2Proof.Machine
end

