-- ==== Sys2Proof/Certificates/Slice0/Obligations.lean ====
section
/-! DEFINITION. The statements about the K7420, for the provers. They name a running part, one command and what stands
before and after it; `State.replied` is the part after a refusal or a plain reply, and `State.others` the hand-overs
left once one is taken. A field that a statement does not name is as it was. -/

open Sys2Proof Sys2Proof.Machine

/-! ### The part as a whole -/

/-- A step takes the command at the front of the queue and carries it out with the queue's rest. -/
def Obligations.StepRunsTheFrontCommand : Prop :=
  ∀ (s : State) (c : Instr) (rest : List Instr), s.pending = c :: rest →
    step s = exec c { s with pending := rest }

/-- The model's choice (log entry 3): with an empty queue the part takes its own next step if one is due, and one LOCAL
millisecond passes otherwise. A millisecond runs LOCAL time by one and NETWORK time by 8,000 × (1 + T / 16,777,216)
ticks with the fraction carried (R35, R36), and adds one to the accrual's remainder while it runs; where that completes a second, its command stands in the queue (R157;
log entry 35). -/
def Obligations.EmptyQueueTakesAnOwnStepOrAMillisecond : Prop :=
  ∀ (s : State), s.pending = [] →
    (∀ c, ownStep s = some c → step s = exec c s)
    ∧ (ownStep s = none → s.running = false → step s = .next s)
    ∧ (ownStep s = none → s.running = true → ∃ t, step s = .next t
        ∧ t.tmb.localTime = s.tmb.localTime + 1#32
        ∧ (∃ ticks : Nat, t.tmb.nt = s.tmb.nt + BitVec.ofNat 40 ticks ∧ t.tmb.ntFraction < 16777216
            ∧ ticks * 16777216 + t.tmb.ntFraction
              = s.tmb.ntFraction + 8000 * (16777216 + s.tmb.trim).toNat)
        ∧ t.plu.remainder = (if s.plu.accruing then s.plu.remainder + 1 else s.plu.remainder)
        ∧ t.pending = (if s.plu.accruing = true ∧ 1000 ≤ s.plu.remainder + 1
            then [if 59 ≤ s.plu.activeProfile.seconds then .budgetAccrualMinute else .budgetAccrualSecond] else [])
        ∧ t = { s with
            tmb := { s.tmb with localTime := t.tmb.localTime, nt := t.tmb.nt, ntFraction := t.tmb.ntFraction }
            plu := { s.plu with remainder := t.plu.remainder }, pending := t.pending })

/-- The state right after a reset meets every invariant of this file. -/
def Obligations.ResetMeetsTheInvariants : Prop :=
  State.reset.AccountOk ∧ State.reset.ReplyQueueOk ∧ State.reset.KeysOk ∧ State.reset.GateOk
    ∧ State.reset.GuideOk ∧ State.reset.ScheduleOk ∧ State.reset.ClockOk ∧ State.reset.ProfilesOk
    ∧ State.reset.FixedRoutesOk ∧ State.reset.RoutesOk ∧ State.reset.EngineOk ∧ State.reset.DirectoryOk

/-- Every step keeps the account: the bounds and orders of its three lists, and spent equal to the sum of the logged
prices (R114 to R116). -/
def Obligations.EveryStepKeepsTheAccount : Prop :=
  ∀ (s t : State), s.AccountOk → step s = .next t → t.AccountOk

/-- Every step keeps the reply queue within its 32 records, every reply finding its reserved room (R177, R182). -/
def Obligations.EveryStepKeepsTheReplyQueueBound : Prop :=
  ∀ (s t : State), s.ReplyQueueOk → step s = .next t → t.ReplyQueueOk

/-- Every step keeps control words under an ENTITLED verdict alone, and NOT_ENTITLED as the ACTIVE record's verdict has
it (R101, R104 to R106). -/
def Obligations.EveryStepKeepsWordsUnderEntitlement : Prop :=
  ∀ (s t : State), s.KeysOk → step s = .next t → t.KeysOk

/-- Every step keeps the gate OPEN exactly when the context is PRESENTING and every set source is masked (R163). -/
def Obligations.EveryStepKeepsTheGateComposed : Prop :=
  ∀ (s t : State), s.GateOk → step s = .next t → t.GateOk

/-- Every step keeps the guide store ordered, without overlaps and within its capacities (R132, R133). -/
def Obligations.EveryStepKeepsTheGuideStoreOrdered : Prop :=
  ∀ (s t : State), s.GuideOk → step s = .next t → t.GuideOk

/-- Every step keeps the schedule table in order of due time and within its quotas (R56). -/
def Obligations.EveryStepKeepsTheScheduleOrdered : Prop :=
  ∀ (s t : State), s.ScheduleOk → step s = .next t → t.ScheduleOk

/-- Every step keeps the trim, W and the offsets within their limits (R36, R42, R45, R48). -/
def Obligations.EveryStepKeepsTheClockWithinLimits : Prop :=
  ∀ (s t : State), s.ClockOk → step s = .next t → t.ClockOk

/-- Every step keeps the four profiles within their ranges, used minutes at most 1,440 among them (R148, R157). -/
def Obligations.EveryStepKeepsTheProfilesWithinRanges : Prop :=
  ∀ (s t : State), s.ProfilesOk → step s = .next t → t.ProfilesOk

/-- Every step keeps the six fixed routes in their entries (R9, R10). -/
def Obligations.EveryStepKeepsTheFixedRoutes : Prop :=
  ∀ (s t : State), s.FixedRoutesOk → step s = .next t → t.FixedRoutesOk

/-- Every step keeps the route table to its rule (R9): six FIXED routes, at most 10 of owner CHANGE and 8 of owner HOST, no two
with the same port, stream and state, and no lane fed by two routes of one state. It does so together with the engine's share:
ARMED routes stand during a change alone, and the LIVE present routes carry the streams that the context names (R78, R79, R97).
Every step keeps the directory in ascending order of service number, with at most 256 records, each within its ranges (R74). -/
def Obligations.EveryStepKeepsTheRouteTableAndTheDirectoryToTheirRules : Prop :=
  (∀ (s t : State), s.RoutesOk → s.EngineOk → step s = .next t → t.RoutesOk ∧ t.EngineOk)
    ∧ ∀ (s t : State), s.DirectoryOk → step s = .next t → t.DirectoryOk

/-! ### What leaves the part -/

/-- READ_TABLE cannot tell two parts apart that differ in their control words alone (R99, R113, R191). -/
def Obligations.NoReadShowsAControlWord : Prop :=
  ∀ (s s' t t' : State), s.hideWords = s'.hideWords →
    exec .readTable s = .next t → exec .readTable s' = .next t' → t.rpq = t'.rpq

/-- The three ways in which an offered event record is treated (R182), and nothing else changes. -/
def Obligations.EventRecordsAreAdmittedWhileFewerThan28AreHeld : Prop :=
  ∀ (s : State) (e : Event),
    ((s.rpq.enabled = false ∨ e.cls ∉ s.rpq.classes) → emit e s = s)
    ∧ (s.rpq.enabled = true → e.cls ∈ s.rpq.classes → s.held < 28 →
        emit e s = { s with rpq := { s.rpq with queue := s.rpq.queue ++ [.event e s.rpq.lost], lost := 0 } })
    ∧ (s.rpq.enabled = true → e.cls ∈ s.rpq.classes → 28 ≤ s.held →
        emit e s = { s with rpq := { s.rpq with
          lost := if s.rpq.lost < 255 then s.rpq.lost + 1 else s.rpq.lost } })

/-- The cell coding loses no bit: 160 bytes read as a cell and laid out again are the same bytes, and a cell laid out and
read again is the same cell (R187). -/
def Obligations.CellBytesRoundTrip : Prop :=
  (∀ c : Cell, Cell.ofBytes c.toBytes = c)
    ∧ ∀ bytes : List Byte, bytes.length = 160 → (Cell.ofBytes bytes).toBytes = bytes

/-- The data lane sends alternately from its two sources while both wait (R19). A status cell carries the start flag
on a record's first payload alone, parity CLEAR, no marker and the running continuity count on stream 4081, and the record
leaves the queue with its last cell (R184). -/
def Obligations.DataLaneAlternatesForwardedAndStatusCells : Prop :=
  ∀ (s : State), s.running = true →
    (∀ c cells, s.lanes.waiting = c :: cells → (s.rpq.queue = [] ∨ s.lanes.lastStatus = true) →
      exec .dataLaneCellSent s = .next { s with lanes := { s.lanes with
        data := s.lanes.data ++ [c], waiting := cells, lastStatus := false } })
    ∧ ∀ r records, s.rpq.queue = r :: records → (s.lanes.waiting = [] ∨ s.lanes.lastStatus = false) →
      s.rqh.stopped = false →
      ∃ t c, exec .dataLaneCellSent s = .next t
        ∧ t.lanes = { s.lanes with data := s.lanes.data ++ [c], lastStatus := true }
        ∧ c.start = decide (s.rpq.sentCells = 0) ∧ c.marker = false ∧ c.parity = .clear
        ∧ c.stream = 4081#12 ∧ c.continuity = s.rpq.continuity ∧ c.sync = syncByte ∧ c.reserved = 0#4
        ∧ c.payload.take ((r.bytes.drop (156 * s.rpq.sentCells)).take 156).length
            = (r.bytes.drop (156 * s.rpq.sentCells)).take 156
        ∧ c.payload.length = 156
        ∧ t.rpq.continuity = s.rpq.continuity + 1#4
        ∧ (r.bytes.length ≤ 156 * (s.rpq.sentCells + 1) → t.rpq.queue = records ∧ t.rpq.sentCells = 0)
        ∧ (156 * (s.rpq.sentCells + 1) < r.bytes.length →
            t.rpq.queue = s.rpq.queue ∧ t.rpq.sentCells = s.rpq.sentCells + 1)
        ∧ t = { s with lanes := t.lanes, draws := t.draws
                       rpq := { s.rpq with queue := t.rpq.queue, sentCells := t.rpq.sentCells
                                           continuity := t.rpq.continuity } }

/-! ### Requests -/

/-- Request intake (R177, R178): the head request is taken when none is in progress and its records have room, leaving
the intake queue with its records reserved; a malformed one is answered BAD_REQUEST with its own code and tag; one
without room waits. By the model's choice a cell of GRID_READ's code waits for 10 records even where it is malformed (log
entry 41). While a request is in progress, once a RESET has stopped the RQH (R185), and on an empty queue, nothing is taken. The
code, the parameter length and the parameters are read at their offsets, and a code that is not listed, or a length that is not the
code's, makes a request malformed (R178, R190). -/
def Obligations.IntakeTakesTheHeadRequestWhenItsRecordsHaveRoom : Prop :=
  (∀ payload : List Byte,
    let n1 (k : Nat) : Nat := fieldAt payload (4 + k) 1
    let n2 (k : Nat) : Nat := fieldAt payload (4 + k) 2
    let n4 (k : Nat) : Nat := fieldAt payload (4 + k) 4
    let lang (k : Nat) : Lang := ⟨byteAt payload (4 + k), byteAt payload (5 + k), byteAt payload (6 + k)⟩
    let rows : List (Nat × Nat × Request) :=
      [(0x01, 0, .reset), (0x02, 5, .readTable (n1 0) (n2 1) (n2 3)), (0x03, 2, .setEventMask (n1 0) (n1 1)),
        (0x10, 3, .addRoute (n1 0) (n2 1)), (0x11, 3, .dropRoute (n1 0) (n2 1)), (0x20, 5, .tune (n2 0) (lang 2)),
        (0x21, 0, .cancel), (0x22, 4, .tunerReady (n4 0)), (0x23, 4, .tunerFail (n4 0)), (0x24, 3, .setAudio (lang 0)),
        (0x25, 0, .standby), (0x26, 1, .wake (n1 0)),
        (0x30, 15, .addReminder (n2 0) (n4 2) (n4 6) (n2 10) (n2 12) (n1 14)), (0x31, 2, .dropReminder (n2 0)),
        (0x32, 0, .holdReminders), (0x33, 0, .releaseReminders), (0x34, 6, .setRange (n1 0) (n1 1) (n2 2) (n2 4)),
        (0x40, 4, .purchase (n2 0) (n2 2)), (0x50, 1, .selectProfile (n1 0)),
        (0x51, 5, .setProfileLimits (n1 0) (n1 1) (n1 2) (n1 3) (n1 4)),
        (0x52, 5, .setBudget (n1 0) (n1 1) (n2 2) (n1 4)), (0x53, 3, .lockService (n1 0) (n2 1)),
        (0x54, 3, .unlockService (n1 0) (n2 1)), (0x55, 3, .override (n2 0) (n1 2)), (0x56, 0, .endOverride),
        (0x57, 1, .hostMute (n1 0)), (0x60, 8, .gridSet (n2 0) (n1 2) (n1 3) (n4 4)), (0x61, 1, .cursorMove (n1 0)),
        (0x62, 0, .gridRead)]
    requestOf payload = (rows.find? fun row => row.1 == fieldAt payload 0 1).bind fun row =>
      if fieldAt payload 2 2 = row.2.1 then some row.2.2 else none)
  ∧ (∀ (s : State), (s.rqh.inProgress ≠ none ∨ s.rqh.stopped = true ∨ s.rqh.intake = []) →
    exec .requestIntake s = .next s)
  ∧ ∀ (s : State) (payload : List Byte) (rest : List (List Byte)),
    s.running = true → s.rqh.intake = payload :: rest → s.rqh.inProgress = none → s.rqh.stopped = false →
    let need := if fieldAt payload 0 1 = 0x62 then 10 else 1
    (s.rpq.queue.length + need ≤ 32 → ∀ r, requestOf payload = some r →
      exec .requestIntake s = .next { s with rqh := { s.rqh with
        intake := rest, inProgress := some { tag := byteAt payload 1, request := r, reserved := need } } })
    ∧ (s.rpq.queue.length + need ≤ 32 → requestOf payload = none →
      exec .requestIntake s = .next { s with
        rqh := { s.rqh with intake := rest }
        rpq := { s.rpq with queue := s.rpq.queue ++
          [.reply (byteAt payload 0) (byteAt payload 1) .badRequest false false []] } })
    ∧ (32 < s.rpq.queue.length + need → exec .requestIntake s = .next s)

/-- RESET is answered OK and the RQH takes no further request: REQUEST_INTAKE leaves a stopped part as it is (R185).
SET_EVENT_MASK replaces the class set and the global enable, leaving queued records and the lost count (R183, R190), when the
request's own command carries it out, by the model's choice (log entry 44). -/
def Obligations.ResetStopsIntakeAndMaskReplacesTheClassSet : Prop :=
  ∀ (s : State) (tag : Byte) (n : Nat),
    (s.asking tag .reset n → exec .reset s = .next (
      let r := s.replied tag .reset .ok []
      { r with rqh := { r.rqh with stopped := true } }))
    ∧ (s.rqh.stopped = true → exec .requestIntake s = .next s)
    ∧ ∀ classes enable, s.asking tag (.setEventMask classes enable) n →
      (1 < enable → exec .setEventMask s = .next (s.replied tag (.setEventMask classes enable) .badParam []))
      ∧ (enable ≤ 1 → ∃ t, exec .setEventMask s = .next t
          ∧ (∀ c : EventClass, c ∈ t.rpq.classes ↔ classes.testBit c.code = true)
          ∧ (t.rpq.enabled = true ↔ enable = 1)
          ∧ t = (let r := s.replied tag (.setEventMask classes enable) .ok []
                 { r with rpq := { r.rpq with classes := t.rpq.classes, enabled := t.rpq.enabled } }))

/-- READ_TABLE answers with the table's records from the first index on, at most the count of them, each with its index
and length, and with the end marker when the end is reached; it is refused for an unknown table and for a count outside
1 to 512, and it changes nothing but TRIM_LIMIT, which a read of index 0 of TIME clears (R55, R180, R191). `State.records` writes
out the fields of each of the sixteen tables (R8, R20, R33, R55, R72, R73, R77, R113, R131, R147, R167, R181), in the model's coding
where the record rule leaves a choice (log entries 9 and 23), as the state stands at the request's own command (log entry 44). -/
def Obligations.ReadTableReturnsTheRecordsOfItsTable : Prop :=
  ∀ (s : State) (tag : Byte) (n table first count : Nat), s.asking tag (.readTable table first count) n →
    ((s.records table = none ∨ count = 0 ∨ 512 < count) →
      exec .readTable s = .next (s.replied tag (.readTable table first count) .badParam []))
    ∧ ∀ records, s.records table = some records → 1 ≤ count → count ≤ 512 →
      ∃ t data, exec .readTable s = .next t
        ∧ data = (List.range (min count (records.length - first))).flatMap (fun k =>
            encIndexed (first + k) (records.getD (first + k) []))
        ∧ t = { s with
            rqh := { s.rqh with inProgress := none }
            rpq := { s.rpq with queue := s.rpq.queue ++
              [.reply 2#8 tag .ok false (decide (records.length ≤ first + count)) data] }
            tmb := { s.tmb with trimLimit := s.tmb.trimLimit && !(table == 4 && first == 0) } }

/-! ### Resets and supply -/

/-- A cold start leaves the part as State.reset describes it, but for the model's own record of the lanes, its draws and
its queue, and for the level of the reset pin (R186). The pin going low stops the part, its release ends the hold, and the loss of
the main supply stops it: a part whose pin is low or whose supply is gone sends no cell, withdraws ready and lowers the
attention line (R185, R186). -/
def Obligations.ColdStartSetsEverythingAndPinAndSupplyHoldThePart : Prop :=
  (∀ (s : State), exec .coldStart s = .next { State.reset with
    lanes := { State.reset.lanes with video := s.lanes.video, audio := s.lanes.audio, data := s.lanes.data }
    power := { powered := true, pinLow := s.power.pinLow }, draws := s.draws, pending := s.pending })
  ∧ ∀ (s : State),
    (∃ t, exec (.warmReset .pin) s = .next t ∧ t.power = { s.power with pinLow := true })
    ∧ exec .resetPinRelease s = .next { s with power := { s.power with pinLow := false } }
    ∧ exec .mainSupplyLoss s = .next { s with power := { s.power with powered := false } }
    ∧ (s.power.powered = false ∨ s.power.pinLow = true →
        exec .dataLaneCellSent s = .next s ∧ s.ready = false ∧ s.attention = false)

/-- A warm reset by a power-up, by the pin of a running part, or by the hand-off of the RESET reply's last cell: the
retained store stands, the cause is recorded, the count of warm resets goes up by one, and every other block takes its
reset values, with BUDGET set in the gate exactly when the retained active profile is spent (R165, R185, R186). After a warm
reset or a cold start the route table holds the six fixed routes and nothing else, all LIVE, of owner FIXED, binding none,
expected continuity UNSET and counts at 0 (R10). -/
def Obligations.WarmResetKeepsTheRetainedStoreAndResetLeavesTheSixFixedRoutes : Prop :=
  (∀ (s : State) (cause : ResetCause),
    (cause = .power ∨ (cause = .pin ∧ s.running = true)
      ∨ (cause = .request ∧ s.running = true ∧ resetReplyNext s = true)) →
    ∃ t, exec (.warmReset cause) s = .next t
      ∧ t.rts = { cause,
                  warmResets := if s.rts.warmResets < 65535 then s.rts.warmResets + 1 else s.rts.warmResets }
      ∧ t.enu = { s.enu with applied := 0, checkFailed := 0, formFailed := 0, tiersDropped := 0 }
      ∧ t.plu = { State.reset.plu with
          profiles := s.plu.profiles, active := s.plu.active, dayNumber := s.plu.dayNumber
          posted := { State.reset.plu.posted with budget := s.plu.activeProfile.isSpent } }
      ∧ t.scp = { State.reset.scp with ranges := s.scp.ranges.map fun r => { r with contains := false } }
      ∧ t.cce = { State.reset.cce with lastService := s.cce.lastService }
      ∧ t.rpq = { State.reset.rpq with classes := s.rpq.classes, enabled := s.rpq.enabled }
      ∧ t.pgt = { State.reset.pgt with sources := { State.reset.pgt.sources with
          budget := s.plu.activeProfile.isSpent } }
      ∧ t.cin = State.reset.cin ∧ t.routes = State.reset.routes ∧ t.queues = State.reset.queues
      ∧ t.tmb = State.reset.tmb ∧ t.sdr = State.reset.sdr ∧ t.dsc = State.reset.dsc ∧ t.gds = State.reset.gds
      ∧ t.gwn = State.reset.gwn ∧ t.rqh = State.reset.rqh ∧ t.inFlight = []
      ∧ t.lanes.waiting = [] ∧ t.lanes.lastStatus = false ∧ t.pending = s.pending)
  ∧ (
    let route (port : Port) (stream : Nat) (use : RouteUse) (ctx : Option Context) : Option Route := some
      { port, stream, use, state := .live, owner := .fixed, binding := .none, expected := none
        discontinuities := 0, cells := 0, ctx }
    let idle : Option Context := some
      { asm := .idle
        counts := { delivered := 0, classSkip := 0, lengthSkip := 0, addressSkip := 0, noBuffer := 0, abandoned := 0
                    stray := 0, crcFail := 0, overrun := 0 } }
    ∀ (s t : State), (exec .coldStart s = .next t ∨ exec (.warmReset .power) s = .next t
        ∨ (s.running = true ∧ exec (.warmReset .pin) s = .next t)
        ∨ (s.running = true ∧ resetReplyNext s = true ∧ exec (.warmReset .request) s = .next t)) →
      t.routes = [route .b 4064 .stamps none, route .b 4065 (.sections [.time]) idle,
          route .b 4066 (.sections [.directory]) idle, route .b 4067 (.sections [.guide]) idle,
          route .b 4068 (.sections [.entitlement]) idle, route .l 4080 .control none]
        ++ List.replicate 18 none)

/-! ### Cells -/

/-- SYNC_SEARCH (R2): the third B8H at 160-byte spacing locks the port, with the idle watch started, INPUT_STATE offered
and, for Port A, the engine told; in HUNT a B8H becomes a candidate and any other byte is passed over; a LOCKED port
does not search. In VERIFY a byte between two places of a sync byte is kept, and a B8H 160 bytes after the candidate makes the
good-sync count 2. Another byte in either place refutes the candidate, and the search goes on over the bytes kept from the one after
the candidate's first: to the first B8H among them that none of them refutes, which is the candidate now, or to HUNT. -/
def Obligations.ThirdSyncByteAtCellSpacingLocksThePort : Prop :=
  ∀ (s : State) (port : Port) (p : SerialPort), s.running = true → s.cin.serial port = some p →
    (p.sync = .verify → p.taken.length = 320 → p.taken[0]? = some syncByte → p.taken[160]? = some syncByte →
      ∃ t, exec (.syncSearch port syncByte) s = .next t
        ∧ t.cin.serial port = some { p with
            sync := .locked, goodSync := 3, failures := 0, idle := false
            idleSince := some s.tmb.localTime, taken := [syncByte] }
        ∧ t.rpq = (emit (.inputState port .locked) s).rpq
        ∧ t.inFlight = s.inFlight ++ (if port = .a then [.portALock] else [])
        ∧ (∀ other, other ≠ port → t.cin.serial other = s.cin.serial other)
        ∧ t.cin.l = s.cin.l ∧ t.cin.unkeyedA = s.cin.unkeyedA
        ∧ t = { s with cin := t.cin, rpq := t.rpq, inFlight := t.inFlight })
    ∧ (p.sync = .hunt → p.taken = [] → ∀ b, exec (.syncSearch port b) s = .next (withSerial port
        (fun p => if b = syncByte then { p with sync := .verify, goodSync := 1, taken := [b] }
                  else { p with goodSync := 0 }) s))
    ∧ (p.sync = .locked → ∀ b, exec (.syncSearch port b) s = .next s)
    ∧ (p.sync = .verify → p.taken[0]? = some syncByte → p.taken.length < 320 →
      (160 < p.taken.length → p.taken[160]? = some syncByte) →
      ∀ b, (p.taken.length = 160 → b = syncByte) → exec (.syncSearch port b) s = .next (withSerial port
        (fun p => { p with taken := p.taken ++ [b], goodSync := if p.taken.length < 160 then 1 else 2 }) s))
    ∧ (p.sync = .verify → (p.taken.length = 160 ∨ p.taken.length = 320) → ∀ b, b ≠ syncByte →
      let bytes := p.taken.drop 1 ++ [b]
      let refuted (k : Nat) : Prop := bytes[k]? ≠ some syncByte
        ∨ ∃ x, bytes[k + 160]? = some x ∧ x ≠ syncByte
      ∃ k ≤ bytes.length, (∀ j < k, refuted j)
        ∧ (k = bytes.length → exec (.syncSearch port b) s = .next (withSerial port
          (fun p => { p with sync := .hunt, goodSync := 0, taken := [] }) s))
        ∧ (k < bytes.length → ¬ refuted k ∧ exec (.syncSearch port b) s = .next (withSerial port
          (fun p => { p with
            sync := .verify, goodSync := if bytes.length - k ≤ 160 then 1 else 2, taken := bytes.drop k }) s)))

/-- CELL_ARRIVAL of a cell whose first byte is not B8H (R3): it is counted and discarded, and the third such cell in a
row sends the port to HUNT, counts a sync loss, resets its routes' continuity and sections, and reports LOST. The
arrival clears a set idle flag first (R6). -/
def Obligations.ThirdFailedCellInARowLosesSync : Prop :=
  ∀ (s : State) (port : Port) (p : SerialPort) (bytes : List Byte), s.running = true →
    s.cin.serial port = some p → p.sync = .locked → (p.taken ++ bytes).length = 160 →
    (p.taken ++ bytes)[0]? ≠ some syncByte →
    (p.failures < 2 → ∃ t, exec (.cellArrival port bytes) s = .next t
      ∧ t.cin.serial port = some { p with
          syncErrors := satInc max32 p.syncErrors, failures := p.failures + 1, idle := false
          idleSince := some s.tmb.localTime, taken := [] }
      ∧ t.rpq = (if p.idle then emit (.inputState port .active) s else s).rpq
      ∧ (∀ other, other ≠ port → t.cin.serial other = s.cin.serial other)
      ∧ t = { s with cin := t.cin, rpq := t.rpq })
    ∧ (2 ≤ p.failures → ∃ t, exec (.cellArrival port bytes) s = .next t
      ∧ t.cin.serial port = some { p with
          sync := .hunt, goodSync := 0, failures := 0, idle := false, idleSince := none, taken := []
          syncErrors := satInc max32 p.syncErrors, syncLosses := satInc max16 p.syncLosses }
      ∧ t.rpq = (emit (.inputState port .lost) (if p.idle then emit (.inputState port .active) s else s)).rpq
      ∧ t.routes = s.routes.map (Option.map fun r =>
          if r.port = port then { r.abandon with expected := none } else r)
      ∧ t.inFlight = s.inFlight ++ (if port = .a then [.portAHunt] else [])
      ∧ (∀ other, other ≠ port → t.cin.serial other = s.cin.serial other)
      ∧ t = { s with cin := t.cin, rpq := t.rpq, routes := t.routes, inFlight := t.inFlight })

/-- A cell of a stream that a PASS route alone takes leaves for the data lane unchanged in every header field and byte,
parity included, and counts on its route and its port (R7, R11, R12, R18); on a stream without a route it is counted as
unrouted (R11). A cell of the reserved parity is discarded with a parity error, and a null cell without a count of its own, both
received cells (R7). A cell that a LIVE and an ARMED route take is handled by the LIVE one first and then by the ARMED one, each as
if the other were on another stream (R11, R31), and is one received cell; a cell whose observation at an ARMED present route can end
WAIT_KEY or be a splice point is the present cells' statement's. -/
def Obligations.PassCellsGoToTheDataLaneUnchanged : Prop :=
  (∀ (s : State) (port : Port) (p : SerialPort) (c : Cell), s.running = true →
    s.cin.serial port = some p → p.sync = .locked → p.taken = [] → p.idle = false →
    c.payload.length = 156 → c.sync = syncByte → c.parity ≠ .reserved → c.stream ≠ 4095#12 →
    (∀ r ∈ s.routes.filterMap id, ¬ (r.port = port ∧ r.stream = c.stream.toNat ∧ r.state = .armed)) →
    (∀ k r, RouteTable.find s.routes (Route.isAt port c.stream.toNat .live) = some k → s.routes[k]? = some (some r) →
      r.use = .pass →
      ∃ t, exec (.cellArrival port c.toBytes) s = .next t
        ∧ t.lanes = { s.lanes with waiting := s.lanes.waiting ++ [c] }
        ∧ t.routes = s.routes.set k (some { r with
            cells := satInc max32 r.cells
            discontinuities := if r.expected = none ∨ r.expected = some c.continuity then r.discontinuities
              else satInc max16 r.discontinuities
            expected := some (c.continuity + 1#4) })
        ∧ t.cin.serial port = some { p with
            received := satInc max32 p.received, failures := 0, idleSince := some s.tmb.localTime }
        ∧ (∀ other, other ≠ port → t.cin.serial other = s.cin.serial other)
        ∧ t = { s with lanes := t.lanes, routes := t.routes, cin := t.cin })
    ∧ ((∀ r ∈ s.routes.filterMap id, ¬ (r.port = port ∧ r.stream = c.stream.toNat)) →
      ∃ t, exec (.cellArrival port c.toBytes) s = .next t
        ∧ t.cin.serial port = some { p with
            received := satInc max32 p.received, unrouted := satInc max32 p.unrouted, failures := 0
            idleSince := some s.tmb.localTime }
        ∧ (∀ other, other ≠ port → t.cin.serial other = s.cin.serial other)
        ∧ t = { s with cin := t.cin }))
  ∧ ∀ (s : State) (port : Port) (p : SerialPort) (c : Cell), s.running = true →
    s.cin.serial port = some p → p.sync = .locked → p.taken = [] → p.idle = false →
    c.payload.length = 156 → c.sync = syncByte →
    let arrived (parityErrors : Nat) : State := withSerial port (fun p => { p with
      received := satInc max32 p.received, failures := 0, idleSince := some s.tmb.localTime, parityErrors }) s
    (c.parity = .reserved → exec (.cellArrival port c.toBytes) s = .next (arrived (satInc max32 p.parityErrors)))
    ∧ (c.parity ≠ .reserved → c.stream = 4095#12 →
      exec (.cellArrival port c.toBytes) s = .next (arrived p.parityErrors))
    ∧ ∀ k k' r r', c.parity ≠ .reserved → c.stream ≠ 4095#12 →
      RouteTable.find s.routes (Route.isAt port c.stream.toNat .live) = some k → s.routes[k]? = some (some r) →
      RouteTable.find s.routes (Route.isAt port c.stream.toNat .armed) = some k' → s.routes[k']? = some (some r') →
      (∀ j q, s.routes[j]? = some (some q) → q.port = port → q.stream = c.stream.toNat → j = k ∨ j = k') →
      ((∃ classes, r'.use = .sections classes)
        ∨ (c.parity = .clear ∨ s.cce.engine ≠ .waitKey) ∧ (c.start = false ∨ c.marker = false)) →
      let away (r : Route) : Option Route := some { r with stream := 4096 }
      ∃ u v x, exec (.cellArrival port c.toBytes) { s with routes := s.routes.set k' (away r') } = .next u
        ∧ u.routes[k]? = some (some x)
        ∧ exec (.cellArrival port c.toBytes) (withSerial port (fun q => { q with received := p.received })
            { u with routes := (u.routes.set k' (some r')).set k (away x) }) = .next v
        ∧ exec (.cellArrival port c.toBytes) s = .next { v with routes := v.routes.set k (some x) }

/-- A clear cell that a SECTIONS route alone takes goes to the route's assembly context (R18, R21 to R29, R32); a break of
continuity abandons the section in assembly first (R12, R26). A start cell abandons it too and is checked for class, length,
address and buffer, in this order, with one count each; one that passes takes a buffer and the section's first bytes. A
continuation cell adds its bytes in ASSEMBLING, is passed over in SKIPPING and counts as STRAY in IDLE. A complete section is dropped
at a CRC failure or where its queue holds its limit while its consumer is applying another, and is delivered otherwise. A
scrambled cell counts as a parity error and abandons the section (R18). -/
def Obligations.SectionCellsAreAssembledAndDelivered : Prop :=
  ∀ (s : State) (port : Port) (p : SerialPort) (c : Cell) (k : Nat) (r : Route) (classes : List SectionClass)
    (ctx : Context), s.running = true →
    s.cin.serial port = some p → p.sync = .locked → p.taken = [] → p.idle = false →
    c.payload.length = 156 → c.sync = syncByte → c.parity ≠ .reserved → c.stream ≠ 4095#12 →
    (RouteTable.find s.routes (Route.isAt port c.stream.toNat .live) = some k
        ∧ RouteTable.find s.routes (Route.isAt port c.stream.toNat .armed) = none
      ∨ RouteTable.find s.routes (Route.isAt port c.stream.toNat .live) = none
        ∧ RouteTable.find s.routes (Route.isAt port c.stream.toNat .armed) = some k) →
    s.routes[k]? = some (some r) → r.use = .sections classes → r.ctx = some ctx →
    let broken : Prop := r.expected ≠ none ∧ r.expected ≠ some c.continuity
    let abandoned (x : Context) : Context := match x.asm with
      | .assembling .. =>
          { asm := .skipping, counts := { x.counts with abandoned := satInc max32 x.counts.abandoned } }
      | _ => x
    let before := if broken then abandoned ctx else ctx
    let opened := abandoned before
    let n := opened.counts
    let total := if fieldAt c.payload 1 2 / 16 = 0 then 4096 else fieldAt c.payload 1 2 / 16
    let body := (c.payload.drop 8).take (total - 12)
    let addressed : Prop :=
      byteAt body 0 = 1#8 ∧ 5 ≤ body.length ∧ fieldAt body 1 4 = Config.unitAddress.toNat
      ∨ byteAt body 0 = 2#8 ∧ 35 ≤ body.length ∧ (∃ number position, s.enu.group = some (number, position)
          ∧ fieldAt body 1 2 = number ∧ (byteAt body (3 + position / 8)).getLsbD (7 - position % 8) = true)
      ∨ byteAt body 0 = 3#8 ∧ 1 ≤ body.length
    let others := buffersInUse s.routes s.queues - (if ctx.holdsBuffer = true then 1 else 0)
    let goesOn (cls : SectionClass) (length : Nat) (bytes : List Byte) (n : SectionCounts) (x : Context) (q : Queues) : Prop :=
      (bytes.length ≠ length → x = { asm := .assembling cls length bytes, counts := n } ∧ q = s.queues)
      ∧ (bytes.length = length →
        (crcAgrees bytes = false →
          x = { asm := .idle, counts := { n with crcFail := satInc max32 n.crcFail } } ∧ q = s.queues)
        ∧ (crcAgrees bytes = true → cls.limit < (s.queues.of cls).length →
          x = { asm := .idle, counts := { n with overrun := satInc max32 n.overrun } } ∧ q = s.queues)
        ∧ (crcAgrees bytes = true → (s.queues.of cls).length ≤ cls.limit →
          x = { asm := .idle, counts := { n with delivered := satInc max32 n.delivered } }
          ∧ q = s.queues.with cls (s.queues.of cls ++ [Section.ofBytes port r.stream cls bytes])))
    let skipped (n : SectionCounts) (x : Context) (q : Queues) : Prop := x = { asm := .skipping, counts := n } ∧ q = s.queues
    ∃ t x, exec (.cellArrival port c.toBytes) s = .next t
      ∧ (c.parity ≠ .clear → x = abandoned ctx ∧ t.queues = s.queues)
      ∧ (c.parity = .clear → c.start = true →
        ((∀ cls ∈ classes, SectionClass.ofCode (byteAt c.payload 0).toNat ≠ some cls) →
          skipped { n with classSkip := satInc max32 n.classSkip } x t.queues)
        ∧ ∀ cls ∈ classes, SectionClass.ofCode (byteAt c.payload 0).toNat = some cls →
          (total < 12 → skipped { n with lengthSkip := satInc max32 n.lengthSkip } x t.queues)
          ∧ (12 ≤ total → cls = .entitlement → ¬ addressed →
            skipped { n with addressSkip := satInc max32 n.addressSkip } x t.queues)
          ∧ (12 ≤ total → (cls = .entitlement → addressed) → 16 ≤ others →
            skipped { n with noBuffer := satInc max32 n.noBuffer } x t.queues)
          ∧ (12 ≤ total → (cls = .entitlement → addressed) → others < 16 →
            goesOn cls total (c.payload.take total) n x t.queues))
      ∧ (c.parity = .clear → c.start = false →
        (before.asm = .idle → t.queues = s.queues
          ∧ x = { before with counts := { before.counts with stray := satInc max32 before.counts.stray } })
        ∧ (before.asm = .skipping → x = before ∧ t.queues = s.queues)
        ∧ ∀ cls length bytes, before.asm = .assembling cls length bytes →
          goesOn cls length (bytes ++ c.payload.take (length - bytes.length)) before.counts x t.queues)
      ∧ t.routes = s.routes.set k (some { r with
          cells := satInc max32 r.cells
          discontinuities := if r.expected = none ∨ r.expected = some c.continuity then r.discontinuities
            else satInc max16 r.discontinuities
          expected := some (c.continuity + 1#4), ctx := some x })
      ∧ t.cin.serial port = some { p with
          received := satInc max32 p.received, failures := 0, idleSince := some s.tmb.localTime
          parityErrors := if c.parity = .clear then p.parityErrors else satInc max32 p.parityErrors }
      ∧ (∀ other, other ≠ port → t.cin.serial other = s.cin.serial other)
      ∧ t = { s with routes := t.routes, queues := t.queues, cin := t.cin }

/-- PORT_L_CELL (R1, R4, R18): a whole request cell, begun by the strobe on a ready port, joins the tail of the intake
queue through its CONTROL route; a short cell that the strobe ends is one sync error. While ready is withdrawn no byte
is taken. A scrambled request cell is taken by its route and discarded with a parity error (R18). A cell whose first byte is not B8H is
discarded as a sync error (R4), and of the others a cell of the reserved parity with a parity error, a null cell without a count of
its own, and a cell of another stream as a foreign one, all three received cells (R7). -/
def Obligations.RequestCellsJoinTheIntakeQueue : Prop :=
  (∀ (s : State) (bytes : List Byte), s.ready = true → bytes.length = 160 →
    let l := s.cin.l
    let strobed : StrobedPort := { l with
      framing := none, syncErrors := if l.framing = none then l.syncErrors else satInc max32 l.syncErrors }
    let left (l : StrobedPort) : Prop := exec (.portLCell true bytes) s = .next { s with cin := { s.cin with l } }
    let c := Cell.ofBytes bytes
    (bytes[0]? ≠ some syncByte → left { strobed with syncErrors := satInc max32 strobed.syncErrors })
    ∧ (bytes[0]? = some syncByte → c.parity = .reserved → left { strobed with
        received := satInc max32 l.received, parityErrors := satInc max32 l.parityErrors })
    ∧ (bytes[0]? = some syncByte → c.parity ≠ .reserved → c.stream = 4095#12 →
        left { strobed with received := satInc max32 l.received })
    ∧ (bytes[0]? = some syncByte → c.parity ≠ .reserved → c.stream ≠ 4095#12 → c.stream ≠ 4080#12 →
        left { strobed with received := satInc max32 l.received, foreign := satInc max32 l.foreign }))
  ∧ ∀ (s : State) (c : Cell) (k : Nat) (r : Route), c.payload.length = 156 → c.sync = syncByte →
    c.parity ≠ .reserved → c.stream = 4080#12 →
    RouteTable.find s.routes (Route.isAt .l 4080 .live) = some k → s.routes[k]? = some (some r) →
    r.use = .control → RouteTable.find s.routes (Route.isAt .l 4080 .armed) = none →
    (s.ready = true → ∃ t, exec (.portLCell true c.toBytes) s = .next t
      ∧ t.rqh = (if c.parity = .clear then { s.rqh with intake := s.rqh.intake ++ [c.payload] } else s.rqh)
      ∧ t.cin = { s.cin with l := { s.cin.l with
          received := satInc max32 s.cin.l.received, framing := none
          parityErrors := if c.parity = .clear then s.cin.l.parityErrors
            else satInc max32 s.cin.l.parityErrors
          syncErrors := if s.cin.l.framing = none then s.cin.l.syncErrors
            else satInc max32 s.cin.l.syncErrors } }
      ∧ t.routes = s.routes.set k (some (r.take c))
      ∧ t = { s with rqh := t.rqh, cin := t.cin, routes := t.routes })
    ∧ (s.ready = false → ∀ strobe bytes, exec (.portLCell strobe bytes) s = .next s)

/-- Behind a BLOCKED gate every cell of a LIVE VIDEO, AUDIO or DATA route that is not descrambled leaves as exactly one null cell on
the route's lane; behind an OPEN gate a clear cell leaves as itself with parity CLEAR, but for the discontinuity indication of a
VIDEO cell out of sequence (R16). A descrambled cell clears NO_KEY at the gate and meets the gate after that: where NO_KEY alone
kept the gate BLOCKED, it leaves descrambled, and the GATE_CHANGE is reported first (R108); that postings of the descrambler
which waited are taken by the PGT ahead of this one, in the same command, is the model's reading (log entry 46). An arriving cell that a LIVE present route alone takes
is forwarded so, a scrambled one after its descrambling (R11, R16, R108, R109); one on a route bound to no claimed record counts as
unkeyed (log entry 32). One that an ARMED present route alone takes is observed: its parity becomes the change's and can end WAIT_KEY, where the splice follows at
once if no VIDEO route is ARMED, and a marker cell of the VIDEO route taken in WAIT_SPLICE is the splice point, then forwarded by
the route now LIVE (R17, R88 to R90; the splice as in log entry 14). That it then leaves without the discontinuity indication (log
entry 31), and that the PGT takes the descrambler's posting and the new context ahead of it (log entry 43), are the model's
readings. A TUNE pending at the splice starts with it (R93), and by the model's choice (log entry 39) the marker cell goes nowhere
where that crosses to another carrier, a restart of Port A that drops its reports in flight (log entry 13). A cell that a LIVE route
and an ARMED present one both take is handled by the LIVE one first, as if it were alone, and then observed (R11, R17). -/
def Obligations.EveryPresentCellLeavesOneCellThroughTheGateOrIsObserved : Prop :=
  (∀ (s : State) (r : Route) (broken : Bool) (c : Cell), (r.use = .video ∨ r.use = .audio ∨ r.use = .data) →
    (s.pgt.isOpen = false →
      (∀ record k word, r.binding = .active → s.dsc.active = some record →
        (c.parity = .even ∧ k = .even ∨ c.parity = .odd ∧ k = .odd) → record.slot k ≠ some word) →
      (forward r broken c s).lanes = (sendPresent r.use nullCell s).lanes)
    ∧ (∀ record k word, r.binding = .active → s.dsc.active = some record →
      (c.parity = .even ∧ k = .even ∨ c.parity = .odd ∧ k = .odd) → record.slot k = some word →
      s.dsc.noKey = true → (∀ h ∈ s.inFlight, h.channel ≠ .dscToPgt) →
      let t := forward r broken c s
      let opens : Prop := s.pgt.presented ≠ none ∧ s.dsc.notEntitled = false ∧ s.pgt.sources.hostMute = false
        ∧ (s.pgt.mask = true ∨ s.pgt.sources.rating = false ∧ s.pgt.sources.locked = false
          ∧ s.pgt.sources.hours = false ∧ s.pgt.sources.budget = false)
      (t.pgt.isOpen = true ↔ opens)
      ∧ t.pgt.sources = { s.pgt.sources with noKey := false, notEntitled := s.dsc.notEntitled }
      ∧ (opens → t.lanes = (sendPresent r.use { c with
          payload := (List.range 156).map (Config.descrambledByte word c.payload)
          parity := if broken = true ∧ r.use = .video then .reserved else .clear } s).lanes)
      ∧ (¬ opens → t.lanes = (sendPresent r.use nullCell s).lanes)
      ∧ (s.pgt.sources.noKey = true → t.rpq = (emit (.gateChange s.pgt.sources t.pgt.sources s.pgt.isOpen t.pgt.isOpen
          s.pgt.mask s.pgt.presented) s).rpq))
    ∧ (s.pgt.isOpen = true → c.parity = .clear →
      forward r broken c s = sendPresent r.use
        { c with parity := if broken = true ∧ r.use = .video then .reserved else .clear } s)
    ∧ (∃ sent, (forward r broken c s).lanes = (sendPresent r.use sent s).lanes))
  ∧ ∀ (s : State) (port : Port) (p : SerialPort) (c : Cell) (k : Nat) (r : Route), s.running = true →
    s.cin.serial port = some p → p.sync = .locked → p.taken = [] → p.idle = false →
    c.payload.length = 156 → c.sync = syncByte → c.parity ≠ .reserved → c.stream ≠ 4095#12 →
    s.routes[k]? = some (some r) → (r.use = .video ∨ r.use = .audio ∨ r.use = .data) →
    let took : Route := { r with
      cells := satInc max32 r.cells
      discontinuities := if r.expected = none ∨ r.expected = some c.continuity then r.discontinuities
        else satInc max16 r.discontinuities
      expected := some (c.continuity + 1#4) }
    let taken : State := withSerial port (fun p => { p with
        received := satInc max32 p.received, failures := 0, idleSince := some s.tmb.localTime })
      { s with routes := s.routes.set k (some took) }
    (RouteTable.find s.routes (Route.isAt port c.stream.toNat .live) = some k →
      RouteTable.find s.routes (Route.isAt port c.stream.toNat .armed) = none →
      ∃ t, exec (.cellArrival port c.toBytes) s = .next t
        ∧ taken.Forwarded took (decide (r.expected ≠ none ∧ r.expected ≠ some c.continuity)) c t)
    ∧ (RouteTable.find s.routes (Route.isAt port c.stream.toNat .live) = none →
      RouteTable.find s.routes (Route.isAt port c.stream.toNat .armed) = some k →
      ∃ t, exec (.cellArrival port c.toBytes) s = .next t ∧ taken.Observed took c t)
    ∧ ∀ live, RouteTable.find s.routes (Route.isAt port c.stream.toNat .live) = some live →
      RouteTable.find s.routes (Route.isAt port c.stream.toNat .armed) = some k →
      (∀ j q, s.routes[j]? = some (some q) → q.port = port → q.stream = c.stream.toNat → j = live ∨ j = k) →
      ∃ u t, exec (.cellArrival port c.toBytes) { s with routes := s.routes.set k (some { r with stream := 4096 }) }
          = .next u
        ∧ exec (.cellArrival port c.toBytes) s = .next t
        ∧ State.Observed { u with routes := u.routes.set k (some took) } took c t

/-- The watches on LOCAL time: 200 ms without a cell arrival on a LOCKED port set the idle flag, report IDLE and stop the
watch (R6); 2,000 ms without a stamp in ACQUIRE or LOCKED enter HOLDOVER and report CLOCK_STATE without a phase error
(R43, R44). -/
def Obligations.LocalWatchesReportIdleAndHoldover : Prop :=
  (∀ (s : State) (port : Port) (p : SerialPort) (since : LocalTime), s.running = true →
    s.cin.serial port = some p → p.sync = .locked → p.idleSince = some since →
    200 ≤ (s.tmb.localTime - since).toNat →
    exec (.idleWatchExpiry port) s = .next (emit (.inputState port .idle)
      (withSerial port (fun p => { p with idle := true, idleSince := none }) s)))
  ∧ ∀ (s : State) (since : LocalTime), s.running = true →
    (s.tmb.recovery = .acquire ∨ s.tmb.recovery = .locked) → s.tmb.lastStamp = some since →
    2000 ≤ (s.tmb.localTime - since).toNat →
    exec .holdoverWatchExpiry s = .next (emit (.clockState .holdover s.tmb.steps s.tmb.trim none)
      { s with tmb := { s.tmb with recovery := .holdover } })

/-! ### Time -/

/-- SECOND_ADVANCE (R46, R47): with K the whole seconds by which NT lies past N_s, K of 1 or more advances W by K, held
at its last value, and hands the SCP the new W; a lag of more than 300 seconds rewinds W, reports WALL_REWOUND and hands
the rewind to the SCP and the GDS; anything between leaves the wall as it is, as does an invalid wall. -/
def Obligations.SecondAdvanceMovesTheWallByWholeSeconds : Prop :=
  ∀ (s : State), s.running = true →
    let d := (s.tmb.nt - s.tmb.ns).toInt
    (s.tmb.wallValid = true → 8000000 ≤ d →
      exec .secondAdvance s = .next (
        let w := min (s.tmb.w + (d / 8000000).toNat) 4294967295
        { s with
          tmb := { s.tmb with w, ns := s.tmb.ns + BitVec.ofInt 40 (d / 8000000 * 8000000) }
          inFlight := s.inFlight ++ [.advance w] }))
    ∧ (s.tmb.wallValid = true → d < -2400000000 → 0 ≤ (s.tmb.w : Int) + d / 8000000 →
      exec .secondAdvance s = .next (
        let w := ((s.tmb.w : Int) + d / 8000000).toNat
        emit (.wallRewound s.tmb.w w)
          { s with
            tmb := { s.tmb with w, ns := s.tmb.ns + BitVec.ofInt 40 (d / 8000000 * 8000000) }
            inFlight := s.inFlight ++ [.rewind .scp, .rewind .gds] }))
    ∧ (s.tmb.wallValid = true → d < -2400000000 → (s.tmb.w : Int) + d / 8000000 < 0 →
      exec .secondAdvance s = .next (emit (.wallRewound s.tmb.w 0)
        { s with
          tmb := { s.tmb with w := 0, ns := s.tmb.nt }
          inFlight := s.inFlight ++ [.rewind .scp, .rewind .gds] }))
    ∧ ((s.tmb.wallValid = false ∨ (-2400000000 ≤ d ∧ d < 8000000)) → exec .secondAdvance s = .next s)

/-- What a stamp does, its error read as signed (R38). In LOCKED (R41, R42): within 12,000 ticks NT takes a quarter of the error,
rounded to nearest with halves away from zero, and T twice the error, clamped at ±4,096 with TRIM_LIMIT set by the clamp; beyond,
NT is set to the stamp, the state becomes ACQUIRE and the steps go up by one. In FREE, and under the discontinuity flag, NT is
loaded (R39). In ACQUIRE and HOLDOVER (R40) the third good stamp in a row, each within 400 ticks, locks, and any other within
12,000 leaves ACQUIRE. A stamp cell that a STAMPS route alone takes is handled so, CLOCK_STATE is reported where it is
called for, and the second-advance check follows (R18, R38, R44). -/
def Obligations.StampsLoadCorrectOrStepNetworkTime : Prop :=
  (∀ (t : Tmb) (stamp : NetTime) (flag : Bool),
    let e := (stamp - t.nt).toInt
    let seen := { t with lastError := some e, lastStamp := some t.localTime, stamps := satInc max32 t.stamps }
    let stepped : Tmb := { seen with
      nt := stamp, recovery := .acquire, good := 0, steps := if t.steps < 65535 then t.steps + 1 else t.steps }
    let corrected (q : Int) : Tmb := { seen with
      nt := t.nt + BitVec.ofInt 40 q
      trim := max (-4096) (min 4096 (t.trim + 2 * e))
      trimLimit := t.trimLimit || decide (t.trim + 2 * e < -4096) || decide (4096 < t.trim + 2 * e) }
    (t.recovery = .free → t.stamp stamp flag = ({ seen with nt := stamp, recovery := .acquire, good := 0 }, true))
    ∧ (t.recovery ≠ .free → (flag = true ∨ 12000 < e.natAbs) → t.stamp stamp flag = (stepped, true))
    ∧ (t.recovery ≠ .free → flag = false → e.natAbs ≤ 12000 →
      ∃ q : Int, (4 * q - e).natAbs ≤ 2 ∧ ((4 * q - e).natAbs = 2 → e.natAbs < (4 * q).natAbs)
        ∧ (t.recovery = .locked → t.stamp stamp flag = (corrected q, false))
        ∧ (t.recovery ≠ .locked → e.natAbs ≤ 400 → 2 ≤ t.good →
            t.stamp stamp flag = ({ corrected q with recovery := .locked, good := 0 }, true))
        ∧ (t.recovery ≠ .locked → e.natAbs ≤ 400 → t.good < 2 → t.stamp stamp flag
            = ({ corrected q with recovery := .acquire, good := t.good + 1 }, decide (t.recovery = .holdover)))
        ∧ (t.recovery ≠ .locked → 400 < e.natAbs → t.stamp stamp flag
            = ({ corrected q with recovery := .acquire, good := 0 }, decide (t.recovery = .holdover)))))
  ∧ ∀ (s : State) (port : Port) (p : SerialPort) (c : Cell) (k : Nat) (r : Route), s.running = true →
    s.cin.serial port = some p → p.sync = .locked → p.taken = [] → p.idle = false →
    c.payload.length = 156 → c.sync = syncByte → c.parity = .clear → c.stream ≠ 4095#12 →
    RouteTable.find s.routes (Route.isAt port c.stream.toNat .live) = some k →
    RouteTable.find s.routes (Route.isAt port c.stream.toNat .armed) = none →
    s.routes[k]? = some (some r) → r.use = .stamps →
    let out := s.tmb.stamp (BitVec.ofNat 40 (fieldAt c.payload 0 5)) ((byteAt c.payload 5).getLsbD 7)
    let handled : State := withSerial port (fun p => { p with
        received := satInc max32 p.received, failures := 0, idleSince := some s.tmb.localTime })
      { s with
        tmb := out.1
        routes := s.routes.set k (some { r with
          cells := satInc max32 r.cells
          discontinuities := if r.expected = none ∨ r.expected = some c.continuity then r.discontinuities
            else satInc max16 r.discontinuities
          expected := some (c.continuity + 1#4) }) }
    let reported := if out.2 = true then
        emit (.clockState out.1.recovery out.1.steps out.1.trim out.1.lastError) handled else handled
    ∃ t, exec .secondAdvance reported = .next t ∧ exec (.cellArrival port c.toBytes) s = .next t

/-- TIME_SECTION (R48 to R53). An accepted section while WALL_VALID is clear sets the wall to the anchor's second plus the seconds
that NT lies past the anchor, and hands WALL_SET to the six waiting blocks, with WALL_SET reported last. On a valid wall it realigns
N_s, and the second-advance check settles the outcome: an anchor's second ahead of W is an advance to it, one up to 300 seconds
behind is held, and one further behind is a rewind to it; the table holds for anchors within 68,000 seconds of W (log entry 40). The
offset part and the next-change part follow: a differing offset replaces the current one and is handed on; a next change after W
becomes the pending one with its OFFSET_CHANGE entry, one at or before W applies at once, and without one a pending change and
its entry go. A rejected section changes nothing but its count. The fields are read at their offsets (R189), and a section is accepted
where its body has all 18 bytes (log entry 21), the recovery state is not FREE, both offsets lie from −720 to +840, and the anchor's
second brought to the present NT lies in the range of W (R48). -/
def Obligations.TimeSectionsSetOrRealignTheWallAndKeepTheOffset : Prop :=
  let offsetPart (offset : Int) (u : State) : State := if offset = u.tmb.offset then u
    else { u with tmb := { u.tmb with offset }, inFlight := u.inFlight ++ [.offsetChange .scp, .offsetChange .plu] }
  let dropped (u : State) : State := { u with
    tmb := { u.tmb with pendingChange := none }
    scp := { u.scp with target := u.scp.target.filter fun e => !e.isDevice .offsetChange } }
  let nextPart (next : Option (Nat × Int)) (u : State) : State := match next with
    | none => dropped u
    | some (time, offset) => if u.tmb.w < time
        then { u with
          tmb := { u.tmb with pendingChange := some (time, offset) }
          scp := { u.scp with
            target := insertEntry
              { kind := .device .offsetChange, due := min time 4294967295, service := none, event := none }
              (u.scp.target.filter fun e => !e.isDevice .offsetChange) } }
        else offsetPart offset (dropped u)
  ∀ (s : State) (x : Section) (rest : List Section), s.running = true → s.queues.time = x :: rest →
    let signed (v : Nat) : Int := if v < 32768 then v else (v : Int) - 65536
    let w0 := fieldAt x.body 0 4
    let n0 : NetTime := BitVec.ofNat 40 (fieldAt x.body 4 5)
    let offset := signed (fieldAt x.body 9 2)
    let next : Option (Nat × Int) := if (byteAt x.body 11).getLsbD 0 = true
      then some (fieldAt x.body 12 4, signed (fieldAt x.body 16 2)) else none
    let q := (s.tmb.nt - n0).toInt / 8000000
    let accepted : Prop := 18 ≤ x.body.length ∧ s.tmb.recovery ≠ .free ∧ (-720 ≤ offset ∧ offset ≤ 840)
      ∧ (∀ time offset, next = some (time, offset) → -720 ≤ offset ∧ offset ≤ 840)
      ∧ 0 ≤ (w0 : Int) + q ∧ (w0 : Int) + q ≤ 4294967295
    (accepted →
      let s0 := { s with
        queues := { s.queues with time := rest }
        tmb := { s.tmb with applied := satInc max32 s.tmb.applied } }
      (s.tmb.wallValid = false →
        let u := nextPart next (offsetPart offset { s0 with
          tmb := { s0.tmb with
            wallValid := true, w := ((w0 : Int) + q).toNat, ns := n0 + BitVec.ofInt 40 (q * 8000000) }
          inFlight := s.inFlight ++ [.wallSet .scp, .wallSet .gds, .wallSet .enu, .wallSet .dsc, .wallSet .plu,
            .wallSet .gwn] })
        exec .timeSection s = .next (emit (.wallSet u.tmb.w u.tmb.offset) u))
      ∧ (s.tmb.wallValid = true →
        let w' := (w0 : Int) + q
        ∃ u, exec .secondAdvance { s0 with tmb := { s0.tmb with
              ns := n0 + BitVec.ofInt 40 ((q + (s.tmb.w - w')) * 8000000) } } = .next u
          ∧ exec .timeSection s = .next (nextPart next (offsetPart offset u))
          ∧ ((s.tmb.w : Int) < w' → w' ≤ s.tmb.w + 68000 → u.tmb.w = w'.toNat
              ∧ u.inFlight = s.inFlight ++ [.advance w'.toNat] ∧ u.rpq = s.rpq)
          ∧ (w' ≤ s.tmb.w → (s.tmb.w : Int) ≤ w' + 300 →
              u.tmb.w = s.tmb.w ∧ u.inFlight = s.inFlight ∧ u.rpq = s.rpq)
          ∧ (w' + 300 < s.tmb.w → (s.tmb.w : Int) ≤ w' + 68000 → u.tmb.w = w'.toNat
              ∧ u.inFlight = s.inFlight ++ [.rewind .scp, .rewind .gds]
              ∧ u.rpq = (emit (.wallRewound s.tmb.w w'.toNat) s).rpq)))
    ∧ (¬ accepted → exec .timeSection s = .next { s with
        queues := { s.queues with time := rest }
        tmb := { s.tmb with rejected := satInc max32 s.tmb.rejected } })

/-- The firing of OFFSET_CHANGE (R53): a pending change whose time W has reached becomes the offset, handed to the SCP
and the PLU where it differs; a firing that finds none, or one still to come, is stale. -/
def Obligations.OffsetChangeFiringAppliesADueChange : Prop :=
  ∀ (s : State) (due : Nat) (n e : Option Nat), s.offered (.firing .offsetChange due n e) →
    (∀ time offset, s.tmb.pendingChange = some (time, offset) → time ≤ s.tmb.w →
      exec .offsetChangeFiring s = .next { s with
        tmb := { s.tmb with pendingChange := none, offset }
        inFlight := (s.inFlight.eraseP fun h => h.channel == .scpToTmb)
          ++ (if offset = s.tmb.offset then [] else [.offsetChange .scp, .offsetChange .plu]) })
    ∧ ((s.tmb.pendingChange = none ∨ ∃ time offset, s.tmb.pendingChange = some (time, offset) ∧ s.tmb.w < time) →
      exec .offsetChangeFiring s = .next { s with
        inFlight := s.inFlight.eraseP fun h => h.channel == .scpToTmb })

/-! ### The schedule -/

/-- A firing pass to Wn (R62 to R64): nothing due at or before Wn is left in the table but reminders marked due-held and the
DAY_ROLL entry that the pass itself keys again, and what is due later or due-held stays. While the reminder hold is clear, each
reminder due is reported in table order with its due time, the periods that it covers and Wn; a one-shot goes, and a repeating one
moves to its first due point after Wn, or goes where that lies beyond the last wall second. While it is set, each is marked
where it stands and no event record is offered. Device firings are delivered in table order and their entries go, but for DAY_ROLL,
which is keyed again at the next local midnight (R65). Where the minute has moved, the ranges and the window states are evaluated and
handed on (R70, R71), but not at an advance that repeats W at its limit (log entry 38); they stand as they were otherwise. -/
def Obligations.AFiringPassFiresWhatIsDueAndLeavesTheRest : Prop :=
  ∀ (s : State) (wn : Nat), s.ScheduleOk → s.offered (.advance wn) →
    let due := s.scp.target.filter fun e => decide (e.due ≤ wn) && !e.isHeld
    let covered (e : Entry) (period : Nat) : Nat := if period = 0 then 1 else (wn - e.due) / period + 1
    let evaluates : Prop := s.tmb.wallValid = true ∧ s.scp.lastMinute ≠ some s.tmb.minute
      ∧ ¬ (wn = 4294967295 ∧ s.scp.lastPass = some 4294967295)
    let midnight : Entry :=
      { kind := .device .dayRoll, due := min s.tmb.midnight 4294967295, service := none, event := none }
    ∃ t, exec .firingPass s = .next t
      ∧ (∀ e ∈ t.scp.target, e.due ≤ wn → e.isHeld = true ∨ e.isDevice .dayRoll = true)
      ∧ t.scp.hold = s.scp.hold ∧ t.scp.lastPass = some wn
      ∧ (s.scp.hold = true → t.rpq = s.rpq)
      ∧ (∀ e ∈ due, ∀ kind, e.kind = .device kind → ∀ x ∈ t.scp.target, x.isDevice kind = true →
          kind = .dayRoll ∧ s.tmb.wallValid = true ∧ x = midnight)
      ∧ (∀ e ∈ due, e.kind = .device .dayRoll → s.tmb.wallValid = true → midnight ∈ t.scp.target)
      ∧ (∀ x ∈ t.scp.target, x ∈ s.scp.target ∨ x = midnight ∨ ∃ e ∈ due, x.reminderId = e.reminderId
          ∧ x.reminderId ≠ none)
      ∧ (evaluates → t.scp.lastMinute = some s.tmb.minute
        ∧ t.scp.ranges = s.scp.ranges.map (fun r =>
          { r with contains := r.profile.isSome && r.covers s.tmb.minute })
        ∧ t.scp.windows = (List.range 4).map (fun p => s.scp.ranges.all (fun r => r.profile != some p)
          || s.scp.ranges.any fun r => r.profile == some p && r.covers s.tmb.minute))
      ∧ (¬ evaluates → t.scp = { s.scp with target := t.scp.target, lastPass := t.scp.lastPass })
      ∧ (∀ e ∈ s.scp.target, (wn < e.due ∨ e.isHeld = true) → e ∈ t.scp.target)
      ∧ (∀ e ∈ due, ∀ id period, e.kind = .reminder id period false →
        (s.scp.hold = true → { e with kind := .reminder id period true } ∈ t.scp.target)
        ∧ (s.scp.hold = false →
          let point := e.due + covered e period * period
          (period ≠ 0 → point ≤ 4294967295 → { e with due := point } ∈ t.scp.target)
          ∧ ((period = 0 ∨ 4294967295 < point) → ∀ x ∈ t.scp.target, x.reminderId ≠ some id)))
      ∧ (s.scp.hold = false → t.rpq = (emitAll (due.filterMap fun e => match e.kind with
          | .reminder id period _ => some (.reminderDue id e.due (covered e period) wn e.service e.event)
          | .device _ => none) s).rpq)
      ∧ t.inFlight = s.others (.advance wn)
          ++ (due.filterMap fun e => match e.kind with
            | .device kind => some (.firing kind e.due e.service e.event)
            | .reminder .. => none)
          ++ (if s.tmb.wallValid = false ∨ s.scp.lastMinute = some s.tmb.minute
                ∨ wn = 4294967295 ∧ s.scp.lastPass = some 4294967295 then []
              else [.windowStates t.scp.windows])
      ∧ t = { s with scp := t.scp, rpq := t.rpq, inFlight := t.inFlight }

/-- At WALL_SET and at an offset change the SCP keeps DAY_ROLL at the next local midnight, evaluates the ranges at the
current minute and hands on the window states; a profile change evaluates and hands on alone; a rewind keeps DAY_ROLL and
hands on when the minute differs from that of the last evaluation (R65 to R68, R71). The hold and the second of the last pass
stand. While the wall is invalid nothing is keyed or evaluated, and the window states are handed on as they stand, but not at a
rewind (R57, R68, R71). The minute of the day, the day number and the next local midnight lie where the local wall second puts
them (R54). -/
def Obligations.TheScpKeepsDayRollAndHandsOnTheWindows : Prop :=
  (∀ (t : Tmb),
    let lw : Int := t.w + 60 * t.offset
    60 * (t.minute : Int) ≤ lw % 86400 ∧ lw % 86400 < 60 * t.minute + 60 ∧ t.minute < 1440
    ∧ 86400 * t.day ≤ lw ∧ lw < 86400 * (t.day + 1)
    ∧ (t.midnight : Int) + 60 * t.offset = 86400 * (t.day + 1) ∧ t.w < t.midnight)
  ∧ ∀ (s : State) (h : Handover) (c : Instr),
    (h = .wallSet .scp ∧ c = .scpWallSet ∨ h = .offsetChange .scp ∧ c = .scpOffsetChange
      ∨ h = .profileChange ∧ c = .scpProfileChange ∨ h = .rewind .scp ∧ c = .scpRewind) →
    s.offered h →
    (s.tmb.wallValid = false → exec c s = .next { s with
      inFlight := s.others h ++ if h = .rewind .scp then [] else [.windowStates s.scp.windows] })
    ∧ (s.tmb.wallValid = true → ∃ t, exec c s = .next t
      ∧ (h ≠ .profileChange → t.scp.target = insertEntry
          { kind := .device .dayRoll, due := min s.tmb.midnight 4294967295, service := none, event := none }
          (s.scp.target.filter fun e => !e.isDevice .dayRoll))
      ∧ (h = .profileChange → t.scp.target = s.scp.target)
      ∧ (h = .rewind .scp ∧ s.scp.lastMinute = some s.tmb.minute →
          t.scp = { s.scp with target := t.scp.target }
          ∧ t.inFlight = s.inFlight.eraseP (fun x => x.channel == h.channel))
      ∧ (¬ (h = .rewind .scp ∧ s.scp.lastMinute = some s.tmb.minute) →
          t.scp.lastMinute = some s.tmb.minute
          ∧ t.scp.ranges = s.scp.ranges.map (fun r =>
              { r with contains := r.profile.isSome && r.covers s.tmb.minute })
          ∧ t.scp.windows = (List.range 4).map (fun p =>
              s.scp.ranges.all (fun r => r.profile != some p)
                || s.scp.ranges.any fun r => r.profile == some p && r.covers s.tmb.minute)
          ∧ t.inFlight = s.inFlight.eraseP (fun x => x.channel == h.channel) ++ [.windowStates t.scp.windows])
      ∧ t.scp = { s.scp with
          target := t.scp.target, ranges := t.scp.ranges, windows := t.scp.windows, lastMinute := t.scp.lastMinute }
      ∧ t = { s with scp := t.scp, inFlight := t.inFlight })

/-- The reminder requests (R58 to R61): ADD_REMINDER is refused in its order, a presence byte above 3 with BAD_PARAM ahead of
NO_TIME by the model's reading of R190 (log entry 28), and otherwise inserts the reminder, unheld, after
every entry due no later and before every entry due later (R57); DROP_REMINDER removes the reminder of its id, due-held
or not; HOLD_REMINDERS sets the hold. RELEASE_REMINDERS clears it, and after its reply reports each reminder marked due-held, in
table order, with its due time, the periods that it covers and the current W (R61, R63). A one-shot one goes, and a repeating one
moves, unmarked, to its first due point after W, or goes where that lies beyond the last wall second; every other entry stays. -/
def Obligations.RemindersAreAddedDroppedHeldAndReleased : Prop :=
  ∀ (s : State) (tag : Byte) (n : Nat),
    (∀ id due period service event presence,
      s.asking tag (.addReminder id due period service event presence) n →
      let r := s.replied tag (.addReminder id due period service event presence)
      let allowed := 1 ≤ id ∧ (period = 0 ∨ 60 ≤ period ∧ period ≤ 604800)
        ∧ (presence = 0 ∨ (presence = 1 ∨ presence = 3) ∧ 1 ≤ service ∧ service ≤ 9999)
      let held := ∃ e ∈ s.scp.target, e.reminderId = some id
      (¬ allowed → exec .addReminder s = .next (r .badParam []))
      ∧ (allowed → s.tmb.wallValid = false → exec .addReminder s = .next (r .noTime []))
      ∧ (allowed → s.tmb.wallValid = true → due ≤ s.tmb.w → exec .addReminder s = .next (r .timePast []))
      ∧ (allowed → s.tmb.wallValid = true → s.tmb.w < due → held → exec .addReminder s = .next (r .duplicate []))
      ∧ (allowed → s.tmb.wallValid = true → s.tmb.w < due → ¬ held → 35 ≤ s.scp.reminders.length →
          exec .addReminder s = .next (r .full []))
      ∧ (allowed → s.tmb.wallValid = true → s.tmb.w < due → ¬ held → s.scp.reminders.length < 35 →
        ∃ t, exec .addReminder s = .next t
          ∧ (∃ before after, s.scp.target = before ++ after
              ∧ t.scp.target = before
                  ++ { kind := .reminder id period false, due
                       service := if presence = 0 then none else some service
                       event := if presence = 3 then some event else none } :: after
              ∧ (∀ e ∈ before, e.due ≤ due) ∧ (∀ e ∈ after.head?, due < e.due))
          ∧ t = { r .ok [] with scp := { s.scp with target := t.scp.target } }))
    ∧ (∀ id, s.asking tag (.dropReminder id) n →
      ((∃ e ∈ s.scp.target, e.reminderId = some id) → exec .dropReminder s = .next
        { s.replied tag (.dropReminder id) .ok [] with
          scp := { s.scp with target := s.scp.target.filter fun e => e.reminderId != some id } })
      ∧ ((∀ e ∈ s.scp.target, e.reminderId ≠ some id) →
          exec .dropReminder s = .next (s.replied tag (.dropReminder id) .notFound [])))
    ∧ (s.asking tag .holdReminders n → exec .holdReminders s = .next
      { s.replied tag .holdReminders .ok [] with scp := { s.scp with hold := true } })
    ∧ (s.asking tag .releaseReminders n → s.scp.hold = false → exec .releaseReminders s = .next
        (s.replied tag .releaseReminders .ok []))
    ∧ (s.ScheduleOk → s.asking tag .releaseReminders n → s.scp.hold = true →
        let marked := s.scp.target.filter Entry.isHeld
        let covered (e : Entry) (period : Nat) : Nat :=
          if period = 0 then 1 else if s.tmb.w < e.due then 0 else (s.tmb.w - e.due) / period + 1
        let moves (e x : Entry) : Prop := ∃ id period, e.kind = .reminder id period true ∧ period ≠ 0
          ∧ e.due + covered e period * period ≤ 4294967295
          ∧ x = { e with kind := .reminder id period false, due := e.due + covered e period * period }
        ∃ t, exec .releaseReminders s = .next t
          ∧ t.scp.hold = false ∧ (∀ e ∈ t.scp.target, e.isHeld = false)
          ∧ (∃ events, t.rpq.queue = s.rpq.queue ++ .reply 0x33#8 tag .ok false false [] :: events)
          ∧ (∀ x, x ∈ t.scp.target ↔ (x ∈ s.scp.target ∧ x.isHeld = false) ∨ ∃ e ∈ marked, moves e x)
          ∧ t.scp.target.Pairwise (fun x y => x.due ≤ y.due)
          ∧ t.rpq = (emitAll (marked.filterMap fun e => match e.kind with
              | .reminder id period _ =>
                  some (.reminderDue id e.due (covered e period) s.tmb.w e.service e.event)
              | .device _ => none) (s.replied tag .releaseReminders .ok [])).rpq
          ∧ t = { s with
              scp := { s.scp with hold := false, target := t.scp.target }, rpq := t.rpq
              rqh := { s.rqh with inProgress := none } })

/-! ### Viewing hours and the directory -/

/-- SET_RANGE (R69) takes the profile and the minutes into its range and leaves the others' as they were; the ranges are
then evaluated at the current minute while the wall is valid (R70, R71), and the window states handed to the PLU in every
case. WINDOW_STATES_HANDOVER replaces all four states and sets HOURS exactly when the active profile's window is closed
(R155). -/
def Obligations.RangesAreSetEvaluatedAndReachTheHoursSource : Prop :=
  (∀ (s : State) (tag : Byte) (n index profile lower upper : Nat),
    s.asking tag (.setRange index profile lower upper) n → s.scp.ranges.length = 8 →
    ((7 < index ∨ 1439 < lower ∨ 1439 < upper ∨ (3 < profile ∧ profile ≠ 255)) →
      exec .setRange s = .next (s.replied tag (.setRange index profile lower upper) .badParam []))
    ∧ (index ≤ 7 → lower ≤ 1439 → upper ≤ 1439 → (profile ≤ 3 ∨ profile = 255) →
      ∃ t, exec .setRange s = .next t
        ∧ t.scp.ranges.length = 8
        ∧ (∀ k r r', s.scp.ranges[k]? = some r → t.scp.ranges[k]? = some r' →
            (k ≠ index → (r'.profile, r'.lower, r'.upper) = (r.profile, r.lower, r.upper))
            ∧ (k = index → (r'.profile, r'.lower, r'.upper)
                = (if profile = 255 then none else some profile, lower, upper))
            ∧ (s.tmb.wallValid = false → r'.contains = r.contains)
            ∧ (s.tmb.wallValid = true → (r'.contains = true ↔ r'.profile ≠ none ∧
                (if r'.lower ≤ r'.upper then r'.lower ≤ s.tmb.minute ∧ s.tmb.minute ≤ r'.upper
                 else r'.lower ≤ s.tmb.minute ∨ s.tmb.minute ≤ r'.upper))))
        ∧ (s.tmb.wallValid = false → t.scp.windows = s.scp.windows ∧ t.scp.lastMinute = s.scp.lastMinute)
        ∧ (s.tmb.wallValid = true → t.scp.lastMinute = some s.tmb.minute ∧ t.scp.windows.length = 4
            ∧ ∀ p < 4, (t.scp.windows[p]? = some true ↔
                (∀ r ∈ t.scp.ranges, r.profile ≠ some p)
                ∨ ∃ r ∈ t.scp.ranges, r.profile = some p ∧ r.contains = true))
        ∧ t = { s.replied tag (.setRange index profile lower upper) .ok [] with
            scp := { s.scp with
              ranges := t.scp.ranges, windows := t.scp.windows, lastMinute := t.scp.lastMinute }
            inFlight := s.inFlight ++ [.windowStates t.scp.windows] }))
  ∧ ∀ (s : State) (windows : List Bool), s.offered (.windowStates windows) →
    ∃ t, exec .windowStatesHandover s = .next t
      ∧ t.plu = { s.plu with
          windows, posted := { s.plu.posted with hours := windows[s.plu.active]? == some false }
          accruing := t.plu.accruing }
      ∧ t.plu.settled
      ∧ t = { s with plu := t.plu, inFlight := s.others (.windowStates windows) ++ s.posts t }

/-- DIRECTORY_SECTION (R75, R76): a section of a segment above 15, or one whose body does not hold its entries, is
rejected; one with the version held for its segment changes nothing; any other replaces the segment. Each entry that
passes its checks is the record of its number after it, the last of a number standing, as long as the directory has
room; records of other segments that no entry replaces stay. An entry that fails is counted and passed over. A tier
above 4,095 fails an entry by the model's reading (log entry 17). In a directory as the part keeps it, each entry that passes
replaces the record of its number, or is inserted while fewer than 256 are held, or is dropped and counted, into the records that
the ones before it leave. The entry count and the 30-byte entries are read at their offsets (R189). -/
def Obligations.DirectorySectionsReplaceTheRecordsOfTheirSegment : Prop :=
  (∀ (segment : Nat) (body : List Byte),
    let count := fieldAt body 0 1
    let entry (k : Nat) : Nat × Service :=
      let first := 1 + 30 * k
      (fieldAt body (first + 9) 1,
        { number := fieldAt body first 2, frequency := fieldAt body (first + 2) 4
          modulation := fieldAt body (first + 6) 1 / 64, hidden := (byteAt body (first + 6)).getLsbD 5
          mapStream := fieldAt body (first + 7) 2 % 4096
          tiers := (List.range (min 4 (fieldAt body (first + 9) 1))).map fun j => fieldAt body (first + 10 + 2 * j) 2
          name := ((body.drop (first + 18)).take 12).takeWhile (· != 0#8), segment })
    directoryEntries segment body = if count ≤ 16 ∧ 1 + 30 * count ≤ body.length
      then some ((List.range count).map entry) else none)
  ∧ ∀ (s : State) (x : Section) (rest : List Section), s.running = true → s.queues.directory = x :: rest →
    s.sdr.versions.length = 16 →
    let s0 := { s with queues := { s.queues with directory := rest } }
    ((15 < x.key ∨ directoryEntries x.key x.body = none) →
      exec .directorySection s
        = .next { s0 with sdr := { s.sdr with rejected := satInc max32 s.sdr.rejected } })
    ∧ (x.key ≤ 15 → directoryEntries x.key x.body ≠ none → s.sdr.versions[x.key]? = some (some x.version) →
      exec .directorySection s = .next s0)
    ∧ ∀ entries, x.key ≤ 15 → directoryEntries x.key x.body = some entries →
      s.sdr.versions[x.key]? ≠ some (some x.version) →
      let passes := entries.filter fun e => decide (1 ≤ e.2.number ∧ e.2.number ≤ 9999 ∧ e.2.frequency ≠ 0
        ∧ e.2.mapStream ∉ [4064, 4065, 4066, 4067, 4068, 4080, 4081, 4095] ∧ e.1 ≤ 4 ∧ e.2.tiers.Nodup
        ∧ ∀ tier ∈ e.2.tiers, 1 ≤ tier ∧ tier ≤ 4095)
      let kept := s.sdr.services.filter fun r => r.segment != x.key
      ∃ t, exec .directorySection s = .next t
        ∧ t.sdr.versions = s.sdr.versions.set x.key (some x.version)
        ∧ t.sdr.applied = satInc max32 s.sdr.applied ∧ t.sdr.rejected = s.sdr.rejected
        ∧ (s.DirectoryOk → t.sdr.services.length ≤ 256
            ∧ ∃ after : Nat → List Service × Nat, after 0 = (kept, s.sdr.entriesDropped)
              ∧ after passes.length = (t.sdr.services, t.sdr.entriesDropped)
              ∧ ∀ k e, passes[k]? = some e →
                let a := after k
                let a' := after (k + 1)
                (a'.1.Pairwise fun y z => y.number < z.number)
                ∧ ((∃ r ∈ a.1, r.number = e.2.number) →
                  a'.2 = a.2 ∧ ∀ r, r ∈ a'.1 ↔ r = e.2 ∨ (r ∈ a.1 ∧ r.number ≠ e.2.number))
                ∧ ((∀ r ∈ a.1, r.number ≠ e.2.number) →
                  (a.1.length < 256 → a'.2 = a.2 ∧ ∀ r, r ∈ a'.1 ↔ r = e.2 ∨ r ∈ a.1)
                  ∧ (256 ≤ a.1.length → a' = (a.1, satInc max32 a.2))))
        ∧ (kept.length + passes.length ≤ 256 →
            t.sdr.entriesDropped = s.sdr.entriesDropped
            ∧ ∀ number, t.sdr.services.find? (fun r => r.number == number)
                = (((passes.filter fun e => e.2.number == number).getLast?).map Prod.snd).or
                    (kept.find? fun r => r.number == number))
        ∧ t.sdr.entriesRejected
            = (entries.length - passes.length).repeat (satInc max32) s.sdr.entriesRejected
        ∧ t.rpq = (emit (.directoryChanged x.key x.version t.sdr.services.length) s).rpq
        ∧ t = { s0 with sdr := t.sdr, rpq := t.rpq }

/-! ### Channel changes -/

/-- TUNE (R81, R82, R92, R93): the refusals in their order; a TUNE in WAIT_SPLICE becomes the pending one. Elsewhere a
change starts, a running one being released first: a target on the tuned frequency goes to WAIT_MAP with its map route
ARMED and nothing presented disturbed; a target on the tuning target's carrier inherits the tuning; any other drops
what is presented, restarts Port A and asks the host to tune. That a restart also drops Port A's reports still in
flight is the model's choice (log entry 13). -/
def Obligations.TuneStartsAChangeByTheCarrierOfItsTarget : Prop :=
  ∀ (s : State) (tag : Byte) (n service : Nat) (audio : Lang), s.asking tag (.tune service audio) n →
    let r := s.replied tag (.tune service audio)
    let preference := if audio.letters then some audio else none
    ((service = 0 ∨ 9999 < service) → exec .tune s = .next (r .badParam []))
    ∧ (1 ≤ service → service ≤ 9999 →
      (s.cce.standby = true → exec .tune s = .next (r .standby []))
      ∧ (s.cce.standby = false → s.sdr.find service = none → exec .tune s = .next (r .noService []))
      ∧ ∀ target, s.cce.standby = false → s.sdr.find service = some target →
        let released := if s.cce.engine = .idle then s.routes
          else s.routes.map fun entry => entry.filter fun r => r.state != .armed
        let arming := if s.cce.engine = .idle then s.dsc.arming else none
        let c : Change :=
          { service, frequency := target.frequency, modulation := target.modulation
            mapStream := target.mapStream, audio := preference, phaseStart := s.tmb.localTime
            tuningTarget := target.frequency, readyMark := false, lockMark := false, map := none, parity := none }
        (s.cce.engine = .waitSplice → exec .tune s = .next { r .accepted [] with cce := { s.cce with
            pendingTune := some (service, preference)
            pendingReplaced := if s.cce.pendingTune.isSome then satInc max32 s.cce.pendingReplaced
              else s.cce.pendingReplaced } })
        ∧ (s.cce.engine ≠ .waitSplice → s.cce.engine ≠ .tuning → s.cce.tuned = some target.frequency →
          exec .tune s = .next { r .accepted [] with
            routes := (RouteTable.insertArmed released c.mapStream (.sections [.map, .rating]) .none).getD released
            dsc := { s.dsc with arming }
            cce := { s.cce with engine := .waitMap, change := some c } })
        ∧ (∀ old, s.cce.engine = .tuning → s.cce.change = some old → target.frequency = old.tuningTarget →
          exec .tune s = .next { r .accepted [] with
            routes := released
            dsc := { s.dsc with arming }
            cce := { s.cce with change := some { c with
              phaseStart := old.phaseStart, readyMark := old.readyMark, lockMark := old.lockMark } } })
        ∧ ((s.cce.engine ≠ .waitSplice ∧ s.cce.engine ≠ .tuning ∧ s.cce.tuned ≠ some target.frequency
            ∨ s.cce.engine = .tuning ∧ ∃ old, s.cce.change = some old ∧ target.frequency ≠ old.tuningTarget) →
          exec .tune s
            = .next (State.crossed { r .accepted [] with routes := released, dsc := { s.dsc with arming } } c)))

/-- The tuning handshake (R83, R86): TUNER_READY for the tuning target sets the tuned frequency and its mark, Port A's
lock sets the other mark and its loss clears it; with both marks set the engine enters WAIT_MAP, its map route ARMED. A lock taken
before TUNER_READY counts only while Port A is still LOCKED, with no report of a loss on its way.
TUNER_READY is refused elsewhere, and a report elsewhere changes nothing. -/
def Obligations.TuningEndsWhenTunerAndPortAAreBothReady : Prop :=
  let arrive (s : State) (c : Change) : State := { s with
    routes := (RouteTable.insertArmed s.routes c.mapStream (.sections [.map, .rating]) .none).getD s.routes
    cce := { s.cce with engine := .waitMap, change := some { c with phaseStart := s.tmb.localTime } } }
  (∀ (s : State) (tag : Byte) (n f : Nat), s.asking tag (.tunerReady f) n →
    let r := s.replied tag (.tunerReady f)
    (∀ c, s.cce.engine = .tuning → s.cce.change = some c → c.tuningTarget = f →
      let s1 := { r .ok [] with cce := { s.cce with tuned := some f, change := some { c with readyMark := true } } }
      (c.lockMark = false → exec .tunerReady s = .next s1)
      ∧ (c.lockMark = true → s.cin.a.sync = .locked → Handover.portAHunt ∉ s.inFlight →
          exec .tunerReady s = .next (arrive s1 { c with readyMark := true }))
      ∧ (c.lockMark = true → (s.cin.a.sync ≠ .locked ∨ Handover.portAHunt ∈ s.inFlight) →
          exec .tunerReady s = .next { s1 with cce := { s1.cce with
            change := some { c with readyMark := true, lockMark := false } } }))
    ∧ ((s.cce.engine ≠ .tuning ∨ ∀ c, s.cce.change = some c → c.tuningTarget ≠ f) →
      exec .tunerReady s = .next (r .notWaiting [])))
  ∧ ∀ (s : State) (h : Handover), s.offered h →
    let s0 := { s with inFlight := s.others h }
    (h = .portALock → ∀ c, s.cce.engine = .tuning → s.cce.change = some c →
      (c.readyMark = false → exec .portALockReport s
        = .next { s0 with cce := { s.cce with change := some { c with lockMark := true } } })
      ∧ (c.readyMark = true → exec .portALockReport s = .next (arrive s0 { c with lockMark := true })))
    ∧ (h = .portALock → s.cce.engine ≠ .tuning → exec .portALockReport s = .next s0)
    ∧ (h = .portAHunt → ∀ c, s.cce.engine = .tuning → s.cce.change = some c → exec .portAHuntReport s
        = .next { s0 with cce := { s.cce with change := some { c with lockMark := false } } })
    ∧ (h = .portAHunt → s.cce.engine ≠ .tuning → exec .portAHuntReport s = .next s0)

/-- The endings of a change without a splice (R84, R86, R91, R94), in a state without a pending TUNE, which only
WAIT_SPLICE holds: TUNER_FAIL for the tuning target, 1,500 ms in TUNING, 800 ms in WAIT_MAP, and CANCEL before
WAIT_SPLICE. A failure in TUNING leaves the tuned frequency none; before its limit a timeout changes nothing. -/
def Obligations.ChangesFailTimeOutOrAreCancelled : Prop :=
  ∀ (s : State), s.running = true → s.cce.pendingTune = none →
    (∀ tag n f c, s.asking tag (.tunerFail f) n → s.cce.engine = .tuning → s.cce.change = some c →
      c.tuningTarget = f → exec .tunerFail s = .next (State.changeEnded
        { s.replied tag (.tunerFail f) .ok [] with cce := { s.cce with tuned := none } } c.service .tuner))
    ∧ (∀ tag n f, s.asking tag (.tunerFail f) n →
      (s.cce.engine ≠ .tuning ∨ ∀ c, s.cce.change = some c → c.tuningTarget ≠ f) →
      exec .tunerFail s = .next (s.replied tag (.tunerFail f) .notWaiting []))
    ∧ (∀ c, s.cce.engine = .tuning → s.cce.change = some c →
      (1500 ≤ (s.tmb.localTime - c.phaseStart).toNat → exec .tuneTimeout s = .next (State.changeEnded
        { s with cce := { s.cce with tuned := none } } c.service .tuneTimeout))
      ∧ ((s.tmb.localTime - c.phaseStart).toNat < 1500 → exec .tuneTimeout s = .next s))
    ∧ (∀ c, s.cce.engine = .waitMap → s.cce.change = some c →
      (800 ≤ (s.tmb.localTime - c.phaseStart).toNat →
        exec .noMapTimeout s = .next (s.changeEnded c.service .noMap))
      ∧ ((s.tmb.localTime - c.phaseStart).toNat < 800 → exec .noMapTimeout s = .next s))
    ∧ ∀ tag n, s.asking tag .cancel n →
      (s.cce.engine = .idle → exec .cancel s = .next (s.replied tag .cancel .notWaiting []))
      ∧ (s.cce.engine = .waitSplice → exec .cancel s = .next (s.replied tag .cancel .tooLate []))
      ∧ ∀ c, (s.cce.engine = .tuning ∨ s.cce.engine = .waitMap ∨ s.cce.engine = .waitKey) →
        s.cce.change = some c →
        exec .cancel s = .next ((s.replied tag .cancel .ok []).changeEnded c.service .cancelled)

/-- MAP_SECTION (R85 to R87, R91, R96). In WAIT_MAP the change's own map is either bad, which is counted and changes nothing
else, or it arms the change: the first VIDEO and DATA components and the AUDIO component of the preferred language, or else
the first, get ARMED routes, and a key stream its route and the ARMING record; the change fails with NO_ROUTE where the
table refuses a route. With the map route alone ARMED, the routes take the lowest free entries in that order, a key stream that is the
map stream adds its class to the map route, and two equal streams are refused (R15). With a key stream the engine then waits for
the key, by the model's choice also where the map has no components (log entry 47), and without one for the splice, which a change
without VIDEO makes at once (R89). A later version of the presented map
that chooses the streams already LIVE changes the context's map alone and is reported. One that chooses others rebinds, frees and
inserts routes, frees the host routes under them, and is reported after these (several in entry order, by the model's choice, log
entry 14); a bad map, or a new stream that a staying route holds, is counted alone (two lanes newly choosing one stream too, log
entry 15). This holds while a change waits for its map too, for a section that is not the change's. A map for neither changes
nothing. The map is read at its offsets, and a body too short for its fields, more than 8 components, a kind that is not listed or a
reserved stream make it bad (R85, R189). -/
def Obligations.MapSectionsArmTheChangeOrUpdateThePresentation : Prop :=
  (∀ (version : Nat) (body : List Byte),
    let reserved := [4064, 4065, 4066, 4067, 4068, 4080, 4081, 4095]
    let count := fieldAt body 0 1
    let key := if 32768 ≤ fieldAt body 1 2 then some (fieldAt body 1 2 % 4096) else none
    let stream (k : Nat) : Nat := fieldAt body (3 + 6 * k) 2 % 4096
    let kind (k : Nat) : Nat := fieldAt body (5 + 6 * k) 1
    let lang (k : Nat) : Lang := ⟨byteAt body (6 + 6 * k), byteAt body (7 + 6 * k), byteAt body (8 + 6 * k)⟩
    let good : Prop := 3 + 6 * count ≤ body.length ∧ count ≤ 8 ∧ (∀ n, key = some n → n ∉ reserved)
      ∧ ∀ k < count, 1 ≤ kind k ∧ kind k ≤ 3 ∧ stream k ∉ reserved
    (¬ good → mapBody version body = none)
    ∧ (good → ∃ components, mapBody version body = some { version, keyStream := key, components }
      ∧ components.length = count
      ∧ ∀ k < count, components[k]? = some
          { stream := stream k
            kind := if kind k = 1 then .video else if kind k = 2 then .audio else .data
            lang := if kind k = 2 ∧ (lang k).letters = true then some (lang k) else none }))
  ∧ ∀ (s : State) (x : Section) (rest : List Section), s.running = true → s.queues.map = x :: rest →
    let s0 := { s with queues := { s.queues with map := rest } }
    let first (m : ProgMap) (k : ComponentKind) : Option Nat :=
      (m.components.find? fun c => c.kind == k).map Component.stream
    let chosen (m : ProgMap) (audio : Option Lang) : LaneStreams :=
      { video := first m .video, data := first m .data
        audio := ((m.components.find? fun c => c.kind == .audio && c.lang.any fun l => audio.any l.same).map
          Component.stream).or (first m .audio) }
    let fresh (service stream : Nat) : KeyRecord :=
      { service, stream, criteria := none, verdict := .unknown, even := none, odd := none, live := none
        checkFailures := 0, liveRefusals := 0, noKeyCells := 0 }
    let onA (stream : Nat) (use : RouteUse) (state : RouteState) (binding : Binding) (ctx : Option Context) : Route :=
      { port := .a, stream, use, state, owner := .change, binding, expected := none, discontinuities := 0, cells := 0, ctx }
    (∀ c, s.cce.engine = .waitMap → s.cce.change = some c → s.cce.pendingTune = none → x.port = .a →
      x.stream = c.mapStream → x.key = c.service →
      (mapBody x.version x.body = none →
        exec .mapSection s = .next { s0 with cce := { s.cce with badMaps := satInc max32 s.cce.badMaps } })
      ∧ ∀ m, mapBody x.version x.body = some m →
        let c' := { c with map := some m, parity := none, phaseStart := s.tmb.localTime }
        (armedTable m (chosen m c.audio) s.routes = none →
          exec .mapSection s = .next (s0.changeEnded c.service .noRoute))
        ∧ (∀ routes key, armedTable m (chosen m c.audio) s.routes = some routes → m.keyStream = some key →
          exec .mapSection s = .next { s0 with
            routes, cce := { s.cce with engine := .waitKey, change := some c' }
            dsc := { s.dsc with arming := some (fresh c.service key) } })
        ∧ (∀ routes, armedTable m (chosen m c.audio) s.routes = some routes → m.keyStream = none →
          (∃ r, some r ∈ routes ∧ r.state = .armed ∧ r.use = .video) →
          exec .mapSection s = .next { s0 with
            routes, cce := { s.cce with engine := .waitSplice, change := some c' } })
        ∧ (∀ routes, armedTable m (chosen m c.audio) s.routes = some routes → m.keyStream = none →
          (∀ r, some r ∈ routes → ¬ (r.state = .armed ∧ r.use = .video)) →
          ∃ t, exec .mapSection s = .next t ∧ State.Spliced { s0 with
            routes, cce := { s.cce with engine := .waitSplice, change := some c' } } c' m .ok t)
        ∧ (s.routes.countP (fun e => e.any fun r => r.state == .armed) = 1 →
          (∀ r, some r ∈ s.routes → r.state = .armed → r.port = .a ∧ r.stream = c.mapStream ∧ r.owner = .change
            ∧ r.binding = .none ∧ r.use = .sections [.map, .rating]) →
          s.routes.countP (fun e => e.any fun r => r.owner == .change) ≤ 6 → 4 ≤ s.routes.countP Option.isNone →
          let streams := chosen m c.audio
          let present := (streams.video.map fun n => (RouteUse.video, n)).toList
            ++ (streams.audio.map fun n => (RouteUse.audio, n)).toList ++ (streams.data.map fun n => (RouteUse.data, n)).toList
          let wanted := (present.map fun x => onA x.2 x.1 .armed (if m.keyStream = none then .none else .arming) none)
            ++ (m.keyStream.toList.filter fun key => key != c.mapStream).map fun key =>
                onA key (.sections [.key]) .armed .none (some .fresh)
          let refused := ¬ (present.map Prod.snd ++ m.keyStream.toList).Nodup ∨ c.mapStream ∈ present.map Prod.snd
          (refused → armedTable m streams s.routes = none)
          ∧ (¬ refused → armedTable m streams s.routes = some (fillFree wanted (s.routes.map (Option.map fun r =>
              if r.state = .armed ∧ m.keyStream = some c.mapStream then { r with use := .sections [.map, .key, .rating] }
              else r))))))
    ∧ (∀ p, (∀ c, s.cce.engine = .waitMap → s.cce.change = some c → ¬ (x.stream = c.mapStream ∧ x.key = c.service)) →
      s.cce.presented = some p → x.port = .a → x.stream = p.mapStream →
      x.key = p.service → x.version ≠ p.map.version →
      let bad := exec .mapSection s = .next { s0 with cce := { s.cce with badMaps := satInc max32 s.cce.badMaps } }
      (mapBody x.version x.body = none → bad)
      ∧ ∀ m, mapBody x.version x.body = some m →
        let live := chosen m p.audio
        let moves (r : Route) : Bool := r.state == .live && r.owner == .change && r.isPresent
          && p.live.of r.use != live.of r.use
        let newly := [RouteUse.video, .audio, .data].filterMap fun u =>
          if p.live.of u = live.of u then none else live.of u
        let clash := ¬ newly.Nodup ∨ ∃ r, some r ∈ s.routes ∧ r.state = .live ∧ r.owner = .change ∧ r.port = .a
          ∧ r.stream ∈ newly ∧ moves r = false
        let moved := s.routes.map fun e => e.bind fun r => if moves r = true
          then (live.of r.use).map fun n => { r with stream := n, expected := none, discontinuities := 0, cells := 0 }
          else some r
        let inserted := [RouteUse.video, .audio, .data].filterMap fun u => if p.live.of u = none
          then (live.of u).map fun n => onA n u .live (if p.map.keyStream = none then .none else .active) none else none
        let table := fillFree inserted moved
        let gone := hostsUnder .live table
        (clash → bad)
        ∧ (¬ clash → moved.countP (fun e => e.any fun r => r.owner == .change) + inserted.length ≤ 10 →
          inserted.length ≤ moved.countP Option.isNone →
          exec .mapSection s = .next (emit (.mapChanged p.service m.version live (m.keyStream != p.map.keyStream))
            (emitAll (gone.map fun h => .routeDisplaced h.port h.stream) { s0 with
              routes := table.map fun e => e.filter fun r => !gone.contains r
              cce := { s.cce with
                presented := some { p with map := { m with keyStream := p.map.keyStream }, live } } }))))
    ∧ (∀ p m, (∀ c, s.cce.engine = .waitMap → s.cce.change = some c → ¬ (x.stream = c.mapStream ∧ x.key = c.service)) →
      s.cce.presented = some p → x.port = .a → x.stream = p.mapStream →
      x.key = p.service → x.version ≠ p.map.version → mapBody x.version x.body = some m →
      chosen m p.audio = p.live → RouteTable.displaced s.routes = [] →
      ∃ t, exec .mapSection s = .next t
        ∧ t.cce = { s.cce with presented := some { p with map := { m with keyStream := p.map.keyStream } } }
        ∧ t.rpq = (emit (.mapChanged p.service m.version p.live (m.keyStream != p.map.keyStream)) s).rpq
        ∧ t = { s0 with cce := t.cce, rpq := t.rpq })
    ∧ ((∀ c, s.cce.engine = .waitMap → s.cce.change = some c →
        ¬ (x.port = .a ∧ x.stream = c.mapStream ∧ x.key = c.service)) →
      (∀ p, s.cce.presented = some p → ¬ (x.port = .a ∧ x.stream = p.mapStream ∧ x.key = p.service
        ∧ x.version ≠ p.map.version)) →
      exec .mapSection s = .next s0)

/-- WAIT_KEY and the forced splice (R88 to R90, R93, R101). ARMING_REPORT moves the engine to WAIT_SPLICE when the ARMING
record's verdict is NOT_ENTITLED, or is ENTITLED with the slot of the parity last seen VALID, and leaves it otherwise; it is the
record as it stands that is tested, not as the report gives it, by the model's reading (log entry 19). 1,200 ms move it in any
case. After 1,000 ms in WAIT_SPLICE the splice is made whole with reason FORCED: routes are freed and converted, the displaced host
routes reported (in entry order, log entry 14), the key records swapped, the context taken, and CHANGE_DONE reported
(`State.Spliced`). A pending TUNE then starts
as if just accepted in IDLE, a crossing one dropping Port A's reports in flight by the model's choice (log entry 13), or is done
with NO_SERVICE where the directory no longer has its service. Outside WAIT_KEY an ARMING_REPORT changes nothing. Where no VIDEO route is ARMED
when WAIT_KEY is left, the splice follows at once, with reason OK (R89). -/
def Obligations.WaitKeyEndsAndForcedSplicesPresentTheService : Prop :=
  (∀ (s : State) (v : Verdict) (e o : Bool), s.offered (.armingReport v e o) → s.cce.engine ≠ .waitKey →
    exec .armingReport s = .next { s with inFlight := s.others (.armingReport v e o) })
  ∧ ∀ (s : State) (c : Change), s.running = true → s.cce.change = some c →
    let now := { c with phaseStart := s.tmb.localTime }
    (s.cce.engine = .waitKey → (∃ r, some r ∈ s.routes ∧ r.state = .armed ∧ r.use = .video) →
      (∀ r v e o, s.dsc.arming = some r → s.offered (.armingReport v e o) →
        let s0 := { s with inFlight := s.others (.armingReport v e o) }
        let usable := r.verdict = .notEntitled ∨ (r.verdict = .entitled
          ∧ (c.parity = some .even ∧ r.even.isSome = true ∨ c.parity = some .odd ∧ r.odd.isSome = true))
        (usable → exec .armingReport s
          = .next { s0 with cce := { s.cce with engine := .waitSplice, change := some now } })
        ∧ (¬ usable → exec .armingReport s = .next s0))
      ∧ (1200 ≤ (s.tmb.localTime - c.phaseStart).toNat → exec .waitKeyTimeout s
          = .next { s with cce := { s.cce with engine := .waitSplice, change := some now } })
      ∧ ((s.tmb.localTime - c.phaseStart).toNat < 1200 → exec .waitKeyTimeout s = .next s))
    ∧ (∀ m, s.cce.engine = .waitKey → (∀ r, some r ∈ s.routes → ¬ (r.state = .armed ∧ r.use = .video)) →
      c.map = some m →
      let splicing (s0 : State) : State := { s0 with cce := { s.cce with
        engine := .waitSplice, change := some now, pendingTune := none } }
      (∀ r v e o, s.dsc.arming = some r → s.offered (.armingReport v e o) →
        let s0 := { s with inFlight := s.others (.armingReport v e o) }
        let usable := r.verdict = .notEntitled ∨ (r.verdict = .entitled
          ∧ (c.parity = some .even ∧ r.even.isSome = true ∨ c.parity = some .odd ∧ r.odd.isSome = true))
        (usable → ∃ u, (splicing s0).Spliced now m .ok u
          ∧ exec .armingReport s = .next (u.tuneStarted s.cce.pendingTune))
        ∧ (¬ usable → exec .armingReport s = .next s0))
      ∧ (1200 ≤ (s.tmb.localTime - c.phaseStart).toNat → ∃ u, (splicing s).Spliced now m .ok u
          ∧ exec .waitKeyTimeout s = .next (u.tuneStarted s.cce.pendingTune)))
    ∧ (s.cce.engine = .waitSplice →
      ((s.tmb.localTime - c.phaseStart).toNat < 1000 → exec .forcedSplice s = .next s)
      ∧ ∀ m, c.map = some m → 1000 ≤ (s.tmb.localTime - c.phaseStart).toNat →
        ∃ u, State.Spliced { s with cce := { s.cce with
              pendingTune := none, forcedSplices := satInc max32 s.cce.forcedSplices } } c m .forced u
          ∧ (s.cce.pendingTune = none → exec .forcedSplice s = .next u)
          ∧ ∀ service audio, s.cce.pendingTune = some (service, audio) →
            (∀ target, s.sdr.find service = some target →
              exec .forcedSplice s = .next (u.changeStarted target audio))
            ∧ (s.sdr.find service = none →
              exec .forcedSplice s = .next (emit (.changeDone service .noService) u)))

/-- SET_AUDIO (R95): refused for three bytes that are neither letters nor zero, and in IDLE with nothing presented. Before
arming it replaces the change's preference. In IDLE it moves the LIVE AUDIO route to the component the new preference
chooses, with fresh counts, unless the route feeds it already or the stream holds a LIVE route. In WAIT_KEY and WAIT_SPLICE a
choice that the ARMED AUDIO route carries already replaces the preference alone, a stream with another ARMED route is
refused, and any other choice gets a new ARMED AUDIO route with the old one's binding in place of it; with no audio component in the
change's map the preference alone is replaced. That a host's PASS route on
the stream refuses the request too, and that a moved LIVE route is answered OK alone, without MAP_CHANGED, is the model's reading
(log entry 16). -/
def Obligations.SetAudioReplacesThePreferenceAndMovesTheAudioRoute : Prop :=
  ∀ (s : State) (tag : Byte) (n : Nat) (lang : Lang), s.asking tag (.setAudio lang) n →
    let r := s.replied tag (.setAudio lang)
    let audio := if lang.letters then some lang else none
    let chosen (m : ProgMap) : Option Nat :=
      ((m.components.find? fun c => c.kind == .audio && c.lang.any fun l => audio.any l.same).map
        Component.stream).or ((m.components.find? fun c => c.kind == .audio).map Component.stream)
    (lang.letters = false → lang ≠ ⟨0#8, 0#8, 0#8⟩ → exec .setAudio s = .next (r .badParam []))
    ∧ ((lang.letters = true ∨ lang = ⟨0#8, 0#8, 0#8⟩) →
      (s.cce.engine = .idle → s.cce.presented = none → exec .setAudio s = .next (r .notWaiting []))
      ∧ (∀ c, s.cce.engine = .tuning ∨ s.cce.engine = .waitMap → s.cce.change = some c →
        exec .setAudio s = .next { r .ok [] with cce := { s.cce with change := some { c with audio } } })
      ∧ (∀ p, s.cce.engine = .idle → s.cce.presented = some p →
        (chosen p.map = p.live.audio →
          exec .setAudio s = .next { r .ok [] with cce := { s.cce with presented := some { p with audio } } })
        ∧ ∀ old new, p.live.audio = some old → chosen p.map = some new → old ≠ new →
          ((∃ x, some x ∈ s.routes ∧ x.port = .a ∧ x.stream = new ∧ x.state = .live) →
            exec .setAudio s = .next (r .noRoute []))
          ∧ ((∀ x, some x ∈ s.routes → ¬ (x.port = .a ∧ x.stream = new ∧ x.state = .live)) →
            exec .setAudio s = .next { r .ok [] with
              cce := { s.cce with presented := some { p with audio, live := { p.live with audio := some new } } }
              routes := s.routes.map (Option.map fun x =>
                if x.state = .live ∧ x.owner = .change ∧ x.use = .audio
                then { x with stream := new, expected := none, discontinuities := 0, cells := 0 } else x) }))
      ∧ (∀ c m, (s.cce.engine = .waitKey ∨ s.cce.engine = .waitSplice) → s.cce.change = some c →
        c.map = some m → chosen m = none →
        exec .setAudio s = .next { r .ok [] with cce := { s.cce with change := some { c with audio } } })
      ∧ (∀ c m k x new, (s.cce.engine = .waitKey ∨ s.cce.engine = .waitSplice) → s.cce.change = some c →
        c.map = some m → s.routes.findIdx? (fun e => e.any fun x => x.state == .armed && x.use == .audio) = some k →
        s.routes[k]? = some (some x) → chosen m = some new →
        (x.stream = new → exec .setAudio s
          = .next { r .ok [] with cce := { s.cce with change := some { c with audio } } })
        ∧ (x.stream ≠ new → (∃ y, some y ∈ s.routes ∧ y.port = .a ∧ y.stream = new ∧ y.state = .armed) →
          exec .setAudio s = .next (r .noRoute []))
        ∧ (x.stream ≠ new → (∀ y, some y ∈ s.routes → ¬ (y.port = .a ∧ y.stream = new ∧ y.state = .armed)) →
          x.owner = .change → s.routes.countP (fun e => e.any fun y => y.owner == .change) ≤ 10 →
          exec .setAudio s = .next { r .ok [] with
            cce := { s.cce with change := some { c with audio } }
            routes := fillFree
              [{ port := .a, stream := new, use := .audio, state := .armed, owner := .change, binding := x.binding
                 expected := none, discontinuities := 0, cells := 0, ctx := none }]
              (s.routes.map fun e => e.filter fun y => !(y.state == .armed && y.use == .audio)) })))

/-- STANDBY (R97) drops what is presented and any pending TUNE, after its reply and after the CHANGE_DONE of a change it
abandons; a part already in standby answers OK alone. WAKE (R98) clears the flag, and with the resume flag starts a
cross-multiplex change to the last service, or answers NO_SERVICE where the directory has no record of it; a resume flag above 1
is BAD_PARAM ahead of NOT_WAITING by the model's reading of R190 (log entry 28), and the restart of Port A drops its reports in
flight by the model's choice (log entry 13). -/
def Obligations.StandbyDropsThePresentationAndWakeResumesIt : Prop :=
  ∀ (s : State) (tag : Byte) (n : Nat),
    (s.asking tag .standby n →
      let r := s.replied tag .standby .ok []
      (s.cce.standby = true → exec .standby s = .next r)
      ∧ (s.cce.standby = false →
        ∃ t, exec .standby s = .next t
          ∧ (∀ c, s.cce.change = some c →
              t.rpq = (emit (.changeDone c.service .cancelled) r).rpq ∧ t.cce.engine = .idle ∧ t.dsc.arming = none
              ∧ t.routes = s.routes.map fun e => e.filter fun x =>
                  x.state != .armed && !(x.state == .live && x.owner == .change))
          ∧ (s.cce.change = none →
              t.rpq = r.rpq ∧ t.cce.engine = s.cce.engine ∧ t.dsc.arming = s.dsc.arming
              ∧ t.routes = s.routesDropped)
          ∧ t.cce = { s.cce with
              engine := t.cce.engine, change := none, pendingTune := none, presented := none, tuned := none
              standby := true }
          ∧ t.dsc.active = none
          ∧ t.dsc = { s.dsc with
              active := none, arming := t.dsc.arming
              noKey := if s.dsc.active.isSome then false else s.dsc.noKey
              notEntitled := if s.dsc.active.isSome then false else s.dsc.notEntitled }
          ∧ t.inFlight = s.inFlight ++ s.postsFreed ++ contextHandovers .standby none none
          ∧ t = { r with
              routes := t.routes, cce := t.cce, dsc := t.dsc, inFlight := t.inFlight, rpq := t.rpq }))
    ∧ ∀ resume, s.asking tag (.wake resume) n →
      let r := s.replied tag (.wake resume)
      let awake := { s.cce with standby := false }
      (1 < resume → exec .wake s = .next (r .badParam []))
      ∧ (resume ≤ 1 → s.cce.standby = false → exec .wake s = .next (r .notWaiting []))
      ∧ (resume = 0 → s.cce.standby = true → exec .wake s = .next { r .ok [] with cce := awake })
      ∧ (resume = 1 → s.cce.standby = true → (∀ number, s.cce.lastService = some number → s.sdr.find number = none) →
        exec .wake s = .next { r .noService [] with cce := awake })
      ∧ ∀ number target, resume = 1 → s.cce.standby = true → s.cce.engine = .idle → s.cce.tuned = none →
        s.cce.lastService = some number → s.sdr.find number = some target →
        exec .wake s = .next (State.crossed { r .accepted [] with cce := awake }
          { service := number, frequency := target.frequency, modulation := target.modulation
            mapStream := target.mapStream, audio := none, phaseStart := s.tmb.localTime
            tuningTarget := target.frequency, readyMark := false, lockMark := false, map := none, parity := none })

/-- ADD_ROUTE (R13): the refusals in their order, and otherwise a LIVE PASS route of the host in the lowest free entry,
whose index the reply carries. DROP_ROUTE (R14) frees the host's route of that port and stream, and is refused for any
other, an unlisted port or stream number among them (the model's reading, log entry 20). -/
def Obligations.HostRoutesAreAddedAndDropped : Prop :=
  ∀ (s : State) (tag : Byte) (n code stream : Nat),
    (s.asking tag (.addRoute code stream) n →
      let r := s.replied tag (.addRoute code stream)
      ((code ≠ 1 ∧ code ≠ 2 ∨ 4095 < stream ∨ stream ∈ [4064, 4065, 4066, 4067, 4068, 4080, 4081, 4095]) →
        exec .addRoute s = .next (r .badParam []))
      ∧ ∀ port, (code = 1 ∧ port = .a ∨ code = 2 ∧ port = .b) → stream ≤ 4095 →
        stream ∉ [4064, 4065, 4066, 4067, 4068, 4080, 4081, 4095] →
        ((∃ x, some x ∈ s.routes ∧ x.port = port ∧ x.stream = stream ∧ x.state = .live) →
          exec .addRoute s = .next (r .duplicate []))
        ∧ ((∀ x, some x ∈ s.routes → ¬ (x.port = port ∧ x.stream = stream ∧ x.state = .live)) →
          (8 ≤ s.routes.countP (fun e => e.any fun x => x.owner == .host) →
            exec .addRoute s = .next (r .full []))
          ∧ ∀ k, s.routes.countP (fun e => e.any fun x => x.owner == .host) < 8 → k < 256 →
            s.routes[k]? = some none → (∀ j < k, s.routes[j]? ≠ some none) →
            exec .addRoute s = .next { r .ok [BitVec.ofNat 8 k] with
              routes := s.routes.set k (some
                { port, stream, use := .pass, state := .live, owner := .host, binding := .none, expected := none
                  discontinuities := 0, cells := 0, ctx := none }) }))
    ∧ (s.asking tag (.dropRoute code stream) n →
      let r := s.replied tag (.dropRoute code stream)
      let named (x : Route) : Prop := x.owner = .host ∧ x.stream = stream
        ∧ (x.port = .a ∧ code = 1 ∨ x.port = .b ∧ code = 2 ∨ x.port = .l ∧ code = 3)
      ((∃ x, some x ∈ s.routes ∧ named x) → ∃ t, exec .dropRoute s = .next t
        ∧ (∀ (k : Nat) (x : Route), s.routes[k]? = some (some x) →
            (named x → t.routes[k]? = some none) ∧ (¬ named x → t.routes[k]? = some (some x)))
        ∧ (∀ k : Nat, s.routes[k]? = some none → t.routes[k]? = some none) ∧ t.routes.length = s.routes.length
        ∧ t = { r .ok [] with routes := t.routes })
      ∧ ((∀ x, some x ∈ s.routes → ¬ named x) → exec .dropRoute s = .next (r .notFound [])))

/-! ### Keys and the account -/

/-- KEY_SECTION (R102 to R106, R111, R112) at each claimed record that takes it, from Port A on the record's key stream: a section
no record takes is counted as ignored; a faulty one adds to the counts and is reported once; an applied one replaces the
criteria, recomputes the verdict and writes the slot of its parity under ENTITLED alone, never over a different word in the
live slot, and NOT_ENTITLED empties both slots. The notice of a change of the entitlements and WALL_SET recompute both verdicts
in the same way (R107). NOT_ENTITLED is posted for the ACTIVE record, where that changes it (log entry 18), and a change of the
ARMING record reported to the engine. The verdict is ENTITLED for a service that the directory holds without offered tiers, for a
listed tier with a current entry, and for an event with a current grant or while the wall is invalid, and NOT_ENTITLED otherwise
(R127). The parity field of a KEY_FAULT is the byte at offset 1 of the body, by the model's choice also where the body is too short
to hold one, and a free value under 2 bytes (log entry 8). The check value is the last 16 bytes, and the criteria kind, the parity,
the criteria and the wrapped word are read at their offsets before it, with the form that the fields must have (R103, R189). -/
def Obligations.KeySectionsFillSlotsUnderEntitlementAlone : Prop :=
  (∀ body : List Byte, checkPasses body = true ↔ 17 ≤ body.length
    ∧ Config.integrity (body.take (body.length - 16)) = BitVec.ofNat 128 (fieldAt body (body.length - 16) 16))
  ∧ (∀ (body : List Byte) (b : KeyBody), keyBody body = some b ↔
    let stop := body.length - 16
    let count := fieldAt body 2 1
    let tiers := (List.range count).map fun k => fieldAt body (3 + 2 * k) 2
    (fieldAt body 1 1 = 2 ∧ b.slot = .even ∨ fieldAt body 1 1 = 3 ∧ b.slot = .odd)
    ∧ (fieldAt body 0 1 = 1 ∧ 1 ≤ count ∧ count ≤ 8 ∧ (∀ tier ∈ tiers, 1 ≤ tier ∧ tier ≤ 4095) ∧ tiers.Nodup
        ∧ 19 + 2 * count ≤ stop ∧ b.criteria = .tiers tiers
        ∧ b.wrapped = BitVec.ofNat 128 (fieldAt body (3 + 2 * count) 16)
      ∨ fieldAt body 0 1 = 2 ∧ 1 ≤ fieldAt body 4 2 ∧ 22 ≤ stop
        ∧ b.criteria = .event (fieldAt body 2 2) (fieldAt body 4 2)
        ∧ b.wrapped = BitVec.ofNat 128 (fieldAt body 6 16)))
  ∧ (∀ (s : State) (service : Nat) (criteria : Criteria),
    let current (expiry : Nat) : Prop := s.tmb.wallValid = false ∨ expiry = 4294967295 ∨ s.tmb.w < expiry
    let entitled : Prop := (∃ r, s.sdr.services.find? (fun r => r.number == service) = some r ∧ r.tiers = [])
      ∨ match criteria with
        | .tiers list => ∃ tier ∈ list, ∃ e ∈ s.enu.table, e.tier = tier ∧ current e.expiry
        | .event id _ => s.tmb.wallValid = false
            ∨ ∃ g ∈ s.enu.grants, g.service = service ∧ g.event = id ∧ current g.expiry
    (entitled → s.verdictOf service criteria = .entitled) ∧ (¬ entitled → s.verdictOf service criteria = .notEntitled))
  ∧ (∀ body : List Byte, ∀ b, body[1]? = some b → keyParityField body = b)
  ∧ ∀ (s : State), s.running = true →
    let posted (done : KeyRecord → Prop) (t : State) : Prop :=
      (∀ r, s.dsc.active = some r → done r → ∃ r', t.dsc.active = some r'
        ∧ t.dsc.notEntitled = (r'.verdict == Verdict.notEntitled))
      ∧ ((∀ r, s.dsc.active = some r → ¬ done r) → t.dsc.notEntitled = s.dsc.notEntitled)
      ∧ t.inFlight = (if t.dsc.notEntitled = s.dsc.notEntitled then []
          else [Handover.dscPosting s.dsc.noKey t.dsc.notEntitled])
        ++ (match s.dsc.arming, t.dsc.arming with
          | some r, some r' => if r'.verdict = r.verdict ∧ r'.even.isSome = r.even.isSome ∧ r'.odd.isSome = r.odd.isSome
              then [] else [.armingReport r'.verdict r'.even.isSome r'.odd.isSome]
          | _, _ => [])
    (∀ (x : Section) (rest : List Section), s.queues.key = x :: rest →
      let s0 := { s with queues := { s.queues with key := rest } }
      let takes (r : KeyRecord) : Prop := x.port = .a ∧ x.stream = r.stream
      let atActive : Prop := ∃ r, s.dsc.active = some r ∧ takes r
      let atArming : Prop := ∃ r, s.dsc.arming = some r ∧ takes r
      (¬ atActive → ¬ atArming →
        exec .keySection s = .next { s0 with dsc := { s.dsc with ignored := satInc max32 s.dsc.ignored } })
      ∧ (∀ matched reason,
          (atActive ∧ atArming ∧ matched = .both ∨ atActive ∧ ¬ atArming ∧ matched = .active
            ∨ ¬ atActive ∧ atArming ∧ matched = .arming) →
          (checkPasses x.body = false ∧ reason = .check
            ∨ checkPasses x.body = true ∧ keyBody x.body = none ∧ reason = .format) →
          let counted (r : KeyRecord) : KeyRecord :=
            if x.port = .a ∧ x.stream = r.stream then { r with checkFailures := satInc max32 r.checkFailures } else r
          exec .keySection s = .next (emit (.keyFault x.stream matched reason (keyParityField x.body))
            { s0 with dsc := { s.dsc with
                faulted := satInc max32 s.dsc.faulted
                active := s.dsc.active.map counted, arming := s.dsc.arming.map counted } }))
      ∧ ∀ b, (atActive ∨ atArming) → checkPasses x.body = true → keyBody x.body = some b →
          let word := Config.unwrap b.wrapped
          let filled (r r' : KeyRecord) : Prop :=
            let old := match b.slot with
              | .even => r.even
              | .odd => r.odd
            let refused := old ≠ none ∧ old ≠ some word ∧ r.live = some b.slot
            r'.criteria = some b.criteria ∧ r'.verdict = s.verdictOf r.service b.criteria
            ∧ (r'.verdict = .notEntitled → r'.even = none ∧ r'.odd = none ∧ r'.liveRefusals = r.liveRefusals)
            ∧ (r'.verdict = .entitled →
                (refused → r'.even = r.even ∧ r'.odd = r.odd ∧ r'.liveRefusals = satInc max32 r.liveRefusals)
                ∧ (¬ refused → r'.liveRefusals = r.liveRefusals
                  ∧ (b.slot = .even → r'.even = some word ∧ r'.odd = r.odd)
                  ∧ (b.slot = .odd → r'.odd = some word ∧ r'.even = r.even)))
            ∧ r' = { r with criteria := r'.criteria, verdict := r'.verdict, even := r'.even, odd := r'.odd
                            liveRefusals := r'.liveRefusals }
          ∃ t, exec .keySection s = .next t
            ∧ (∀ r, s.dsc.active = some r →
                ∃ r', t.dsc.active = some r' ∧ (takes r → filled r r') ∧ (¬ takes r → r' = r))
            ∧ (∀ r, s.dsc.arming = some r →
                ∃ r', t.dsc.arming = some r' ∧ (takes r → filled r r') ∧ (¬ takes r → r' = r))
            ∧ (s.dsc.active = none → t.dsc.active = none) ∧ (s.dsc.arming = none → t.dsc.arming = none)
            ∧ posted takes { t with inFlight := t.inFlight.drop s.inFlight.length }
            ∧ t.inFlight.take s.inFlight.length = s.inFlight
            ∧ t = { s0 with
                dsc := { s.dsc with
                  active := t.dsc.active, arming := t.dsc.arming, notEntitled := t.dsc.notEntitled
                  applied := satInc max32 s.dsc.applied }
                inFlight := t.inFlight })
    ∧ ∀ h command, (h = .entNotice ∧ command = Instr.entChangeNotice ∨ h = .wallSet .dsc ∧ command = .dscWallSet) →
      s.offered h →
      let judged (r : KeyRecord) : KeyRecord := match r.criteria with
        | none => { r with verdict := .unknown }
        | some criteria => if s.verdictOf r.service criteria = .notEntitled
            then { r with verdict := .notEntitled, even := none, odd := none }
            else { r with verdict := .entitled }
      ∃ t more, exec command s = .next t
        ∧ t.dsc.active = s.dsc.active.map judged ∧ t.dsc.arming = s.dsc.arming.map judged
        ∧ posted (fun _ => True) { t with inFlight := more }
        ∧ t = { s with
            dsc := { s.dsc with
              active := t.dsc.active, arming := t.dsc.arming, notEntitled := t.dsc.notEntitled }
            inFlight := s.others h ++ more }

/-- ENTITLEMENT_SECTION, ENT_EXPIRY_FIRING and ENU_WALL_SET (R119 to R126): a body that fails its check or its form is counted
alone; GROUP replaces the assignment; ENTITLE takes its items one after another, each into the table that the ones before it
leave: it re-times its tier, or is inserted where there is room, and into a full table after a purge of what has expired, or in
place of the earliest entry where it expires later, or is dropped and counted; REVOKE removes its tiers, CREDIT sets the granted amount and collects the log, and an
expiry removes what has expired while the wall is valid. A change of the table or the grants keeps ENT_EXPIRY at the earliest
expiry left, notifies the descrambler and is reported; one of the account is reported, and no change reports nothing. The message
is read at its offsets after the address and before the check value, with the form that its fields must have (R119, R189). -/
def Obligations.EntitlementMessagesAndExpiryKeepTheAccount : Prop :=
  (∀ (body : List Byte) (m : Message), messageOf body = some m ↔
    let stop := body.length - 16
    ∃ a, (fieldAt body 0 1 = 1 ∧ a = 5 ∨ fieldAt body 0 1 = 2 ∧ a = 35 ∨ fieldAt body 0 1 = 3 ∧ a = 1) ∧ a < stop
      ∧ let count := fieldAt body (a + 1) 1
        let items : List Entitlement := (List.range count).map fun k =>
          { tier := fieldAt body (a + 2 + 6 * k) 2, expiry := fieldAt body (a + 4 + 6 * k) 4 }
        let tiers := (List.range count).map fun k => fieldAt body (a + 2 + 2 * k) 2
        fieldAt body a 1 = 1 ∧ 1 ≤ count ∧ count ≤ 32 ∧ a + 2 + 6 * count ≤ stop
            ∧ (∀ i ∈ items, 1 ≤ i.tier ∧ i.tier ≤ 4095) ∧ m = .entitle items
          ∨ fieldAt body a 1 = 2 ∧ 1 ≤ count ∧ count ≤ 32 ∧ a + 2 + 2 * count ≤ stop
            ∧ (∀ tier ∈ tiers, 1 ≤ tier ∧ tier ≤ 4095) ∧ m = .revoke tiers
          ∨ fieldAt body a 1 = 3 ∧ a + 9 ≤ stop ∧ fieldAt body (a + 1) 4 ≤ 16777215
            ∧ m = .credit (fieldAt body (a + 1) 4) (fieldAt body (a + 5) 4)
          ∨ fieldAt body a 1 = 4 ∧ a + 5 ≤ stop ∧ fieldAt body (a + 3) 2 ≤ 255
            ∧ m = .group (fieldAt body (a + 1) 2) (fieldAt body (a + 3) 2)) ∧
  let kept (s : State) (target : List Entry) : List Entry :=
    let rest := target.filter fun e => !e.isDevice .entExpiry
    match s.enu.earliestExpiry with
    | some due => if s.tmb.wallValid then insertEntry
        { kind := .device .entExpiry, due := min due 4294967295, service := none, event := none } rest else target
    | none => rest
  let changed (cause : EntCause) (s : State) : State :=
    emit (.entChanged cause s.enu.table.length s.enu.grants.length s.enu.earliestExpiry)
      { s with scp := { s.scp with target := kept s s.scp.target }, inFlight := s.inFlight ++ [.entNotice] }
  (∀ (s : State) (x : Section) (rest : List Section), s.running = true → s.queues.entitlement = x :: rest →
    let s0 := { s with queues := { s.queues with entitlement := rest } }
    let e := { s.enu with applied := satInc max32 s.enu.applied }
    (checkPasses x.body = false → exec .entitlementSection s
      = .next { s0 with enu := { s.enu with checkFailed := satInc max32 s.enu.checkFailed } })
    ∧ (checkPasses x.body = true → messageOf x.body = none → exec .entitlementSection s
      = .next { s0 with enu := { s.enu with formFailed := satInc max32 s.enu.formFailed } })
    ∧ (checkPasses x.body = true →
      (∀ number position, messageOf x.body = some (.group number position) →
        exec .entitlementSection s = .next { s0 with enu := { e with group := some (number, position) } })
      ∧ (∀ items, messageOf x.body = some (.entitle items) → s.enu.tableOk →
        ((∀ i ∈ items, i ∈ s.enu.table) → exec .entitlementSection s = .next { s0 with enu := e })
        ∧ ((∃ i ∈ items, i ∉ s.enu.table) → s.enu.table.length + items.length ≤ 64 →
          ∃ table, exec .entitlementSection s = .next (changed .entitle { s0 with enu := { e with table } })
            ∧ (table.Pairwise fun a b => a.tier < b.tier)
            ∧ ∀ r, r ∈ table ↔ (items.filter fun i => i.tier == r.tier).getLast? = some r
                ∨ ((∀ i ∈ items, i.tier ≠ r.tier) ∧ r ∈ s.enu.table)))
      ∧ (∀ items, messageOf x.body = some (.entitle items) → s.enu.tableOk →
        let expired (r : Entitlement) : Prop := s.tmb.wallValid = true ∧ r.expiry ≠ 4294967295 ∧ r.expiry ≤ s.tmb.w
        let takes (a a' : List Entitlement × Nat) (i : Entitlement) : Prop :=
          (a'.1.Pairwise fun y z => y.tier < z.tier)
          ∧ ((∃ r ∈ a.1, r.tier = i.tier) → a'.2 = a.2 ∧ ∀ r, r ∈ a'.1 ↔ r = i ∨ (r ∈ a.1 ∧ r.tier ≠ i.tier))
          ∧ ((∀ r ∈ a.1, r.tier ≠ i.tier) →
            (a.1.length < 64 → a'.2 = a.2 ∧ ∀ r, r ∈ a'.1 ↔ r = i ∨ r ∈ a.1)
            ∧ (64 ≤ a.1.length → (∃ r ∈ a.1, expired r) →
              a'.2 = a.2 ∧ ∀ r, r ∈ a'.1 ↔ r = i ∨ (r ∈ a.1 ∧ ¬ expired r))
            ∧ (64 ≤ a.1.length → (∀ r ∈ a.1, ¬ expired r) → ∀ b ∈ a.1,
              (∀ r ∈ a.1, b.expiry < r.expiry ∨ (b.expiry = r.expiry ∧ b.tier ≤ r.tier)) →
              (b.expiry < i.expiry → a'.2 = a.2 ∧ ∀ r, r ∈ a'.1 ↔ r = i ∨ (r ∈ a.1 ∧ r ≠ b))
              ∧ (i.expiry ≤ b.expiry → a' = (a.1, satInc max32 a.2))))
        ∃ after : Nat → List Entitlement × Nat, after 0 = (s.enu.table, s.enu.tiersDropped)
          ∧ (∀ k i, items[k]? = some i → takes (after k) (after (k + 1)) i)
          ∧ let s1 := { s0 with enu := { e with
              table := (after items.length).1, tiersDropped := (after items.length).2 } }
            ((∃ k < items.length, (after k).1 ≠ (after (k + 1)).1) → exec .entitlementSection s = .next (changed .entitle s1))
            ∧ ((∀ k < items.length, (after k).1 = (after (k + 1)).1) → exec .entitlementSection s = .next s1))
      ∧ (∀ tiers, messageOf x.body = some (.revoke tiers) →
        let table := s.enu.table.filter fun r => !tiers.contains r.tier
        ((∀ r ∈ s.enu.table, r.tier ∉ tiers) → exec .entitlementSection s = .next { s0 with enu := e })
        ∧ ((∃ r ∈ s.enu.table, r.tier ∈ tiers) →
          exec .entitlementSection s = .next (changed .revoke { s0 with enu := { e with table } })))
      ∧ ∀ granted through, messageOf x.body = some (.credit granted through) →
        let log := s.enu.log.filter fun r => decide (through < r.seq)
        let spent := (log.map PurchaseRecord.price).sum
        let s1 := { s0 with enu := { e with granted, spent, log } }
        (s1.enu = e → exec .entitlementSection s = .next s1)
        ∧ (s1.enu ≠ e → exec .entitlementSection s = .next
            (emit (.creditChanged .credit granted spent log.length (log.head?.map PurchaseRecord.seq)) s1))))
  ∧ (∀ (s : State) (due : Nat) (n event : Option Nat), s.offered (.firing .entExpiry due n event) →
    let gone (expiry : Nat) : Prop := s.tmb.wallValid = true ∧ expiry ≠ 4294967295 ∧ expiry ≤ s.tmb.w
    let s0 := { s with inFlight := s.others (.firing .entExpiry due n event) }
    ((∀ r ∈ s.enu.table, ¬ gone r.expiry) → (∀ g ∈ s.enu.grants, ¬ gone g.expiry) →
      exec .entExpiryFiring s = .next { s0 with scp := { s.scp with target := kept s s.scp.target } })
    ∧ (((∃ r ∈ s.enu.table, gone r.expiry) ∨ ∃ g ∈ s.enu.grants, gone g.expiry) →
      ∃ t, exec .entExpiryFiring s = .next t
        ∧ (∀ r, r ∈ t.enu.table ↔ r ∈ s.enu.table ∧ ¬ gone r.expiry)
        ∧ (∀ g, g ∈ t.enu.grants ↔ g ∈ s.enu.grants ∧ ¬ gone g.expiry)
        ∧ t.enu.table.Sublist s.enu.table ∧ t.enu.grants.Sublist s.enu.grants
        ∧ t = changed .expiry { s0 with enu := { s.enu with table := t.enu.table, grants := t.enu.grants } }))
  ∧ ∀ (s : State), s.offered (.wallSet .enu) → exec .enuWallSet s = .next
    { s with inFlight := s.others (.wallSet .enu), scp := { s.scp with target := kept s s.scp.target } }

/-- PURCHASE (R129, R130): each refusal where the checks before it pass, changing nothing; and otherwise the purchase record, the
spent amount, the grant with its expiry, the reply before the events, ENT_EXPIRY, the descrambler's notice, ENT_CHANGED and
CREDIT_CHANGED. The price is the ACTIVE record's, failing that the ARMING record's, failing that the guide's. -/
def Obligations.PurchasesAreRefusedInOrderOrCarriedOutWhole : Prop :=
  ∀ (s : State) (tag : Byte) (n service event : Nat), s.asking tag (.purchase service event) n →
    let r := s.replied tag (.purchase service event)
    let guide := s.gds.events.find? fun e => e.service == service && e.id == event
    let keyPrice (k : KeyRecord) : Option Nat := match k.criteria with
      | some (.event id price) => if k.service = service ∧ id = event then some price else none
      | _ => none
    let price := ((s.dsc.active.bind keyPrice).or (s.dsc.arming.bind keyPrice)).or (guide.bind GuideEvent.price)
    let expired (expiry : Nat) : Prop := expiry ≠ 4294967295 ∧ expiry ≤ s.tmb.w
    ((service = 0 ∨ 9999 < service) → exec .purchase s = .next (r .badParam []))
    ∧ (1 ≤ service → service ≤ 9999 → s.tmb.wallValid = false → exec .purchase s = .next (r .noTime []))
    ∧ (1 ≤ service → service ≤ 9999 → s.tmb.wallValid = true →
      ((∃ g ∈ s.enu.grants, g.service = service ∧ g.event = event ∧ ¬ expired g.expiry) →
        exec .purchase s = .next (r .already []))
      ∧ ((∀ g ∈ s.enu.grants, g.service = service → g.event = event → expired g.expiry) →
        ((price = none ∨ ∃ e, guide = some e ∧ e.start + e.duration + 600 ≤ s.tmb.w) →
          exec .purchase s = .next (r .notOffered []))
        ∧ ∀ p, price = some p → (∀ e, guide = some e → s.tmb.w < e.start + e.duration + 600) →
          ((s.enu.granted : Int) - s.enu.spent < p → exec .purchase s = .next (r .noCredit []))
          ∧ ((p : Int) ≤ s.enu.granted - s.enu.spent →
            ((s.enu.nextSeq = none ∨ 32 ≤ s.enu.log.length) → exec .purchase s = .next (r .logFull []))
            ∧ ∀ seq, s.enu.nextSeq = some seq → s.enu.log.length < 32 →
              (16 ≤ s.enu.grants.length → (∀ g ∈ s.enu.grants, ¬ expired g.expiry) →
                exec .purchase s = .next (r .grantFull []))
              ∧ ((s.enu.grants.length < 16 ∨ ∃ g ∈ s.enu.grants, expired g.expiry) →
                let expiry := min (match guide with
                  | some e => e.start + e.duration + 600
                  | none => s.tmb.w + 14400) 4294967294
                ∃ t, exec .purchase s = .next t
                  ∧ t.enu = { s.enu with
                      grants := t.enu.grants, spent := s.enu.spent + p
                      log := s.enu.log ++ [{ seq, service, event, price := p, wall := s.tmb.w }]
                      nextSeq := if seq < 4294967295 then some (seq + 1) else none }
                  ∧ t.enu.grants.getLast? = some { service, event, expiry }
                  ∧ (s.enu.grants.length < 16 → t.enu.grants.dropLast = s.enu.grants.filter fun g =>
                      decide (¬ (g.service = service ∧ g.event = event)))
                  ∧ (16 ≤ s.enu.grants.length → t.enu.grants.dropLast = s.enu.grants.filter fun g =>
                      decide (¬ expired g.expiry))
                  ∧ (∀ due, t.enu.earliestExpiry = some due → t.scp.target = insertEntry
                      { kind := .device .entExpiry, due := min due 4294967295, service := none, event := none }
                      (s.scp.target.filter fun e => !e.isDevice .entExpiry))
                  ∧ t.inFlight = s.inFlight ++ [.entNotice]
                  ∧ t.rpq = (emit (.creditChanged .purchase t.enu.granted t.enu.spent t.enu.log.length
                        (t.enu.log.head?.map PurchaseRecord.seq))
                      (emit (.entChanged .purchase t.enu.table.length t.enu.grants.length t.enu.earliestExpiry)
                        (r .ok (beBytes 4 seq ++ beBytes 4 expiry)))).rpq
                  ∧ t = { s with
                      enu := t.enu, scp := { s.scp with target := t.scp.target }, inFlight := t.inFlight
                      rpq := t.rpq, rqh := { s.rqh with inProgress := none } }))))

/-! ### The guide -/

/-- GUIDE_SECTION (R134 to R136, R138, R139): the refusals that count alone; a repeat of the stored version changes nothing. Any
other stores its version under its service, creating the service record where there is none. With room in the store, its
segment's old events go, each of its events that has a length, lies in the span and overlaps none of the section's before it
is stored as R135 makes it fit, what it overlaps of other segments goes, and every other event stays, each drop and each
displacement counted. An event for a full store finds room by the purge of what has ended, or in place of the event that starts
last, or is dropped where it starts last itself (R138); a section of several events meets a store that fills on the way event by
event, and can give up one of its own (`State.eventTaken`). EVENT_END is kept and the notice sent exactly where the followed service's events
changed, and GUIDE_CHANGED reported where any did. The segment start, the event count, at most 12, and the events, each of 15 bytes
and its title, are read at their offsets (R134, R189). -/
def Obligations.GuideSectionsReplaceTheEventsOfTheirSegment : Prop :=
  (∀ (service segment : Nat) (body : List Byte) (start : Nat) (events : List GuideEvent),
    guideBody service segment body = some (start, events) ↔
    let count := fieldAt body 4 1
    5 ≤ body.length ∧ count ≤ 12 ∧ start = fieldAt body 0 4 ∧ events.length = count
    ∧ ∃ first : Nat → Nat, first 0 = 5
      ∧ ∀ k < count, first (k + 1) = first k + 15 + fieldAt body (first k + 14) 1 ∧ first (k + 1) ≤ body.length
        ∧ events[k]? = some
          { service, segment, id := fieldAt body (first k) 2, start := fieldAt body (first k + 2) 4
            duration := fieldAt body (first k + 6) 4, age := fieldAt body (first k + 10) 1 / 16
            category := fieldAt body (first k + 10) 1 % 16, flags := (byteAt body (first k + 11)).extractLsb' 0 4
            price := some (fieldAt body (first k + 12) 2)
            title := (body.drop (first k + 15)).take (fieldAt body (first k + 14) 1) })
  ∧ ∀ (s : State) (x : Section) (rest : List Section), s.running = true → s.queues.guide = x :: rest →
    let s0 := { s with queues := { s.queues with guide := rest } }
    let c := s.gds.counts
    let segment := x.bits % 64
    let refused (counts : GuideCounts) : State := { s0 with gds := { s.gds with counts } }
    ((guideBody x.key segment x.body = none ∨ x.key = 0 ∨ 9999 < x.key ∨ 55 < segment) →
      exec .guideSection s = .next (refused { c with rejected := min 4294967295 (c.rejected + 1) }))
    ∧ ∀ start events, guideBody x.key segment x.body = some (start, events) → 1 ≤ x.key → x.key ≤ 9999 →
      segment ≤ 55 →
      (s.gds.versionOf x.key segment = some x.version → exec .guideSection s = .next s0)
      ∧ (s.gds.versionOf x.key segment ≠ some x.version →
        ((∀ r ∈ s.gds.services, r.number ≠ x.key) → 256 ≤ s.gds.services.length →
          exec .guideSection s = .next
            (refused { c with servicesRefused := min 4294967295 (c.servicesRefused + 1) }))
        ∧ (((∃ r ∈ s.gds.services, r.number = x.key) ∨ s.gds.services.length < 256) →
          (∀ r ∈ s.gds.services, r.versions.length = 56) →
          let fits := (events.filter fun e => decide (e.duration ≠ 0 ∧ start ≤ e.start ∧ e.start < start + 10800)).map
            fun e => { e with
              duration := max 60 (min 86400 e.duration), age := if 8 ≤ e.age ∧ e.age ≤ 14 then 7 else e.age
              price := e.price.filter (· != 0), title := e.title.take 40 }
          let overlap (a b : GuideEvent) : Prop := a.start < b.start + b.duration ∧ b.start < a.start + a.duration
          let added := fits.foldl (fun held e =>
            if held.any fun h => decide (overlap h e) then held else held ++ [e]) ([] : List GuideEvent)
          let plus (n count : Nat) : Nat := n.repeat (fun k => min 4294967295 (k + 1)) count
          let finished (others : Bool) (t : State) : Prop :=
            let stored := { s0 with gds := { s.gds with
              services := t.gds.services, events := t.gds.events, counts := t.gds.counts } }
            let reported (u : State) : State := if s.gds.events = t.gds.events then u
              else emit (.guideChanged x.key segment x.version (t.gds.eventsOf x.key).length t.gds.events.length others) u
            let moved : Prop := ∃ f, s.gds.followed = some f ∧ s.gds.eventsOf f ≠ t.gds.eventsOf f
            t.gds.versionOf x.key segment = some x.version
            ∧ (∀ number k, (number ≠ x.key ∨ k ≠ segment) → t.gds.versionOf number k = s.gds.versionOf number k)
            ∧ (∀ number, (∃ r ∈ t.gds.services, r.number = number)
                ↔ number = x.key ∨ ∃ r ∈ s.gds.services, r.number = number)
            ∧ (moved → t = reported stored.eventEndKept) ∧ (¬ moved → t = reported stored)
          (s.gds.events.length + events.length ≤ 4096 → ∃ t, exec .guideSection s = .next t
            ∧ (∀ e, e ∈ t.gds.events ↔ e ∈ added ∨ (e ∈ s.gds.events ∧ ¬ (e.service = x.key ∧ e.segment = segment)
                ∧ ∀ a ∈ added, e.service = x.key → ¬ overlap e a))
            ∧ t.gds.counts = { c with
                applied := min 4294967295 (c.applied + 1)
                noLength := plus (events.filter fun e => decide (e.duration = 0)).length c.noLength
                outOfSpan := plus (events.filter fun e =>
                  decide (e.duration ≠ 0 ∧ ¬ (start ≤ e.start ∧ e.start < start + 10800))).length c.outOfSpan
                overlapping := plus (fits.length - added.length) c.overlapping
                displaced := if added = [] then c.displaced
                  else min 4294967295 (c.displaced + (s.gds.events.filter fun e => decide (e.service = x.key
                    ∧ e.segment ≠ segment ∧ ∃ a ∈ added, overlap e a)).length) }
            ∧ finished false t)
          ∧ (s.GuideOk →
            let made := events.foldl (s.eventTaken start)
              (s.gds.events.filter (fun e => !(e.service == x.key && e.segment == segment)), c, false)
            ∃ t, exec .guideSection s = .next t ∧ (∀ e, e ∈ t.gds.events ↔ e ∈ made.1)
              ∧ t.gds.events.Pairwise GuideEvent.precedes
              ∧ t.gds.counts = { made.2.1 with applied := min 4294967295 (c.applied + 1) }
              ∧ finished made.2.2 t)
          ∧ ∀ e, fits = [e] → events.length = 1 → s.GuideOk → s.gds.events.length = 4096 →
            (∀ v ∈ s.gds.events, v.service = x.key → v.segment ≠ segment ∧ ¬ overlap v e) →
            let ended (v : GuideEvent) : Prop := s.tmb.wallValid = true ∧ v.start + v.duration ≤ s.tmb.w
            let counted := { c with
              applied := min 4294967295 (c.applied + 1), displaced := min 4294967295 c.displaced
              purged := if s.tmb.wallValid = true
                then min 4294967295 (c.purged + (s.gds.events.filter fun v => decide (ended v)).length) else c.purged }
            ∃ t, exec .guideSection s = .next t
              ∧ ((∃ v ∈ s.gds.events, ended v) → t.gds.counts = counted
                ∧ (∀ v, v ∈ t.gds.events ↔ v = e ∨ (v ∈ s.gds.events ∧ ¬ ended v))
                ∧ finished (decide (∃ v ∈ s.gds.events, ended v ∧ v.service ≠ x.key)) t)
              ∧ ((∀ v ∈ s.gds.events, ¬ ended v) →
                ((∀ v ∈ s.gds.events, v.start < e.start) → t.gds.events = s.gds.events
                  ∧ t.gds.counts = { counted with guideFull := min 4294967295 (c.guideFull + 1) } ∧ finished false t)
                ∧ ∀ last ∈ s.gds.events, (∀ v ∈ s.gds.events,
                    v.start < last.start ∨ (v.start = last.start ∧ v.service ≤ last.service)) → e.start ≤ last.start →
                  (∀ v, v ∈ t.gds.events ↔ v = e ∨ (v ∈ s.gds.events ∧ v ≠ last))
                  ∧ t.gds.counts = { counted with evicted := min 4294967295 (c.evicted + 1) }
                  ∧ finished (decide (last.service ≠ x.key)) t)))

/-- EVENT_END_FIRING, GDS_REWIND, GDS_WALL_SET and GDS_CONTEXT_CHANGE keep EVENT_END at the end of the followed service's
now-event, or at the start of its next event, or clear it, set the now record, and send the now-event notice (R141 to
R145); a context change first takes the new service as the followed one. DAY_ROLL_PURGE removes the events that have
ended and counts them, and does nothing of that (R140). -/
def Obligations.TheGuideStoreKeepsEventEndAndPurgesAtTheDayRoll : Prop :=
  ∀ (s : State) (h : Handover), s.offered h →
    (∀ command followed,
      ((∃ due n e, h = .firing .eventEnd due n e) ∧ command = Instr.eventEndFiring ∧ followed = s.gds.followed
        ∨ h = .rewind .gds ∧ command = .gdsRewind ∧ followed = s.gds.followed
        ∨ h = .wallSet .gds ∧ command = .gdsWallSet ∧ followed = s.gds.followed
        ∨ ∃ cause stream, h = .context .gds cause followed stream ∧ command = .gdsContextChange) →
      let own := s.gds.events.filter fun e => some e.service == followed && s.tmb.wallValid
      let now := own.find? fun e => decide (e.start ≤ s.tmb.w ∧ s.tmb.w < e.start + e.duration)
      let next := own.find? fun e => decide (s.tmb.w < e.start)
      let rest := s.scp.target.filter fun e => !e.isDevice .eventEnd
      let keyed (due : Nat) (e : GuideEvent) : List Entry := insertEntry
        { kind := .device .eventEnd, due := min due 4294967295, service := followed, event := some e.id } rest
      let record := now.map fun e =>
        ({ id := e.id, start := e.start, stop := e.start + e.duration, age := e.age, flags := e.flags } : NowEvent)
      exec command s = .next { s with
        gds := { s.gds with followed, now := followed.bind fun f => record.map fun e => (f, e) }
        scp := { s.scp with target := match now, next with
          | some e, _ => keyed (e.start + e.duration) e
          | none, some e => keyed e.start e
          | none, none => rest }
        inFlight := s.others h ++ [.nowEvent followed record] })
    ∧ (h = .dayRoll → exec .dayRollPurge s = .next { s with
        gds := { s.gds with
          events := s.gds.events.filter fun e => decide (s.tmb.w < e.start + e.duration)
          counts := { s.gds.counts with purged := min 4294967295 (s.gds.counts.purged
            + (s.gds.events.filter fun e => decide (e.start + e.duration ≤ s.tmb.w)).length) } }
        inFlight := s.others h })

/-! ### Parental limits -/

/-- RATING_SECTION, NOW_EVENT_NOTICE and PLU_CONTEXT_CHANGE (R151 to R154). A section for the presentation that is no repeat becomes
the presented rating, one for the change the prepared rating, an age of 8 to 14 counting as 7; one for neither is
ignored. The notice sets or clears the guide rating. A splice adopts the prepared rating of the new service and map stream, any
context change discards it and keeps the guide rating of the service presented, and a SERVICE override ends at a splice to
another service, and any override at STANDBY. RATING is then evaluated: the in-stream rating of the presented service comes first,
its guide rating next; the rating is set when the age or a flag fails the effective limits. At a context change RATING and LOCKED
are evaluated for the context as it stands, while the override and the ratings go by the service handed over, by the model's
reading (log entry 33). The age and the flags are the low four bits of the body's first two bytes (R189). -/
def Obligations.RatingsAreTakenAndTheRatingSourceEvaluated : Prop :=
  let evaluated (s t : State) : Prop := t.plu.rated (s.cce.presented.map Presentation.service)
  (∀ body : List Byte, ratingBody body = if 2 ≤ body.length
    then some (fieldAt body 0 1 % 16, (byteAt body 1).extractLsb' 0 4) else none)
  ∧ (∀ (s : State) (x : Section) (rest : List Section), s.running = true → s.queues.rating = x :: rest →
    let s0 := { s with queues := { s.queues with rating := rest } }
    let shown : Prop := ∃ p, s.cce.presented = some p ∧ x.port = .a ∧ x.stream = p.mapStream ∧ x.key = p.service
    let prepared : Prop := ∃ c, s.cce.change = some c ∧ x.port = .a ∧ x.stream = c.mapStream ∧ x.key = c.service
      ∧ (s.cce.engine = .waitMap ∨ s.cce.engine = .waitKey ∨ s.cce.engine = .waitSplice)
    let repeated : Prop := ∃ r, s.plu.presentedRating = some r ∧ r.service = x.key ∧ r.version = x.version
    let prepeated : Prop := ∃ r, s.plu.preparedRating = some r ∧ r.service = x.key ∧ r.mapStream = x.stream
      ∧ r.version = x.version
    ∃ t, exec .ratingSection s = .next t
      ∧ t.plu.settled
      ∧ (ratingBody x.body = none →
          t.plu = { s.plu with rejected := satInc max32 s.plu.rejected, accruing := t.plu.accruing })
      ∧ (∀ sent flags, ratingBody x.body = some (sent, flags) →
          let age := if 8 ≤ sent ∧ sent ≤ 14 then 7 else sent
          (¬ shown → ¬ prepared →
            t.plu = { s.plu with ignored := satInc max32 s.plu.ignored, accruing := t.plu.accruing })
          ∧ (shown → ¬ repeated → evaluated s t
            ∧ t.plu.presentedRating = some { service := x.key, version := x.version, age, flags })
          ∧ ((¬ shown ∨ repeated) → t.plu.presentedRating = s.plu.presentedRating
            ∧ t.plu.posted = s.plu.posted ∧ t.plu.current = s.plu.current)
          ∧ (prepared → ¬ prepeated → t.plu.preparedRating
            = some { service := x.key, mapStream := x.stream, version := x.version, age, flags })
          ∧ ((¬ prepared ∨ prepeated) → t.plu.preparedRating = s.plu.preparedRating)
          ∧ (shown ∨ prepared → t.plu.applied = (if (shown ∧ ¬ repeated) ∨ (prepared ∧ ¬ prepeated)
              then satInc max32 s.plu.applied else s.plu.applied)))
      ∧ t.plu = { s.plu with
          presentedRating := t.plu.presentedRating, preparedRating := t.plu.preparedRating
          current := t.plu.current, posted := { s.plu.posted with rating := t.plu.posted.rating }
          accruing := t.plu.accruing, applied := t.plu.applied, ignored := t.plu.ignored
          rejected := t.plu.rejected }
      ∧ t = { s0 with plu := t.plu, inFlight := s.inFlight ++ s.posts t })
  ∧ (∀ (s : State) (service : Option Nat) (event : Option NowEvent), s.offered (.nowEvent service event) →
    ∃ t, exec .nowEventNotice s = .next t ∧ t.plu.settled ∧ evaluated s t
      ∧ t.plu.guideRating = (service.bind fun n => event.map fun e =>
          ({ service := n, event := e.id, age := e.age, flags := e.flags } : GuideRating))
      ∧ t.plu = { s.plu with
          guideRating := t.plu.guideRating, current := t.plu.current
          posted := { s.plu.posted with rating := t.plu.posted.rating }, accruing := t.plu.accruing }
      ∧ t = { s with plu := t.plu, inFlight := s.others (.nowEvent service event) ++ s.posts t })
  ∧ ∀ (s : State) (cause : ContextCause) (service stream : Option Nat),
    s.offered (.context .plu cause service stream) →
    let ends (why : OverrideCause) : Prop := ∃ o, s.plu.override = some o
      ∧ (cause = .splice ∧ why = .splice ∧ (∃ named, o.scope = some named ∧ service ≠ some named)
        ∨ cause = .standby ∧ why = .standby)
    ∃ t, exec .pluContextChange s = .next t ∧ t.plu.settled ∧ evaluated s t
      ∧ (t.plu.posted.locked = true ↔ ∃ p, s.cce.presented = some p ∧ p.service ∈ s.plu.activeProfile.locked)
      ∧ t.plu.preparedRating = none
      ∧ (∀ r, t.plu.presentedRating = some r ↔ cause = .splice ∧ ∃ q, s.plu.preparedRating = some q
          ∧ service = some q.service ∧ stream = some q.mapStream
          ∧ r = { service := q.service, version := q.version, age := q.age, flags := q.flags })
      ∧ (∀ g, t.plu.guideRating = some g ↔ s.plu.guideRating = some g ∧ service = some g.service)
      ∧ ((∀ why, ¬ ends why) → t.plu.override = s.plu.override ∧ t.rpq = s.rpq ∧ t.scp = s.scp
          ∧ t.plu.posted.mask = s.plu.posted.mask)
      ∧ (∀ why, ends why → t.plu.override = none ∧ t.plu.posted.mask = false
          ∧ t.scp = { s.scp with target := s.scp.target.filter fun e => !e.isDevice .overrideEnd }
          ∧ ∀ o, s.plu.override = some o → t.rpq = (emit (.overrideEnd why o.scope) s).rpq)
      ∧ t.plu = { s.plu with
          presentedRating := t.plu.presentedRating, preparedRating := t.plu.preparedRating
          guideRating := t.plu.guideRating, override := t.plu.override, current := t.plu.current
          posted := { s.plu.posted with
            rating := t.plu.posted.rating, locked := t.plu.posted.locked, mask := t.plu.posted.mask }
          accruing := t.plu.accruing }
      ∧ t = { s with
          plu := t.plu, rpq := t.rpq, scp := t.scp
          inFlight := s.others (.context .plu cause service stream) ++ s.posts t }

/-- The budget of a profile (R156 to R158). GATE_STATE_HANDOVER starts or stops the accrual. A completed second adds one to the
seconds; the sixtieth adds a used minute, up to 1,440, with the warn and spent tests and BUDGET. SET_BUDGET is refused out of
range, takes NEXT_DAY minutes into the latch alone, and NOW sets mode, budget and latch, with the tests after its reply. A
warning is given at 5 minutes or fewer left, once; the spent report where the profile was not spent before. That
BUDGET_ACCRUAL_SECOND performs the minute, and BUDGET_ACCRUAL_MINUTE does nothing before the sixtieth second, is the model's
reading (log entry 35); a timing code that is not listed is refused under R190. -/
def Obligations.BudgetsAccrueWhileTheGateIsOpenAndAreTested : Prop :=
  let spent (p : Profile) : Prop := p.mode ≠ .none ∧ p.budget ≤ p.used
  let warns (p : Profile) : Prop := p.mode ≠ .none ∧ p.warned = false ∧ p.budget ≤ p.used + 5
  let tested (n : Nat) (before after : Profile) (r t : State) : Prop :=
    t.plu.profiles = r.plu.profiles.set n { after with warned := t.plu.profile n |>.warned }
    ∧ ((t.plu.profile n).warned = true ↔ after.warned = true ∨ warns after)
    ∧ t.plu.posted = { r.plu.posted with budget := t.plu.posted.budget }
    ∧ (t.plu.posted.budget = true ↔ spent t.plu.activeProfile)
    ∧ (¬ warns after → (¬ spent after ∨ spent before) → t.rpq = r.rpq)
    ∧ (warns after → (¬ spent after ∨ spent before) →
        t.rpq = (emit (.budgetWarn n (after.budget - after.used)) r).rpq)
    ∧ (¬ warns after → spent after → ¬ spent before →
        t.rpq = (emit (.budgetSpent n after.used after.budget) r).rpq)
    ∧ (warns after → spent after → ¬ spent before →
        t.rpq = (emit (.budgetSpent n after.used after.budget)
          (emit (.budgetWarn n (after.budget - after.used)) r)).rpq)
  (∀ (s : State) (isOpen : Bool), s.offered (.gateState isOpen) → ∃ t, exec .gateStateHandover s = .next t
    ∧ t.plu.settled
    ∧ t = { s with
        plu := { s.plu with gateOpen := isOpen, accruing := t.plu.accruing }
        inFlight := s.others (.gateState isOpen) })
  ∧ (∀ (s : State), s.running = true → s.plu.profiles.length = 4 → s.plu.active ≤ 3 →
    let p := s.plu.activeProfile
    ((s.plu.accruing = false ∨ s.plu.remainder < 1000) →
      exec .budgetAccrualSecond s = .next s ∧ exec .budgetAccrualMinute s = .next s)
    ∧ (s.plu.accruing = true → 1000 ≤ s.plu.remainder →
      (p.seconds < 59 → exec .budgetAccrualMinute s = .next s
        ∧ ∃ t, exec .budgetAccrualSecond s = .next t ∧ t.plu.settled
          ∧ t = { s with plu := { s.plu with
              remainder := s.plu.remainder - 1000, accruing := t.plu.accruing
              profiles := s.plu.profiles.set s.plu.active { p with seconds := p.seconds + 1 } } })
      ∧ (59 ≤ p.seconds → ∀ command, command = Instr.budgetAccrualSecond ∨ command = .budgetAccrualMinute →
        ∃ t, exec command s = .next t ∧ t.plu.settled
          ∧ tested s.plu.active p { p with seconds := 0, used := min 1440 (p.used + 1) } s t
          ∧ t = { s with
              rpq := t.rpq, inFlight := s.inFlight ++ s.posts t
              plu := { s.plu with
                remainder := s.plu.remainder - 1000, accruing := t.plu.accruing, profiles := t.plu.profiles
                posted := t.plu.posted } })))
  ∧ ∀ (s : State) (tag : Byte) (n profile mode minutes timing : Nat),
    s.asking tag (.setBudget profile mode minutes timing) n → s.plu.profiles.length = 4 → s.plu.active ≤ 3 →
    s.plu.settled →
    let r := s.replied tag (.setBudget profile mode minutes timing)
    let p := s.plu.profile profile
    ((3 < profile ∨ 2 < mode ∨ 1439 < minutes ∨ 1 < timing ∨ (timing = 1 ∧ mode ≠ 1)) →
      exec .setBudget s = .next (r .badParam []))
    ∧ (profile ≤ 3 → minutes ≤ 1439 → timing = 1 → mode = 1 →
      exec .setBudget s = .next { r .ok [] with plu := { s.plu with
        profiles := s.plu.profiles.set profile { p with latch := minutes } } })
    ∧ ∀ m, profile ≤ 3 → minutes ≤ 1439 → timing = 0 →
      (mode = 0 ∧ m = .none ∨ mode = 1 ∧ m = .daily ∨ mode = 2 ∧ m = .once) →
      ∃ t, exec .setBudget s = .next t ∧ t.plu.settled
        ∧ tested profile p { p with mode := m, budget := minutes, latch := minutes, warned := false } (r .ok []) t
        ∧ t = { r .ok [] with
            rpq := t.rpq, inFlight := s.inFlight ++ s.posts t
            plu := { s.plu with
              accruing := t.plu.accruing, profiles := t.plu.profiles, posted := t.plu.posted } }

/-- The day roll (R159), at DAY_ROLL_FIRING and an offset change where the day number has risen, and at WALL_SET where one is
stored and differs; WALL_SET stores the first one without a roll. A roll renews each DAILY profile from its latch, leaves the
others, stores the day, and hands the roll to the guide store. DAY_ROLL is reported, and after it the tests of each DAILY profile,
from profile 0 up by the model's choice (log entry 45): a latch of 5 or less warns, and a latch of 0 reports a profile spent that was not spent before the roll (R158), which is how
the model reads 'before the change' there (log entry 36). That DAY_ROLL_FIRING and an offset change
roll nothing where no day number is stored is the model's reading (log entry 34). -/
def Obligations.DayRollsRenewTheDailyBudgets : Prop :=
  ∀ (s : State) (h : Handover) (command : Instr), s.offered h → s.plu.profiles.length = 4 → s.plu.active ≤ 3 →
    ((∃ due n e, h = .firing .dayRoll due n e) ∧ command = .dayRollFiring
      ∨ h = .offsetChange .plu ∧ command = .pluOffsetChange ∨ h = .wallSet .plu ∧ command = .pluWallSet) →
    let day := ((s.tmb.w : Int) + 60 * s.tmb.offset) / 86400
    let rolls (stored : Int) : Prop := if h = .wallSet .plu then stored ≠ day else stored < day
    ∃ t, exec command s = .next t ∧ t.plu.settled
      ∧ (s.plu.dayNumber = none →
          t.plu = { s.plu with
            dayNumber := if h = .wallSet .plu then some day else none, accruing := t.plu.accruing }
          ∧ t.rpq = s.rpq ∧ t.inFlight = s.others h)
      ∧ (∀ stored, s.plu.dayNumber = some stored →
        (¬ rolls stored → t.plu = { s.plu with accruing := t.plu.accruing } ∧ t.rpq = s.rpq
          ∧ t.inFlight = s.others h)
        ∧ (rolls stored →
          t.plu = { s.plu with
            profiles := s.plu.profiles.map fun p => if p.mode = .daily
              then { p with budget := p.latch, used := 0, seconds := 0, warned := decide (p.latch ≤ 5) } else p
            dayNumber := some day, accruing := t.plu.accruing
            posted := { s.plu.posted with budget := t.plu.posted.budget } }
          ∧ (t.plu.posted.budget = true ↔ t.plu.activeProfile.mode ≠ .none
              ∧ t.plu.activeProfile.budget ≤ t.plu.activeProfile.used)
          ∧ t.rpq = (emitAll (.dayRoll day stored :: (s.plu.profiles.zipIdx.flatMap fun (p, n) =>
              if p.mode = .daily then
                (if p.latch ≤ 5 then [.budgetWarn n p.latch] else [])
                ++ (if p.latch = 0 ∧ p.used < p.budget then [.budgetSpent n 0 0] else [])
              else [])) s).rpq
          ∧ t.inFlight = s.others h ++ [.dayRoll] ++ s.posts t))
      ∧ t = { s with plu := t.plu, rpq := t.rpq, inFlight := t.inFlight }

/-- The profile requests (R149, R150, R165): SELECT_PROFILE makes the profile active, ends an override after its reply, drops the
accrual's remainder, reports the profile change and posts LOCKED, HOURS and BUDGET for it with RATING; SET_PROFILE_LIMITS
replaces the limits; LOCK_SERVICE appends to the profile's list and UNLOCK_SERVICE removes from it, and LOCKED follows the active profile's list. Each is refused in its
order; that blocked flags above 15 and a follow flag above 1 are refused with BAD_PARAM is R190 as the model reads it
(log entry 28). -/
def Obligations.ProfilesAreSelectedLimitedAndLocked : Prop :=
  ∀ (s : State) (tag : Byte) (n : Nat), s.plu.profiles.length = 4 → s.plu.active ≤ 3 → s.plu.settled →
    let lockedFor (p : Profile) : Prop := ∃ shown, s.cce.presented = some shown ∧ shown.service ∈ p.locked
    (∀ k, s.asking tag (.selectProfile k) n →
      (3 < k → exec .selectProfile s = .next (s.replied tag (.selectProfile k) .badParam []))
      ∧ (k ≤ 3 →
        let r := s.replied tag (.selectProfile k) .ok []
        let p := s.plu.profile k
        ∃ t, exec .selectProfile s = .next t ∧ t.plu.settled
          ∧ t.plu = { s.plu with
              active := k, override := none, remainder := 0, current := t.plu.current
              accruing := t.plu.accruing, posted := t.plu.posted }
          ∧ (t.plu.posted.locked = true ↔ lockedFor p)
          ∧ (t.plu.posted.hours = true ↔ s.plu.windows[k]? = some false)
          ∧ (t.plu.posted.budget = true ↔ p.mode ≠ .none ∧ p.budget ≤ p.used)
          ∧ t.plu.rated (s.cce.presented.map Presentation.service)
          ∧ t.plu.posted.hostMute = s.plu.posted.hostMute
          ∧ (s.plu.override = none → t.rpq = r.rpq ∧ t.scp = s.scp ∧ t.plu.posted.mask = s.plu.posted.mask)
          ∧ (∀ o, s.plu.override = some o → t.rpq = (emit (.overrideEnd .profile o.scope) r).rpq
              ∧ t.scp = { s.scp with target := s.scp.target.filter fun e => !e.isDevice .overrideEnd }
              ∧ t.plu.posted.mask = false)
          ∧ t = { r with
              plu := t.plu, scp := t.scp, rpq := t.rpq
              inFlight := s.inFlight ++ [.profileChange] ++ s.posts t }))
    ∧ (∀ k ceiling blocked policy follow, s.asking tag (.setProfileLimits k ceiling blocked policy follow) n →
      let r := s.replied tag (.setProfileLimits k ceiling blocked policy follow)
      ((3 < k ∨ 7 < ceiling ∨ 15 < blocked ∨ 1 < policy ∨ 1 < follow ∨ (k = 0 ∧ follow = 1)) →
        exec .setProfileLimits s = .next (r .badParam []))
      ∧ (k ≤ 3 → ceiling ≤ 7 → blocked ≤ 15 → policy ≤ 1 → follow ≤ 1 → ¬ (k = 0 ∧ follow = 1) →
        ∃ t, exec .setProfileLimits s = .next t ∧ t.plu.settled
          ∧ t.plu = { s.plu with
              profiles := s.plu.profiles.set k { s.plu.profile k with
                ceiling, blocked := BitVec.ofNat 4 blocked, blockUnrated := policy == 1, follow := follow == 1 }
              current := t.plu.current, accruing := t.plu.accruing
              posted := { s.plu.posted with rating := t.plu.posted.rating } }
          ∧ (k ≠ s.plu.active → (k ≠ 0 ∨ s.plu.activeProfile.follow = false) →
              t.plu.posted = s.plu.posted ∧ t.plu.current = s.plu.current)
          ∧ ((k = s.plu.active ∨ k = 0 ∧ s.plu.activeProfile.follow = true) →
              t.plu.rated (s.cce.presented.map Presentation.service))
          ∧ t = { r .ok [] with plu := t.plu, inFlight := s.inFlight ++ s.posts t }))
    ∧ ∀ k service,
      (s.asking tag (.lockService k service) n →
        let r := s.replied tag (.lockService k service)
        let p := s.plu.profile k
        ((3 < k ∨ service = 0 ∨ 9999 < service) → exec .lockService s = .next (r .badParam []))
        ∧ (k ≤ 3 → 1 ≤ service → service ≤ 9999 →
          (service ∈ p.locked → exec .lockService s = .next (r .duplicate []))
          ∧ (service ∉ p.locked → 16 ≤ p.locked.length → exec .lockService s = .next (r .full []))
          ∧ (service ∉ p.locked → p.locked.length < 16 → ∃ t, exec .lockService s = .next t
            ∧ t.plu = { s.plu with
                profiles := s.plu.profiles.set k { p with locked := p.locked ++ [service] }
                posted := { s.plu.posted with locked := t.plu.posted.locked }, accruing := t.plu.accruing }
            ∧ t.plu.settled
            ∧ (k = s.plu.active → (t.plu.posted.locked = true ↔ lockedFor t.plu.activeProfile))
            ∧ (k ≠ s.plu.active → t.plu.posted = s.plu.posted)
            ∧ t = { r .ok [] with plu := t.plu, inFlight := s.inFlight ++ s.posts t })))
      ∧ (s.asking tag (.unlockService k service) n →
        let r := s.replied tag (.unlockService k service)
        let p := s.plu.profile k
        ((3 < k ∨ service = 0 ∨ 9999 < service) → exec .unlockService s = .next (r .badParam []))
        ∧ (k ≤ 3 → 1 ≤ service → service ≤ 9999 →
          (service ∉ p.locked → exec .unlockService s = .next (r .notFound []))
          ∧ (service ∈ p.locked → ∃ t, exec .unlockService s = .next t
            ∧ t.plu = { s.plu with
                profiles := s.plu.profiles.set k { p with locked := p.locked.filter fun x => x != service }
                posted := { s.plu.posted with locked := t.plu.posted.locked }, accruing := t.plu.accruing }
            ∧ t.plu.settled
            ∧ (k = s.plu.active → (t.plu.posted.locked = true ↔ lockedFor t.plu.activeProfile))
            ∧ (k ≠ s.plu.active → t.plu.posted = s.plu.posted)
            ∧ t = { r .ok [] with plu := t.plu, inFlight := s.inFlight ++ s.posts t })))

/-- OVERRIDE, END_OVERRIDE and OVERRIDE_END_FIRING (R160, R161): the refusals in their order; an override lasts W plus 60 times its
minutes, at most 240, keys OVERRIDE_END, answers its minutes and end, stops the accrual and posts the mask. END_OVERRIDE ends it
with cause ENDED after the reply, and a firing at or after its end with cause EXPIRED; a stale firing changes nothing. The end is
answered exactly, also beyond the last wall second, where the entry's due time is held (R57, R191; log entry 22). -/
def Obligations.OverridesBeginEndAndExpire : Prop :=
  (∀ (s : State) (tag : Byte) (n minutes scope : Nat), s.asking tag (.override minutes scope) n → s.plu.settled →
    let r := s.replied tag (.override minutes scope)
    ((minutes = 0 ∨ 1 < scope) → exec .override s = .next (r .badParam []))
    ∧ (1 ≤ minutes → scope ≤ 1 → s.tmb.wallValid = false → exec .override s = .next (r .noTime []))
    ∧ (1 ≤ minutes → scope = 0 → s.tmb.wallValid = true → s.cce.presented = none →
      exec .override s = .next (r .notWaiting []))
    ∧ ∀ named, 1 ≤ minutes → s.tmb.wallValid = true →
      (scope = 1 ∧ named = none ∨ scope = 0 ∧ ∃ p, s.cce.presented = some p ∧ named = some p.service) →
      let taken := min minutes 240
      let stop := s.tmb.w + 60 * taken
      ∃ t, exec .override s = .next t
        ∧ t.plu = { s.plu with
            override := some { scope := named, stop }, posted := { s.plu.posted with mask := true }, accruing := false }
        ∧ t.scp.target = insertEntry
            { kind := .device .overrideEnd, due := min stop 4294967295, service := named, event := none }
            (s.scp.target.filter fun e => !e.isDevice .overrideEnd)
        ∧ t = { r .ok (beBytes 1 taken ++ beBytes 5 stop) with
            plu := t.plu, scp := { s.scp with target := t.scp.target }, inFlight := s.inFlight ++ s.posts t })
  ∧ ∀ (s : State),
    let ended (cause : OverrideCause) (r t : State) : Prop := ∃ o, s.plu.override = some o ∧ t.plu.settled
      ∧ t.rpq = (emit (.overrideEnd cause o.scope) r).rpq
      ∧ t = { r with
          plu := { s.plu with
            override := none, posted := { s.plu.posted with mask := false }, accruing := t.plu.accruing }
          scp := { s.scp with target := if cause = .expired then s.scp.target
            else s.scp.target.filter fun e => !e.isDevice .overrideEnd }
          rpq := t.rpq, inFlight := r.inFlight ++ s.posts t }
    (∀ tag n, s.asking tag .endOverride n → s.plu.settled →
      (s.plu.override = none → exec .endOverride s = .next (s.replied tag .endOverride .notWaiting []))
      ∧ (s.plu.override ≠ none → ∃ t, exec .endOverride s = .next t
          ∧ ended .ended (s.replied tag .endOverride .ok []) t))
    ∧ ∀ due service event, s.offered (.firing .overrideEnd due service event) →
      let s0 := { s with inFlight := s.others (.firing .overrideEnd due service event) }
      ((∀ o, s.plu.override = some o → s.tmb.w < o.stop) → exec .overrideEndFiring s = .next s0)
      ∧ ((∃ o, s.plu.override = some o ∧ o.stop ≤ s.tmb.w) → ∃ t, exec .overrideEndFiring s = .next t
          ∧ ended .expired s0 t)

/-- HOST_MUTE (R162): on sets the source and off clears it, the PLU posts it, and the reply is OK, also when the source already had
that value; no posting is sent then, since it would change nothing at the gate, by the model's reading (log entry 18). It is set or cleared whatever the override, the context and the profile, and while it is set at the gate the gate
is not OPEN, mask or not. After a warm reset and after a cold start it is clear. -/
def Obligations.HostMuteIsSetClearedAndNeverMasked : Prop :=
  (∀ (s : State) (tag : Byte) (n value : Nat), s.asking tag (.hostMute value) n → value ≤ 1 →
    ∃ t, exec .hostMute s = .next t
      ∧ t.plu.posted = { s.plu.posted with hostMute := value == 1 }
      ∧ t = { s.replied tag (.hostMute value) .ok [] with
          plu := { s.plu with posted := t.plu.posted, accruing := t.plu.accruing }
          inFlight := s.inFlight ++ s.posts t })
  ∧ (∀ (s t : State) (p : PluPosting), s.offered (.pluPosting p) → exec (.gatePosting .plu) s = .next t →
      t.pgt.sources.hostMute = p.hostMute ∧ (p.hostMute = true → t.pgt.isOpen = false))
  ∧ ∀ (s t : State) (cause : ResetCause), cause = .power ∨ (cause = .pin ∧ s.running = true)
      ∨ (cause = .request ∧ s.running = true ∧ resetReplyNext s = true) →
      (exec (.warmReset cause) s = .next t ∨ exec .coldStart s = .next t) →
      t.plu.posted.hostMute = false ∧ t.pgt.sources.hostMute = false

/-- GATE_POSTING and PGT_CONTEXT_CHANGE (R163, R164): the posted sources, the mask or the context stand in the gate record, and
the gate is OPEN exactly while it is PRESENTING and every set source is one the mask covers. GATE_CHANGE is emitted and counted
when the source set or the gate state changes, and only with the gate state do the LOCAL time of the last change and the
hand-over to the PLU go. HOST_MUTE with a value above 1 is refused (R190). -/
def Obligations.TheGateTakesPostingsAndReportsItsChanges : Prop :=
  (∀ (s : State) (h : Handover) (command : Instr) (g : Pgt), s.offered h →
    ((∃ a b, h = .dscPosting a b ∧ command = .gatePosting .dsc
        ∧ g = { s.pgt with sources := { s.pgt.sources with noKey := a, notEntitled := b } })
      ∨ (∃ p, h = .pluPosting p ∧ command = .gatePosting .plu
        ∧ g = { s.pgt with
            mask := p.mask
            sources := { s.pgt.sources with rating := p.rating, locked := p.locked, hours := p.hours
                                            budget := p.budget, hostMute := p.hostMute } })
      ∨ (∃ cause service stream, h = .context .pgt cause service stream ∧ command = .pgtContextChange
        ∧ g = { s.pgt with presented := service })) →
    ∃ t, exec command s = .next t
      ∧ (t.pgt.isOpen = true ↔ g.presented ≠ none ∧ g.sources.noKey = false ∧ g.sources.notEntitled = false
          ∧ g.sources.hostMute = false ∧ (g.mask = true ∨ g.sources.rating = false ∧ g.sources.locked = false
            ∧ g.sources.hours = false ∧ g.sources.budget = false))
      ∧ t.pgt = { g with
          isOpen := t.pgt.isOpen
          lastChange := if t.pgt.isOpen = s.pgt.isOpen then s.pgt.lastChange else s.tmb.localTime
          emitted := if g.sources = s.pgt.sources ∧ t.pgt.isOpen = s.pgt.isOpen then s.pgt.emitted
            else satInc max32 s.pgt.emitted }
      ∧ t.rpq = (if g.sources = s.pgt.sources ∧ t.pgt.isOpen = s.pgt.isOpen then s.rpq
          else (emit (.gateChange s.pgt.sources g.sources s.pgt.isOpen t.pgt.isOpen g.mask g.presented) s).rpq)
      ∧ t.inFlight = s.others h ++ (if t.pgt.isOpen = s.pgt.isOpen then [] else [.gateState t.pgt.isOpen])
      ∧ t = { s with pgt := t.pgt, rpq := t.rpq, inFlight := t.inFlight })
  ∧ ∀ (s : State) (tag : Byte) (n value : Nat), s.asking tag (.hostMute value) n → s.plu.settled → 1 < value →
    exec .hostMute s = .next (s.replied tag (.hostMute value) .badParam [])

/-! ### The guide window -/

/-- GWN_WALL_SET (R168) sets the start to the current half hour and the cursor time to W where there is no start. GRID_SET (R170):
the refusals in their order, and otherwise rows, columns and start brought within their limits, the top row at the first
service at or above the given one, the cursor in the top row at W or at the start, and a reply of the values applied, whose kept
top row is given as it is stored by the model's choice (log entry 42). -/
def Obligations.TheWindowIsPlacedWithinItsLimits : Prop :=
  (∀ (s : State), s.offered (.wallSet .gwn) →
    let s0 := { s with inFlight := s.others (.wallSet .gwn) }
    (s.gwn.start = none → exec .gwnWallSet s = .next { s0 with gwn := { s.gwn with
      start := some (s.tmb.w / 1800 * 1800), cursorTime := some s.tmb.w } })
    ∧ (s.gwn.start ≠ none → exec .gwnWallSet s = .next s0))
  ∧ ∀ (s : State) (tag : Byte) (n top rows columns start : Nat), s.asking tag (.gridSet top rows columns start) n →
    let r := s.replied tag (.gridSet top rows columns start)
    let ring := s.sdr.services.filter fun x => !x.hidden
    let early := s.tmb.w / 1800 * 1800
    (9999 < top → exec .gridSet s = .next (r .badParam []))
    ∧ (top ≤ 9999 → (s.tmb.wallValid = false ∨ s.gwn.start = none) → exec .gridSet s = .next (r .noTime []))
    ∧ (top ≤ 9999 → s.tmb.wallValid = true → s.gwn.start ≠ none →
      ∃ t start' cursor, exec .gridSet s = .next t
        ∧ t.gwn = { top := t.gwn.top, rows := max 1 (min 10 rows), start := some start'
                    columns := max 1 (min 6 columns), cursorRow := 0, cursorTime := some cursor }
        ∧ start' % 1800 = 0 ∧ early ≤ start' ∧ start' ≤ early + 1209600
        ∧ (early ≤ start → start < early + 1209600 + 1800 → start' ≤ start ∧ start < start' + 1800)
        ∧ (start < early → start' = early) ∧ (early + 1209600 ≤ start → start' = early + 1209600)
        ∧ (start' ≤ s.tmb.w → s.tmb.w < start' + 1800 * t.gwn.columns → cursor = s.tmb.w)
        ∧ ((s.tmb.w < start' ∨ start' + 1800 * t.gwn.columns ≤ s.tmb.w) → cursor = start')
        ∧ (top = 0 → t.gwn.top = s.gwn.top)
        ∧ (1 ≤ top → (∀ x ∈ ring, x.number < top) → t.gwn.top = 0)
        ∧ (1 ≤ top → (∃ x ∈ ring, top ≤ x.number) →
            (∃ x, ring[t.gwn.top]? = some x ∧ top ≤ x.number)
            ∧ ∀ k x, k < t.gwn.top → ring[k]? = some x → x.number < top)
        ∧ t = { r .ok (beBytes 1 t.gwn.top
              ++ (match ring[t.gwn.top % ring.length]? with
                | some x => 1#8 :: beBytes 2 x.number
                | none => [0#8, 0#8, 0#8])
              ++ beBytes 1 t.gwn.rows ++ beBytes 1 t.gwn.columns ++ beBytes 5 start'
              ++ [0#8] ++ beBytes 5 cursor) with gwn := t.gwn })

/-- CURSOR_MOVE (R171 to R173): refused for another direction, without a start, and for a vertical move in an empty ring. Otherwise
rows and columns stand, the record is normalised, the move is made, and the normalised start is scrolled by the fewest half hours
that put the cursor time into the window. UP and DOWN move the cursor row or turn the ring by one, the page moves turn it by the
visible rows. LEFT and RIGHT move the cursor time to the previous or the next programme of the cursor's service, read in start
order, or by 1,800 seconds, within the limits. The reply carries top row, cursor row, service, cursor time and start. GRID_READ (R174
to R176) answers one record for each visible row, in order, all but the last with the more-flag, or one empty record for an empty
ring: the row, the window, and up to 12 spans with their minutes and their eight attributes. That the span count stands before
the truncated flag and again as the list's count byte is the model's coding (log entry 23). -/
def Obligations.CursorMovesKeepTheCursorInTheWindowAndGridReadShowsTheRows : Prop :=
  let orNone (x : Option Service) : List Byte := match x with
    | some x => 1#8 :: beBytes 2 x.number
    | none => [0#8, 0#8, 0#8]
  (∀ (s : State) (tag : Byte) (n code : Nat), s.asking tag (.cursorMove code) n →
    let r := s.replied tag (.cursorMove code)
    let ring := s.sdr.services.filter fun x => !x.hidden
    let early := s.tmb.w / 1800 * 1800
    (5 < code → exec .cursorMove s = .next (r .badParam []))
    ∧ (code ≤ 5 → (s.tmb.wallValid = false ∨ s.gwn.start = none) → exec .cursorMove s = .next (r .noTime []))
    ∧ (code ≤ 5 → code ≠ 2 → code ≠ 3 → s.tmb.wallValid = true → s.gwn.start ≠ none → ring = [] →
      exec .cursorMove s = .next (r .notFound []))
    ∧ ∀ start cursor, code ≤ 5 → s.tmb.wallValid = true → s.gwn.start = some start → start % 1800 = 0 →
      s.gwn.cursorTime = some cursor → 1 ≤ s.gwn.columns → 1 ≤ s.gwn.rows → (ring ≠ [] ∨ code = 2 ∨ code = 3) →
      let v := min s.gwn.rows ring.length
      let top := if ring = [] then s.gwn.top else s.gwn.top % ring.length
      let row := if ring = [] then s.gwn.cursorRow else min s.gwn.cursorRow (v - 1)
      let limit := early + 1209600 + 1800 * s.gwn.columns - 1
      let from' := max early (min (early + 1209600) start)
      let at' := max early (min limit cursor)
      let own := s.gds.events.filter fun e => some e.service == (ring[(top + row) % ring.length]?).map Service.number
      let running := own.find? fun e => decide (e.start ≤ at' ∧ at' < e.start + e.duration)
      let following := match running with
        | some e => own.find? fun x => decide (e.start + e.duration ≤ x.start)
        | none => own.find? fun x => decide (at' < x.start)
      let previous := (own.filter fun x => decide (x.start < (running.map GuideEvent.start).getD at')).getLast?
      ∃ t start' cursor', exec .cursorMove s = .next t
        ∧ t.gwn = { s.gwn with
            top := t.gwn.top, cursorRow := t.gwn.cursorRow, start := some start', cursorTime := some cursor' }
        ∧ start' % 1800 = 0 ∧ early ≤ start' ∧ start' ≤ early + 1209600
        ∧ start' ≤ cursor' ∧ cursor' < start' + 1800 * s.gwn.columns
        ∧ (from' ≤ start' → start' = from' ∨ start' + 1800 * s.gwn.columns ≤ cursor' + 1800)
        ∧ (start' ≤ from' → start' = from' ∨ cursor' < start' + 1800)
        ∧ early ≤ cursor' ∧ cursor' ≤ limit
        ∧ (code ≠ 2 → code ≠ 3 → cursor' = at')
        ∧ (code = 2 ∨ code = 3 → t.gwn.top = top ∧ t.gwn.cursorRow = row)
        ∧ (code = 0 → (0 < row → t.gwn.top = top ∧ t.gwn.cursorRow = row - 1)
            ∧ (row = 0 → t.gwn.top = (top + ring.length - 1) % ring.length ∧ t.gwn.cursorRow = 0))
        ∧ (code = 1 → (row < v - 1 → t.gwn.top = top ∧ t.gwn.cursorRow = row + 1)
            ∧ (row = v - 1 → t.gwn.top = (top + 1) % ring.length ∧ t.gwn.cursorRow = v - 1))
        ∧ (code = 4 → t.gwn.top = (top + ring.length - v) % ring.length ∧ t.gwn.cursorRow = row)
        ∧ (code = 5 → t.gwn.top = (top + v) % ring.length ∧ t.gwn.cursorRow = row)
        ∧ (code = 2 → (previous = none → cursor' = max early (at' - 1800))
            ∧ ∀ e, previous = some e → cursor' = max early e.start)
        ∧ (code = 3 → (∀ e, following = some e → e.start ≤ limit → cursor' = e.start)
            ∧ ((∀ e, following = some e → limit < e.start) → cursor' = min limit (at' + 1800)))
        ∧ t = { r .ok (beBytes 1 t.gwn.top ++ beBytes 1 t.gwn.cursorRow
              ++ orNone ring[(t.gwn.top + t.gwn.cursorRow) % ring.length]?
              ++ beBytes 5 cursor' ++ beBytes 5 start') with gwn := t.gwn })
  ∧ ∀ (s : State) (tag : Byte) (n : Nat), s.asking tag .gridRead n →
    let ring := s.sdr.services.filter fun x => !x.hidden
    let v := min s.gwn.rows ring.length
    ((s.tmb.wallValid = false ∨ s.gwn.start = none) →
      exec .gridRead s = .next (s.replied tag .gridRead .noTime []))
    ∧ ∀ s0, s.tmb.wallValid = true → s.gwn.start = some s0 →
      (ring = [] → exec .gridRead s = .next (s.replied tag .gridRead .ok []))
      ∧ (ring ≠ [] → 1 ≤ s.gwn.rows → ∃ t records, exec .gridRead s = .next t
        ∧ records.length = v
        ∧ (∀ k, k < v → ∃ data x, records[k]? = some (Record.reply 0x62#8 tag .ok (decide (k + 1 < v)) false data)
            ∧ ring[(s.gwn.top + k) % ring.length]? = some x
            ∧ let s1 := s0 + 1800 * s.gwn.columns
              let shown := s.gds.events.filter fun e => decide (e.service = x.number
                ∧ s0 < e.start + e.duration ∧ e.start < s1)
              let from' (e : GuideEvent) : Nat := (max e.start s0 - s0) / 60
              let to' (e : GuideEvent) : Nat := (min (e.start + e.duration) s1 - s0 + 59) / 60
              let contains (e : GuideEvent) (second : Nat) : Prop := e.start ≤ second ∧ second < e.start + e.duration
              ∃ attributes : GuideEvent → Byte,
                data = beBytes 1 k ++ beBytes 1 ((s.gwn.top + k) % ring.length) ++ beBytes 2 x.number
                  ++ (BitVec.ofNat 8 x.name.length :: x.name)
                  ++ [if k = min s.gwn.cursorRow (v - 1) then 1#8 else 0#8,
                      if s.gds.services.any fun g => g.number == x.number then 0#8 else 1#8]
                  ++ beBytes 5 s0 ++ beBytes 1 s.gwn.columns
                  ++ [BitVec.ofNat 8 (min 12 shown.length), if 12 < shown.length then 1#8 else 0#8,
                      BitVec.ofNat 8 (min 12 shown.length)]
                  ++ (shown.take 12).flatMap (fun e => beBytes 2 e.id
                    ++ [BitVec.ofNat 8 (from' e), BitVec.ofNat 8 (to' e - from' e), attributes e])
                ∧ ∀ e, ((attributes e).getLsbD 0 = true ↔ k = min s.gwn.cursorRow (v - 1)
                      ∧ ∃ second, s.gwn.cursorTime = some second ∧ contains e second)
                  ∧ ((attributes e).getLsbD 1 = true ↔ contains e s.tmb.w)
                  ∧ ((attributes e).getLsbD 2 = true ↔ ∃ y ∈ s.scp.target, y.reminderId ≠ none
                      ∧ y.service = some e.service ∧ y.event = some e.id)
                  ∧ ((attributes e).getLsbD 3 = true ↔ s.plu.ratingFails e.age e.flags = true
                      ∨ x.number ∈ s.plu.activeProfile.locked)
                  ∧ ((attributes e).getLsbD 4 = true ↔ x.tiers ≠ [] ∧ ∀ tier ∈ x.tiers, ∀ y ∈ s.enu.table,
                      y.tier = tier → y.expiry ≠ 4294967295 ∧ y.expiry ≤ s.tmb.w)
                  ∧ ((attributes e).getLsbD 5 = true ↔ ∃ g ∈ s.enu.grants, g.service = e.service ∧ g.event = e.id
                      ∧ (g.expiry = 4294967295 ∨ s.tmb.w < g.expiry))
                  ∧ ((attributes e).getLsbD 6 = true ↔ e.start < s0)
                  ∧ ((attributes e).getLsbD 7 = true ↔ s1 < e.start + e.duration))
        ∧ t = { s with
            rqh := { s.rqh with inProgress := none }
            rpq := { s.rpq with queue := s.rpq.queue ++ records } })
end

