-- ==== Sys2Proof/Laws/State.lean ====
section
/-! SUPPORT. For each plain update of the part's state, what every field reads after it. -/

namespace Sys2Proof.Machine

@[simp] theorem send_cin (h : Handover) (s : State) : (send h s).cin = s.cin := rfl
@[simp] theorem send_routes (h : Handover) (s : State) : (send h s).routes = s.routes := rfl
@[simp] theorem send_queues (h : Handover) (s : State) : (send h s).queues = s.queues := rfl
@[simp] theorem send_tmb (h : Handover) (s : State) : (send h s).tmb = s.tmb := rfl
@[simp] theorem send_scp (h : Handover) (s : State) : (send h s).scp = s.scp := rfl
@[simp] theorem send_sdr (h : Handover) (s : State) : (send h s).sdr = s.sdr := rfl
@[simp] theorem send_cce (h : Handover) (s : State) : (send h s).cce = s.cce := rfl
@[simp] theorem send_dsc (h : Handover) (s : State) : (send h s).dsc = s.dsc := rfl
@[simp] theorem send_enu (h : Handover) (s : State) : (send h s).enu = s.enu := rfl
@[simp] theorem send_gds (h : Handover) (s : State) : (send h s).gds = s.gds := rfl
@[simp] theorem send_plu (h : Handover) (s : State) : (send h s).plu = s.plu := rfl
@[simp] theorem send_pgt (h : Handover) (s : State) : (send h s).pgt = s.pgt := rfl
@[simp] theorem send_gwn (h : Handover) (s : State) : (send h s).gwn = s.gwn := rfl
@[simp] theorem send_rqh (h : Handover) (s : State) : (send h s).rqh = s.rqh := rfl
@[simp] theorem send_rpq (h : Handover) (s : State) : (send h s).rpq = s.rpq := rfl
@[simp] theorem send_lanes (h : Handover) (s : State) : (send h s).lanes = s.lanes := rfl
@[simp] theorem send_rts (h : Handover) (s : State) : (send h s).rts = s.rts := rfl
@[simp] theorem send_power (h : Handover) (s : State) : (send h s).power = s.power := rfl
@[simp] theorem send_inFlight (h : Handover) (s : State) : (send h s).inFlight = s.inFlight ++ [h] := rfl
@[simp] theorem send_draws (h : Handover) (s : State) : (send h s).draws = s.draws := rfl
@[simp] theorem send_pending (h : Handover) (s : State) : (send h s).pending = s.pending := rfl

@[simp] theorem sendAll_cin (hs : List Handover) (s : State) : (sendAll hs s).cin = s.cin := rfl
@[simp] theorem sendAll_routes (hs : List Handover) (s : State) : (sendAll hs s).routes = s.routes := rfl
@[simp] theorem sendAll_queues (hs : List Handover) (s : State) : (sendAll hs s).queues = s.queues := rfl
@[simp] theorem sendAll_tmb (hs : List Handover) (s : State) : (sendAll hs s).tmb = s.tmb := rfl
@[simp] theorem sendAll_scp (hs : List Handover) (s : State) : (sendAll hs s).scp = s.scp := rfl
@[simp] theorem sendAll_sdr (hs : List Handover) (s : State) : (sendAll hs s).sdr = s.sdr := rfl
@[simp] theorem sendAll_cce (hs : List Handover) (s : State) : (sendAll hs s).cce = s.cce := rfl
@[simp] theorem sendAll_dsc (hs : List Handover) (s : State) : (sendAll hs s).dsc = s.dsc := rfl
@[simp] theorem sendAll_enu (hs : List Handover) (s : State) : (sendAll hs s).enu = s.enu := rfl
@[simp] theorem sendAll_gds (hs : List Handover) (s : State) : (sendAll hs s).gds = s.gds := rfl
@[simp] theorem sendAll_plu (hs : List Handover) (s : State) : (sendAll hs s).plu = s.plu := rfl
@[simp] theorem sendAll_pgt (hs : List Handover) (s : State) : (sendAll hs s).pgt = s.pgt := rfl
@[simp] theorem sendAll_gwn (hs : List Handover) (s : State) : (sendAll hs s).gwn = s.gwn := rfl
@[simp] theorem sendAll_rqh (hs : List Handover) (s : State) : (sendAll hs s).rqh = s.rqh := rfl
@[simp] theorem sendAll_rpq (hs : List Handover) (s : State) : (sendAll hs s).rpq = s.rpq := rfl
@[simp] theorem sendAll_lanes (hs : List Handover) (s : State) : (sendAll hs s).lanes = s.lanes := rfl
@[simp] theorem sendAll_rts (hs : List Handover) (s : State) : (sendAll hs s).rts = s.rts := rfl
@[simp] theorem sendAll_power (hs : List Handover) (s : State) : (sendAll hs s).power = s.power := rfl
@[simp] theorem sendAll_inFlight (hs : List Handover) (s : State) : (sendAll hs s).inFlight = s.inFlight ++ hs := rfl
@[simp] theorem sendAll_draws (hs : List Handover) (s : State) : (sendAll hs s).draws = s.draws := rfl
@[simp] theorem sendAll_pending (hs : List Handover) (s : State) : (sendAll hs s).pending = s.pending := rfl

@[simp] theorem taking_cin (c : Channel) (s : State) : (s.taking c).cin = s.cin := rfl
@[simp] theorem taking_routes (c : Channel) (s : State) : (s.taking c).routes = s.routes := rfl
@[simp] theorem taking_queues (c : Channel) (s : State) : (s.taking c).queues = s.queues := rfl
@[simp] theorem taking_tmb (c : Channel) (s : State) : (s.taking c).tmb = s.tmb := rfl
@[simp] theorem taking_scp (c : Channel) (s : State) : (s.taking c).scp = s.scp := rfl
@[simp] theorem taking_sdr (c : Channel) (s : State) : (s.taking c).sdr = s.sdr := rfl
@[simp] theorem taking_cce (c : Channel) (s : State) : (s.taking c).cce = s.cce := rfl
@[simp] theorem taking_dsc (c : Channel) (s : State) : (s.taking c).dsc = s.dsc := rfl
@[simp] theorem taking_enu (c : Channel) (s : State) : (s.taking c).enu = s.enu := rfl
@[simp] theorem taking_gds (c : Channel) (s : State) : (s.taking c).gds = s.gds := rfl
@[simp] theorem taking_plu (c : Channel) (s : State) : (s.taking c).plu = s.plu := rfl
@[simp] theorem taking_pgt (c : Channel) (s : State) : (s.taking c).pgt = s.pgt := rfl
@[simp] theorem taking_gwn (c : Channel) (s : State) : (s.taking c).gwn = s.gwn := rfl
@[simp] theorem taking_rqh (c : Channel) (s : State) : (s.taking c).rqh = s.rqh := rfl
@[simp] theorem taking_rpq (c : Channel) (s : State) : (s.taking c).rpq = s.rpq := rfl
@[simp] theorem taking_lanes (c : Channel) (s : State) : (s.taking c).lanes = s.lanes := rfl
@[simp] theorem taking_rts (c : Channel) (s : State) : (s.taking c).rts = s.rts := rfl
@[simp] theorem taking_power (c : Channel) (s : State) : (s.taking c).power = s.power := rfl
@[simp] theorem taking_inFlight (c : Channel) (s : State) : (s.taking c).inFlight = s.inFlight.eraseP fun h => h.channel == c := rfl
@[simp] theorem taking_draws (c : Channel) (s : State) : (s.taking c).draws = s.draws := rfl
@[simp] theorem taking_pending (c : Channel) (s : State) : (s.taking c).pending = s.pending := rfl

@[simp] theorem clearEntry_cin (k : DeviceKind) (s : State) : (clearEntry k s).cin = s.cin := rfl
@[simp] theorem clearEntry_routes (k : DeviceKind) (s : State) : (clearEntry k s).routes = s.routes := rfl
@[simp] theorem clearEntry_queues (k : DeviceKind) (s : State) : (clearEntry k s).queues = s.queues := rfl
@[simp] theorem clearEntry_tmb (k : DeviceKind) (s : State) : (clearEntry k s).tmb = s.tmb := rfl
@[simp] theorem clearEntry_scp (k : DeviceKind) (s : State) : (clearEntry k s).scp = { s.scp with target := removeDevice k s.scp.target } := rfl
@[simp] theorem clearEntry_sdr (k : DeviceKind) (s : State) : (clearEntry k s).sdr = s.sdr := rfl
@[simp] theorem clearEntry_cce (k : DeviceKind) (s : State) : (clearEntry k s).cce = s.cce := rfl
@[simp] theorem clearEntry_dsc (k : DeviceKind) (s : State) : (clearEntry k s).dsc = s.dsc := rfl
@[simp] theorem clearEntry_enu (k : DeviceKind) (s : State) : (clearEntry k s).enu = s.enu := rfl
@[simp] theorem clearEntry_gds (k : DeviceKind) (s : State) : (clearEntry k s).gds = s.gds := rfl
@[simp] theorem clearEntry_plu (k : DeviceKind) (s : State) : (clearEntry k s).plu = s.plu := rfl
@[simp] theorem clearEntry_pgt (k : DeviceKind) (s : State) : (clearEntry k s).pgt = s.pgt := rfl
@[simp] theorem clearEntry_gwn (k : DeviceKind) (s : State) : (clearEntry k s).gwn = s.gwn := rfl
@[simp] theorem clearEntry_rqh (k : DeviceKind) (s : State) : (clearEntry k s).rqh = s.rqh := rfl
@[simp] theorem clearEntry_rpq (k : DeviceKind) (s : State) : (clearEntry k s).rpq = s.rpq := rfl
@[simp] theorem clearEntry_lanes (k : DeviceKind) (s : State) : (clearEntry k s).lanes = s.lanes := rfl
@[simp] theorem clearEntry_rts (k : DeviceKind) (s : State) : (clearEntry k s).rts = s.rts := rfl
@[simp] theorem clearEntry_power (k : DeviceKind) (s : State) : (clearEntry k s).power = s.power := rfl
@[simp] theorem clearEntry_inFlight (k : DeviceKind) (s : State) : (clearEntry k s).inFlight = s.inFlight := rfl
@[simp] theorem clearEntry_draws (k : DeviceKind) (s : State) : (clearEntry k s).draws = s.draws := rfl
@[simp] theorem clearEntry_pending (k : DeviceKind) (s : State) : (clearEntry k s).pending = s.pending := rfl

@[simp] theorem withPending_cin (rest : List Instr) (s : State) : (s.withPending rest).cin = s.cin := rfl
@[simp] theorem withPending_routes (rest : List Instr) (s : State) : (s.withPending rest).routes = s.routes := rfl
@[simp] theorem withPending_queues (rest : List Instr) (s : State) : (s.withPending rest).queues = s.queues := rfl
@[simp] theorem withPending_tmb (rest : List Instr) (s : State) : (s.withPending rest).tmb = s.tmb := rfl
@[simp] theorem withPending_scp (rest : List Instr) (s : State) : (s.withPending rest).scp = s.scp := rfl
@[simp] theorem withPending_sdr (rest : List Instr) (s : State) : (s.withPending rest).sdr = s.sdr := rfl
@[simp] theorem withPending_cce (rest : List Instr) (s : State) : (s.withPending rest).cce = s.cce := rfl
@[simp] theorem withPending_dsc (rest : List Instr) (s : State) : (s.withPending rest).dsc = s.dsc := rfl
@[simp] theorem withPending_enu (rest : List Instr) (s : State) : (s.withPending rest).enu = s.enu := rfl
@[simp] theorem withPending_gds (rest : List Instr) (s : State) : (s.withPending rest).gds = s.gds := rfl
@[simp] theorem withPending_plu (rest : List Instr) (s : State) : (s.withPending rest).plu = s.plu := rfl
@[simp] theorem withPending_pgt (rest : List Instr) (s : State) : (s.withPending rest).pgt = s.pgt := rfl
@[simp] theorem withPending_gwn (rest : List Instr) (s : State) : (s.withPending rest).gwn = s.gwn := rfl
@[simp] theorem withPending_rqh (rest : List Instr) (s : State) : (s.withPending rest).rqh = s.rqh := rfl
@[simp] theorem withPending_rpq (rest : List Instr) (s : State) : (s.withPending rest).rpq = s.rpq := rfl
@[simp] theorem withPending_lanes (rest : List Instr) (s : State) : (s.withPending rest).lanes = s.lanes := rfl
@[simp] theorem withPending_rts (rest : List Instr) (s : State) : (s.withPending rest).rts = s.rts := rfl
@[simp] theorem withPending_power (rest : List Instr) (s : State) : (s.withPending rest).power = s.power := rfl
@[simp] theorem withPending_inFlight (rest : List Instr) (s : State) : (s.withPending rest).inFlight = s.inFlight := rfl
@[simp] theorem withPending_draws (rest : List Instr) (s : State) : (s.withPending rest).draws = s.draws := rfl
@[simp] theorem withPending_pending (rest : List Instr) (s : State) : (s.withPending rest).pending = rest := rfl

end Sys2Proof.Machine
end

