-- ==== Sys2Proof/Laws/Frames.lean ====
section
/-! SUPPORT. The frame of every operation of the part: the fields of State that it leaves as they were, once for each. A
proof about a command cites these instead of unfolding the operations under it. -/

namespace Sys2Proof.Machine

variable (s : State)

/-! ### Shared operations -/

@[simp] theorem emit_frame (e : Event) :
    (emit e s).cin = s.cin ∧ (emit e s).routes = s.routes ∧ (emit e s).queues = s.queues ∧ (emit e s).tmb =
    s.tmb ∧ (emit e s).scp = s.scp ∧ (emit e s).sdr = s.sdr ∧ (emit e s).cce = s.cce ∧ (emit e s).dsc = s.dsc ∧
    (emit e s).enu = s.enu ∧ (emit e s).gds = s.gds ∧ (emit e s).plu = s.plu ∧ (emit e s).pgt = s.pgt ∧ (emit e
    s).gwn = s.gwn ∧ (emit e s).rqh = s.rqh ∧ (emit e s).lanes = s.lanes ∧ (emit e s).rts = s.rts ∧ (emit e
    s).power = s.power ∧ (emit e s).inFlight = s.inFlight ∧ (emit e s).draws = s.draws ∧ (emit e s).pending =
    s.pending := by
  simp only [emit]
  (repeat' split) <;> simp

@[simp] theorem emitAll_frame (es : List Event) :
    (emitAll es s).cin = s.cin ∧ (emitAll es s).routes = s.routes ∧ (emitAll es s).queues = s.queues ∧ (emitAll
    es s).tmb = s.tmb ∧ (emitAll es s).scp = s.scp ∧ (emitAll es s).sdr = s.sdr ∧ (emitAll es s).cce = s.cce ∧
    (emitAll es s).dsc = s.dsc ∧ (emitAll es s).enu = s.enu ∧ (emitAll es s).gds = s.gds ∧ (emitAll es s).plu =
    s.plu ∧ (emitAll es s).pgt = s.pgt ∧ (emitAll es s).gwn = s.gwn ∧ (emitAll es s).rqh = s.rqh ∧ (emitAll es
    s).lanes = s.lanes ∧ (emitAll es s).rts = s.rts ∧ (emitAll es s).power = s.power ∧ (emitAll es s).inFlight =
    s.inFlight ∧ (emitAll es s).draws = s.draws ∧ (emitAll es s).pending = s.pending := by
  unfold emitAll
  induction es generalizing s with
  | nil => simp
  | cons e es ih => simp [ih]

@[simp] theorem answerRecords_frame (r : Result) (m : Bool) (ds : List (List Byte)) :
    (answerRecords r m ds s).cin = s.cin ∧ (answerRecords r m ds s).routes = s.routes ∧ (answerRecords r m ds
    s).queues = s.queues ∧ (answerRecords r m ds s).tmb = s.tmb ∧ (answerRecords r m ds s).scp = s.scp ∧
    (answerRecords r m ds s).sdr = s.sdr ∧ (answerRecords r m ds s).cce = s.cce ∧ (answerRecords r m ds s).dsc =
    s.dsc ∧ (answerRecords r m ds s).enu = s.enu ∧ (answerRecords r m ds s).gds = s.gds ∧ (answerRecords r m ds
    s).plu = s.plu ∧ (answerRecords r m ds s).pgt = s.pgt ∧ (answerRecords r m ds s).gwn = s.gwn ∧
    (answerRecords r m ds s).lanes = s.lanes ∧ (answerRecords r m ds s).rts = s.rts ∧ (answerRecords r m ds
    s).power = s.power ∧ (answerRecords r m ds s).inFlight = s.inFlight ∧ (answerRecords r m ds s).draws =
    s.draws ∧ (answerRecords r m ds s).pending = s.pending := by
  simp only [answerRecords]
  (repeat' split) <;> simp

@[simp] theorem answer_frame (r : Result) (d : List Byte) :
    (answer r d s).cin = s.cin ∧ (answer r d s).routes = s.routes ∧ (answer r d s).queues = s.queues ∧ (answer r
    d s).tmb = s.tmb ∧ (answer r d s).scp = s.scp ∧ (answer r d s).sdr = s.sdr ∧ (answer r d s).cce = s.cce ∧
    (answer r d s).dsc = s.dsc ∧ (answer r d s).enu = s.enu ∧ (answer r d s).gds = s.gds ∧ (answer r d s).plu =
    s.plu ∧ (answer r d s).pgt = s.pgt ∧ (answer r d s).gwn = s.gwn ∧ (answer r d s).lanes = s.lanes ∧ (answer r
    d s).rts = s.rts ∧ (answer r d s).power = s.power ∧ (answer r d s).inFlight = s.inFlight ∧ (answer r d
    s).draws = s.draws ∧ (answer r d s).pending = s.pending := by
  simp [answer]

@[simp] theorem reply_frame (r : Result) :
    (reply r s).cin = s.cin ∧ (reply r s).routes = s.routes ∧ (reply r s).queues = s.queues ∧ (reply r s).tmb =
    s.tmb ∧ (reply r s).scp = s.scp ∧ (reply r s).sdr = s.sdr ∧ (reply r s).cce = s.cce ∧ (reply r s).dsc =
    s.dsc ∧ (reply r s).enu = s.enu ∧ (reply r s).gds = s.gds ∧ (reply r s).plu = s.plu ∧ (reply r s).pgt =
    s.pgt ∧ (reply r s).gwn = s.gwn ∧ (reply r s).lanes = s.lanes ∧ (reply r s).rts = s.rts ∧ (reply r s).power
    = s.power ∧ (reply r s).inFlight = s.inFlight ∧ (reply r s).draws = s.draws ∧ (reply r s).pending =
    s.pending := by
  simp [reply]

@[simp] theorem keyEntry_frame (k : DeviceKind) (due : Nat) (n e : Option Nat) :
    (keyEntry k due n e s).cin = s.cin ∧ (keyEntry k due n e s).routes = s.routes ∧ (keyEntry k due n e
    s).queues = s.queues ∧ (keyEntry k due n e s).tmb = s.tmb ∧ (keyEntry k due n e s).sdr = s.sdr ∧ (keyEntry k
    due n e s).cce = s.cce ∧ (keyEntry k due n e s).dsc = s.dsc ∧ (keyEntry k due n e s).enu = s.enu ∧ (keyEntry
    k due n e s).gds = s.gds ∧ (keyEntry k due n e s).plu = s.plu ∧ (keyEntry k due n e s).pgt = s.pgt ∧
    (keyEntry k due n e s).gwn = s.gwn ∧ (keyEntry k due n e s).rqh = s.rqh ∧ (keyEntry k due n e s).rpq = s.rpq
    ∧ (keyEntry k due n e s).lanes = s.lanes ∧ (keyEntry k due n e s).rts = s.rts ∧ (keyEntry k due n e s).power
    = s.power ∧ (keyEntry k due n e s).inFlight = s.inFlight ∧ (keyEntry k due n e s).draws = s.draws ∧
    (keyEntry k due n e s).pending = s.pending := by
  simp only [keyEntry]
  (repeat' split) <;> simp

@[simp] theorem postDsc_frame (x y : Bool) :
    (postDsc x y s).cin = s.cin ∧ (postDsc x y s).routes = s.routes ∧ (postDsc x y s).queues = s.queues ∧
    (postDsc x y s).tmb = s.tmb ∧ (postDsc x y s).scp = s.scp ∧ (postDsc x y s).sdr = s.sdr ∧ (postDsc x y
    s).cce = s.cce ∧ (postDsc x y s).enu = s.enu ∧ (postDsc x y s).gds = s.gds ∧ (postDsc x y s).plu = s.plu ∧
    (postDsc x y s).pgt = s.pgt ∧ (postDsc x y s).gwn = s.gwn ∧ (postDsc x y s).rqh = s.rqh ∧ (postDsc x y
    s).rpq = s.rpq ∧ (postDsc x y s).lanes = s.lanes ∧ (postDsc x y s).rts = s.rts ∧ (postDsc x y s).power =
    s.power ∧ (postDsc x y s).draws = s.draws ∧ (postDsc x y s).pending = s.pending := by
  simp only [postDsc]
  (repeat' split) <;> simp

/-! ### Routes and the assembler -/

@[simp] theorem displaceHosts_frame :
    (displaceHosts s).cin = s.cin ∧ (displaceHosts s).queues = s.queues ∧ (displaceHosts s).tmb = s.tmb ∧
    (displaceHosts s).scp = s.scp ∧ (displaceHosts s).sdr = s.sdr ∧ (displaceHosts s).cce = s.cce ∧
    (displaceHosts s).dsc = s.dsc ∧ (displaceHosts s).enu = s.enu ∧ (displaceHosts s).gds = s.gds ∧
    (displaceHosts s).plu = s.plu ∧ (displaceHosts s).pgt = s.pgt ∧ (displaceHosts s).gwn = s.gwn ∧
    (displaceHosts s).rqh = s.rqh ∧ (displaceHosts s).lanes = s.lanes ∧ (displaceHosts s).rts = s.rts ∧
    (displaceHosts s).power = s.power ∧ (displaceHosts s).inFlight = s.inFlight ∧ (displaceHosts s).draws =
    s.draws ∧ (displaceHosts s).pending = s.pending := by
  simp [displaceHosts]

@[simp] theorem assemble_frame (k : Nat) (c : Cell) :
    (assemble k c s).cin = s.cin ∧ (assemble k c s).tmb = s.tmb ∧ (assemble k c s).scp = s.scp ∧ (assemble k c
    s).sdr = s.sdr ∧ (assemble k c s).cce = s.cce ∧ (assemble k c s).dsc = s.dsc ∧ (assemble k c s).enu = s.enu
    ∧ (assemble k c s).gds = s.gds ∧ (assemble k c s).plu = s.plu ∧ (assemble k c s).pgt = s.pgt ∧ (assemble k c
    s).gwn = s.gwn ∧ (assemble k c s).rqh = s.rqh ∧ (assemble k c s).rpq = s.rpq ∧ (assemble k c s).lanes =
    s.lanes ∧ (assemble k c s).rts = s.rts ∧ (assemble k c s).power = s.power ∧ (assemble k c s).inFlight =
    s.inFlight ∧ (assemble k c s).draws = s.draws ∧ (assemble k c s).pending = s.pending := by
  simp only [assemble]
  (repeat' split) <;> simp

@[simp] theorem addRoute_frame (p n : Nat) :
    (addRoute p n s).cin = s.cin ∧ (addRoute p n s).queues = s.queues ∧ (addRoute p n s).tmb = s.tmb ∧ (addRoute
    p n s).scp = s.scp ∧ (addRoute p n s).sdr = s.sdr ∧ (addRoute p n s).cce = s.cce ∧ (addRoute p n s).dsc =
    s.dsc ∧ (addRoute p n s).enu = s.enu ∧ (addRoute p n s).gds = s.gds ∧ (addRoute p n s).plu = s.plu ∧
    (addRoute p n s).pgt = s.pgt ∧ (addRoute p n s).gwn = s.gwn ∧ (addRoute p n s).lanes = s.lanes ∧ (addRoute p
    n s).rts = s.rts ∧ (addRoute p n s).power = s.power ∧ (addRoute p n s).inFlight = s.inFlight ∧ (addRoute p n
    s).draws = s.draws ∧ (addRoute p n s).pending = s.pending := by
  simp only [addRoute]
  (repeat' split) <;> simp

@[simp] theorem dropRoute_frame (p n : Nat) :
    (dropRoute p n s).cin = s.cin ∧ (dropRoute p n s).queues = s.queues ∧ (dropRoute p n s).tmb = s.tmb ∧
    (dropRoute p n s).scp = s.scp ∧ (dropRoute p n s).sdr = s.sdr ∧ (dropRoute p n s).cce = s.cce ∧ (dropRoute p
    n s).dsc = s.dsc ∧ (dropRoute p n s).enu = s.enu ∧ (dropRoute p n s).gds = s.gds ∧ (dropRoute p n s).plu =
    s.plu ∧ (dropRoute p n s).pgt = s.pgt ∧ (dropRoute p n s).gwn = s.gwn ∧ (dropRoute p n s).lanes = s.lanes ∧
    (dropRoute p n s).rts = s.rts ∧ (dropRoute p n s).power = s.power ∧ (dropRoute p n s).inFlight = s.inFlight
    ∧ (dropRoute p n s).draws = s.draws ∧ (dropRoute p n s).pending = s.pending := by
  simp only [dropRoute]
  (repeat' split) <;> simp

/-! ### The descrambler -/

@[simp] theorem claimArming_frame (n m : Nat) :
    (claimArming n m s).cin = s.cin ∧ (claimArming n m s).routes = s.routes ∧ (claimArming n m s).queues =
    s.queues ∧ (claimArming n m s).tmb = s.tmb ∧ (claimArming n m s).scp = s.scp ∧ (claimArming n m s).sdr =
    s.sdr ∧ (claimArming n m s).cce = s.cce ∧ (claimArming n m s).enu = s.enu ∧ (claimArming n m s).gds = s.gds
    ∧ (claimArming n m s).plu = s.plu ∧ (claimArming n m s).pgt = s.pgt ∧ (claimArming n m s).gwn = s.gwn ∧
    (claimArming n m s).rqh = s.rqh ∧ (claimArming n m s).rpq = s.rpq ∧ (claimArming n m s).lanes = s.lanes ∧
    (claimArming n m s).rts = s.rts ∧ (claimArming n m s).power = s.power ∧ (claimArming n m s).inFlight =
    s.inFlight ∧ (claimArming n m s).draws = s.draws ∧ (claimArming n m s).pending = s.pending := by
  simp [claimArming]

@[simp] theorem freeArming_frame :
    (freeArming s).cin = s.cin ∧ (freeArming s).routes = s.routes ∧ (freeArming s).queues = s.queues ∧
    (freeArming s).tmb = s.tmb ∧ (freeArming s).scp = s.scp ∧ (freeArming s).sdr = s.sdr ∧ (freeArming s).cce =
    s.cce ∧ (freeArming s).enu = s.enu ∧ (freeArming s).gds = s.gds ∧ (freeArming s).plu = s.plu ∧ (freeArming
    s).pgt = s.pgt ∧ (freeArming s).gwn = s.gwn ∧ (freeArming s).rqh = s.rqh ∧ (freeArming s).rpq = s.rpq ∧
    (freeArming s).lanes = s.lanes ∧ (freeArming s).rts = s.rts ∧ (freeArming s).power = s.power ∧ (freeArming
    s).inFlight = s.inFlight ∧ (freeArming s).draws = s.draws ∧ (freeArming s).pending = s.pending := by
  simp [freeArming]

@[simp] theorem freeActive_frame :
    (freeActive s).cin = s.cin ∧ (freeActive s).routes = s.routes ∧ (freeActive s).queues = s.queues ∧
    (freeActive s).tmb = s.tmb ∧ (freeActive s).scp = s.scp ∧ (freeActive s).sdr = s.sdr ∧ (freeActive s).cce =
    s.cce ∧ (freeActive s).enu = s.enu ∧ (freeActive s).gds = s.gds ∧ (freeActive s).plu = s.plu ∧ (freeActive
    s).pgt = s.pgt ∧ (freeActive s).gwn = s.gwn ∧ (freeActive s).rqh = s.rqh ∧ (freeActive s).rpq = s.rpq ∧
    (freeActive s).lanes = s.lanes ∧ (freeActive s).rts = s.rts ∧ (freeActive s).power = s.power ∧ (freeActive
    s).draws = s.draws ∧ (freeActive s).pending = s.pending := by
  simp only [freeActive]
  (repeat' split) <;> simp

@[simp] theorem swapRecords_frame (p : Option Slot) :
    (swapRecords p s).cin = s.cin ∧ (swapRecords p s).routes = s.routes ∧ (swapRecords p s).queues = s.queues ∧
    (swapRecords p s).tmb = s.tmb ∧ (swapRecords p s).scp = s.scp ∧ (swapRecords p s).sdr = s.sdr ∧ (swapRecords
    p s).cce = s.cce ∧ (swapRecords p s).enu = s.enu ∧ (swapRecords p s).gds = s.gds ∧ (swapRecords p s).plu =
    s.plu ∧ (swapRecords p s).pgt = s.pgt ∧ (swapRecords p s).gwn = s.gwn ∧ (swapRecords p s).rqh = s.rqh ∧
    (swapRecords p s).rpq = s.rpq ∧ (swapRecords p s).lanes = s.lanes ∧ (swapRecords p s).rts = s.rts ∧
    (swapRecords p s).power = s.power ∧ (swapRecords p s).draws = s.draws ∧ (swapRecords p s).pending =
    s.pending := by
  simp [swapRecords]

@[simp] theorem updateActive_frame (f : KeyRecord → KeyRecord) :
    (updateActive f s).cin = s.cin ∧ (updateActive f s).routes = s.routes ∧ (updateActive f s).queues = s.queues
    ∧ (updateActive f s).tmb = s.tmb ∧ (updateActive f s).scp = s.scp ∧ (updateActive f s).sdr = s.sdr ∧
    (updateActive f s).cce = s.cce ∧ (updateActive f s).enu = s.enu ∧ (updateActive f s).gds = s.gds ∧
    (updateActive f s).plu = s.plu ∧ (updateActive f s).pgt = s.pgt ∧ (updateActive f s).gwn = s.gwn ∧
    (updateActive f s).rqh = s.rqh ∧ (updateActive f s).rpq = s.rpq ∧ (updateActive f s).lanes = s.lanes ∧
    (updateActive f s).rts = s.rts ∧ (updateActive f s).power = s.power ∧ (updateActive f s).draws = s.draws ∧
    (updateActive f s).pending = s.pending := by
  simp only [updateActive]
  (repeat' split) <;> simp

@[simp] theorem updateArming_frame (f : KeyRecord → KeyRecord) :
    (updateArming f s).cin = s.cin ∧ (updateArming f s).routes = s.routes ∧ (updateArming f s).queues = s.queues
    ∧ (updateArming f s).tmb = s.tmb ∧ (updateArming f s).scp = s.scp ∧ (updateArming f s).sdr = s.sdr ∧
    (updateArming f s).cce = s.cce ∧ (updateArming f s).enu = s.enu ∧ (updateArming f s).gds = s.gds ∧
    (updateArming f s).plu = s.plu ∧ (updateArming f s).pgt = s.pgt ∧ (updateArming f s).gwn = s.gwn ∧
    (updateArming f s).rqh = s.rqh ∧ (updateArming f s).rpq = s.rpq ∧ (updateArming f s).lanes = s.lanes ∧
    (updateArming f s).rts = s.rts ∧ (updateArming f s).power = s.power ∧ (updateArming f s).draws = s.draws ∧
    (updateArming f s).pending = s.pending := by
  simp only [updateArming]
  (repeat' split) <;> simp

@[simp] theorem recomputeVerdicts_frame :
    (recomputeVerdicts s).cin = s.cin ∧ (recomputeVerdicts s).routes = s.routes ∧ (recomputeVerdicts s).queues =
    s.queues ∧ (recomputeVerdicts s).tmb = s.tmb ∧ (recomputeVerdicts s).scp = s.scp ∧ (recomputeVerdicts s).sdr
    = s.sdr ∧ (recomputeVerdicts s).cce = s.cce ∧ (recomputeVerdicts s).enu = s.enu ∧ (recomputeVerdicts s).gds
    = s.gds ∧ (recomputeVerdicts s).plu = s.plu ∧ (recomputeVerdicts s).pgt = s.pgt ∧ (recomputeVerdicts s).gwn
    = s.gwn ∧ (recomputeVerdicts s).rqh = s.rqh ∧ (recomputeVerdicts s).rpq = s.rpq ∧ (recomputeVerdicts
    s).lanes = s.lanes ∧ (recomputeVerdicts s).rts = s.rts ∧ (recomputeVerdicts s).power = s.power ∧
    (recomputeVerdicts s).draws = s.draws ∧ (recomputeVerdicts s).pending = s.pending := by
  simp [recomputeVerdicts]

@[simp] theorem keyFault_frame (x : Section) (m : Matched) (r : KeyFault) :
    (keyFault x m r s).cin = s.cin ∧ (keyFault x m r s).routes = s.routes ∧ (keyFault x m r s).queues = s.queues
    ∧ (keyFault x m r s).tmb = s.tmb ∧ (keyFault x m r s).scp = s.scp ∧ (keyFault x m r s).sdr = s.sdr ∧
    (keyFault x m r s).cce = s.cce ∧ (keyFault x m r s).enu = s.enu ∧ (keyFault x m r s).gds = s.gds ∧ (keyFault
    x m r s).plu = s.plu ∧ (keyFault x m r s).pgt = s.pgt ∧ (keyFault x m r s).gwn = s.gwn ∧ (keyFault x m r
    s).rqh = s.rqh ∧ (keyFault x m r s).lanes = s.lanes ∧ (keyFault x m r s).rts = s.rts ∧ (keyFault x m r
    s).power = s.power ∧ (keyFault x m r s).inFlight = s.inFlight ∧ (keyFault x m r s).draws = s.draws ∧
    (keyFault x m r s).pending = s.pending := by
  simp [keyFault]

@[simp] theorem applyKeySection_frame (x : Section) :
    (applyKeySection x s).cin = s.cin ∧ (applyKeySection x s).routes = s.routes ∧ (applyKeySection x s).queues =
    s.queues ∧ (applyKeySection x s).tmb = s.tmb ∧ (applyKeySection x s).scp = s.scp ∧ (applyKeySection x s).sdr
    = s.sdr ∧ (applyKeySection x s).cce = s.cce ∧ (applyKeySection x s).enu = s.enu ∧ (applyKeySection x s).gds
    = s.gds ∧ (applyKeySection x s).plu = s.plu ∧ (applyKeySection x s).pgt = s.pgt ∧ (applyKeySection x s).gwn
    = s.gwn ∧ (applyKeySection x s).rqh = s.rqh ∧ (applyKeySection x s).lanes = s.lanes ∧ (applyKeySection x
    s).rts = s.rts ∧ (applyKeySection x s).power = s.power ∧ (applyKeySection x s).draws = s.draws ∧
    (applyKeySection x s).pending = s.pending := by
  simp only [applyKeySection]
  (repeat' split) <;> simp

/-! ### The gate taking what waits for it -/

@[simp] theorem gateEvent_frame (f : Pgt → Pgt) :
    (gateEvent f s).cin = s.cin ∧ (gateEvent f s).routes = s.routes ∧ (gateEvent f s).queues = s.queues ∧
    (gateEvent f s).tmb = s.tmb ∧ (gateEvent f s).scp = s.scp ∧ (gateEvent f s).sdr = s.sdr ∧ (gateEvent f
    s).cce = s.cce ∧ (gateEvent f s).dsc = s.dsc ∧ (gateEvent f s).enu = s.enu ∧ (gateEvent f s).gds = s.gds ∧
    (gateEvent f s).plu = s.plu ∧ (gateEvent f s).gwn = s.gwn ∧ (gateEvent f s).rqh = s.rqh ∧ (gateEvent f
    s).lanes = s.lanes ∧ (gateEvent f s).rts = s.rts ∧ (gateEvent f s).power = s.power ∧ (gateEvent f s).draws =
    s.draws ∧ (gateEvent f s).pending = s.pending := by
  simp only [gateEvent]
  (repeat' split) <;> simp

@[simp] theorem takeDscPosting_frame :
    (takeDscPosting s).cin = s.cin ∧ (takeDscPosting s).routes = s.routes ∧ (takeDscPosting s).queues = s.queues
    ∧ (takeDscPosting s).tmb = s.tmb ∧ (takeDscPosting s).scp = s.scp ∧ (takeDscPosting s).sdr = s.sdr ∧
    (takeDscPosting s).cce = s.cce ∧ (takeDscPosting s).dsc = s.dsc ∧ (takeDscPosting s).enu = s.enu ∧
    (takeDscPosting s).gds = s.gds ∧ (takeDscPosting s).plu = s.plu ∧ (takeDscPosting s).gwn = s.gwn ∧
    (takeDscPosting s).rqh = s.rqh ∧ (takeDscPosting s).lanes = s.lanes ∧ (takeDscPosting s).rts = s.rts ∧
    (takeDscPosting s).power = s.power ∧ (takeDscPosting s).draws = s.draws ∧ (takeDscPosting s).pending =
    s.pending := by
  simp only [takeDscPosting]
  (repeat' split) <;> simp

@[simp] theorem takeGateContext_frame :
    (takeGateContext s).cin = s.cin ∧
    (takeGateContext s).routes = s.routes ∧
    (takeGateContext s).queues = s.queues ∧
    (takeGateContext s).tmb = s.tmb ∧
    (takeGateContext s).scp = s.scp ∧
    (takeGateContext s).sdr = s.sdr ∧
    (takeGateContext s).cce = s.cce ∧
    (takeGateContext s).dsc = s.dsc ∧
    (takeGateContext s).enu = s.enu ∧
    (takeGateContext s).gds = s.gds ∧
    (takeGateContext s).plu = s.plu ∧
    (takeGateContext s).gwn = s.gwn ∧
    (takeGateContext s).rqh = s.rqh ∧
    (takeGateContext s).lanes = s.lanes ∧
    (takeGateContext s).rts = s.rts ∧
    (takeGateContext s).power = s.power ∧
    (takeGateContext s).draws = s.draws ∧
    (takeGateContext s).pending = s.pending := by
  simp only [takeGateContext]
  (repeat' split) <;> simp

@[simp] theorem takeAtGate_frame (c : Channel) :
    (takeAtGate c s).cin = s.cin ∧
    (takeAtGate c s).routes = s.routes ∧
    (takeAtGate c s).queues = s.queues ∧
    (takeAtGate c s).tmb = s.tmb ∧
    (takeAtGate c s).scp = s.scp ∧
    (takeAtGate c s).sdr = s.sdr ∧
    (takeAtGate c s).cce = s.cce ∧
    (takeAtGate c s).dsc = s.dsc ∧
    (takeAtGate c s).enu = s.enu ∧
    (takeAtGate c s).gds = s.gds ∧
    (takeAtGate c s).plu = s.plu ∧
    (takeAtGate c s).gwn = s.gwn ∧
    (takeAtGate c s).rqh = s.rqh ∧
    (takeAtGate c s).lanes = s.lanes ∧
    (takeAtGate c s).rts = s.rts ∧
    (takeAtGate c s).power = s.power ∧
    (takeAtGate c s).draws = s.draws ∧
    (takeAtGate c s).pending = s.pending := by
  simp only [takeAtGate]
  (repeat' split) <;> simp

@[simp] theorem gateCatchUp_frame (cs : List Channel) :
    (gateCatchUp cs s).cin = s.cin ∧
    (gateCatchUp cs s).routes = s.routes ∧
    (gateCatchUp cs s).queues = s.queues ∧
    (gateCatchUp cs s).tmb = s.tmb ∧
    (gateCatchUp cs s).scp = s.scp ∧
    (gateCatchUp cs s).sdr = s.sdr ∧
    (gateCatchUp cs s).cce = s.cce ∧
    (gateCatchUp cs s).dsc = s.dsc ∧
    (gateCatchUp cs s).enu = s.enu ∧
    (gateCatchUp cs s).gds = s.gds ∧
    (gateCatchUp cs s).plu = s.plu ∧
    (gateCatchUp cs s).gwn = s.gwn ∧
    (gateCatchUp cs s).rqh = s.rqh ∧
    (gateCatchUp cs s).lanes = s.lanes ∧
    (gateCatchUp cs s).rts = s.rts ∧
    (gateCatchUp cs s).power = s.power ∧
    (gateCatchUp cs s).draws = s.draws ∧
    (gateCatchUp cs s).pending = s.pending := by
  unfold gateCatchUp
  generalize s.inFlight = hs
  induction hs generalizing s with
  | nil => simp
  | cons h hs ih =>
    simp only [List.foldl_cons]
    split <;> simp only [ih, takeAtGate_frame, and_self]

/-! ### Scrambled cells -/

@[simp] theorem scrambledCell_frame (r : KeyRecord) (k : Slot) (c : Cell) :
    ((scrambledCell r k c s).2).cin = s.cin ∧ ((scrambledCell r k c s).2).routes = s.routes ∧ ((scrambledCell r
    k c s).2).queues = s.queues ∧ ((scrambledCell r k c s).2).tmb = s.tmb ∧ ((scrambledCell r k c s).2).scp =
    s.scp ∧ ((scrambledCell r k c s).2).sdr = s.sdr ∧ ((scrambledCell r k c s).2).cce = s.cce ∧ ((scrambledCell
    r k c s).2).enu = s.enu ∧ ((scrambledCell r k c s).2).gds = s.gds ∧ ((scrambledCell r k c s).2).plu = s.plu
    ∧ ((scrambledCell r k c s).2).gwn = s.gwn ∧ ((scrambledCell r k c
    s).2).rqh = s.rqh ∧ ((scrambledCell r k c s).2).lanes = s.lanes ∧
    ((scrambledCell r k c s).2).rts = s.rts ∧ ((scrambledCell r k c s).2).power = s.power ∧ ((scrambledCell r k
    c s).2).draws = s.draws ∧ ((scrambledCell r k c s).2).pending = s.pending := by
  simp only [scrambledCell]
  (repeat' split) <;> simp

/-! ### The channel change engine -/

@[simp] theorem restartPortA_frame :
    (restartPortA s).queues = s.queues ∧ (restartPortA s).tmb = s.tmb ∧ (restartPortA s).scp = s.scp ∧
    (restartPortA s).sdr = s.sdr ∧ (restartPortA s).cce = s.cce ∧ (restartPortA s).dsc = s.dsc ∧ (restartPortA
    s).enu = s.enu ∧ (restartPortA s).gds = s.gds ∧ (restartPortA s).plu = s.plu ∧ (restartPortA s).pgt = s.pgt
    ∧ (restartPortA s).gwn = s.gwn ∧ (restartPortA s).rqh = s.rqh ∧ (restartPortA s).rpq = s.rpq ∧ (restartPortA
    s).lanes = s.lanes ∧ (restartPortA s).rts = s.rts ∧ (restartPortA s).power = s.power ∧ (restartPortA
    s).draws = s.draws ∧ (restartPortA s).pending = s.pending := by
  simp [restartPortA]

@[simp] theorem handContext_frame (c : ContextCause) (n m : Option Nat) :
    (handContext c n m s).cin = s.cin ∧ (handContext c n m s).routes = s.routes ∧ (handContext c n m s).queues =
    s.queues ∧ (handContext c n m s).tmb = s.tmb ∧ (handContext c n m s).scp = s.scp ∧ (handContext c n m s).sdr
    = s.sdr ∧ (handContext c n m s).cce = s.cce ∧ (handContext c n m s).dsc = s.dsc ∧ (handContext c n m s).enu
    = s.enu ∧ (handContext c n m s).gds = s.gds ∧ (handContext c n m s).plu = s.plu ∧ (handContext c n m s).pgt
    = s.pgt ∧ (handContext c n m s).gwn = s.gwn ∧ (handContext c n m s).rqh = s.rqh ∧ (handContext c n m s).rpq
    = s.rpq ∧ (handContext c n m s).lanes = s.lanes ∧ (handContext c n m s).rts = s.rts ∧ (handContext c n m
    s).power = s.power ∧ (handContext c n m s).draws = s.draws ∧ (handContext c n m s).pending = s.pending := by
  simp [handContext]

@[simp] theorem enter_frame (e : Engine) (c : Change) :
    (enter e c s).cin = s.cin ∧ (enter e c s).routes = s.routes ∧ (enter e c s).queues = s.queues ∧ (enter e c
    s).tmb = s.tmb ∧ (enter e c s).scp = s.scp ∧ (enter e c s).sdr = s.sdr ∧ (enter e c s).dsc = s.dsc ∧ (enter
    e c s).enu = s.enu ∧ (enter e c s).gds = s.gds ∧ (enter e c s).plu = s.plu ∧ (enter e c s).pgt = s.pgt ∧
    (enter e c s).gwn = s.gwn ∧ (enter e c s).rqh = s.rqh ∧ (enter e c s).rpq = s.rpq ∧ (enter e c s).lanes =
    s.lanes ∧ (enter e c s).rts = s.rts ∧ (enter e c s).power = s.power ∧ (enter e c s).inFlight = s.inFlight ∧
    (enter e c s).draws = s.draws ∧ (enter e c s).pending = s.pending := by
  simp [enter]

@[simp] theorem enterWaitMap_frame (c : Change) :
    (enterWaitMap c s).cin = s.cin ∧ (enterWaitMap c s).queues = s.queues ∧ (enterWaitMap c s).tmb = s.tmb ∧
    (enterWaitMap c s).scp = s.scp ∧ (enterWaitMap c s).sdr = s.sdr ∧ (enterWaitMap c s).dsc = s.dsc ∧
    (enterWaitMap c s).enu = s.enu ∧ (enterWaitMap c s).gds = s.gds ∧ (enterWaitMap c s).plu = s.plu ∧
    (enterWaitMap c s).pgt = s.pgt ∧ (enterWaitMap c s).gwn = s.gwn ∧ (enterWaitMap c s).rqh = s.rqh ∧
    (enterWaitMap c s).rpq = s.rpq ∧ (enterWaitMap c s).lanes = s.lanes ∧ (enterWaitMap c s).rts = s.rts ∧
    (enterWaitMap c s).power = s.power ∧ (enterWaitMap c s).inFlight = s.inFlight ∧ (enterWaitMap c s).draws =
    s.draws ∧ (enterWaitMap c s).pending = s.pending := by
  simp [enterWaitMap]

@[simp] theorem dropPresented_frame (c : ContextCause) :
    (dropPresented c s).cin = s.cin ∧ (dropPresented c s).queues = s.queues ∧ (dropPresented c s).tmb = s.tmb ∧
    (dropPresented c s).scp = s.scp ∧ (dropPresented c s).sdr = s.sdr ∧ (dropPresented c s).enu = s.enu ∧
    (dropPresented c s).gds = s.gds ∧ (dropPresented c s).plu = s.plu ∧ (dropPresented c s).pgt = s.pgt ∧
    (dropPresented c s).gwn = s.gwn ∧ (dropPresented c s).rqh = s.rqh ∧ (dropPresented c s).rpq = s.rpq ∧
    (dropPresented c s).lanes = s.lanes ∧ (dropPresented c s).rts = s.rts ∧ (dropPresented c s).power = s.power
    ∧ (dropPresented c s).draws = s.draws ∧ (dropPresented c s).pending = s.pending := by
  simp [dropPresented]

@[simp] theorem startCross_frame (c : Change) :
    (startCross c s).queues = s.queues ∧ (startCross c s).tmb = s.tmb ∧ (startCross c s).scp = s.scp ∧
    (startCross c s).sdr = s.sdr ∧ (startCross c s).enu = s.enu ∧ (startCross c s).gds = s.gds ∧ (startCross c
    s).plu = s.plu ∧ (startCross c s).pgt = s.pgt ∧ (startCross c s).gwn = s.gwn ∧ (startCross c s).rqh = s.rqh
    ∧ (startCross c s).lanes = s.lanes ∧ (startCross c s).rts = s.rts ∧ (startCross c s).power = s.power ∧
    (startCross c s).draws = s.draws ∧ (startCross c s).pending = s.pending := by
  simp [startCross]

@[simp] theorem startChange_frame (n : Service) (a : Option Lang) :
    (startChange n a s).queues = s.queues ∧ (startChange n a s).tmb = s.tmb ∧ (startChange n a s).scp = s.scp ∧
    (startChange n a s).sdr = s.sdr ∧ (startChange n a s).enu = s.enu ∧ (startChange n a s).gds = s.gds ∧
    (startChange n a s).plu = s.plu ∧ (startChange n a s).pgt = s.pgt ∧ (startChange n a s).gwn = s.gwn ∧
    (startChange n a s).rqh = s.rqh ∧ (startChange n a s).lanes = s.lanes ∧ (startChange n a s).rts = s.rts ∧
    (startChange n a s).power = s.power ∧ (startChange n a s).draws = s.draws ∧ (startChange n a s).pending =
    s.pending := by
  simp only [startChange]
  (repeat' split) <;> simp

@[simp] theorem releaseChange_frame :
    (releaseChange s).cin = s.cin ∧ (releaseChange s).queues = s.queues ∧ (releaseChange s).tmb = s.tmb ∧
    (releaseChange s).scp = s.scp ∧ (releaseChange s).sdr = s.sdr ∧ (releaseChange s).cce = s.cce ∧
    (releaseChange s).enu = s.enu ∧ (releaseChange s).gds = s.gds ∧ (releaseChange s).plu = s.plu ∧
    (releaseChange s).pgt = s.pgt ∧ (releaseChange s).gwn = s.gwn ∧ (releaseChange s).rqh = s.rqh ∧
    (releaseChange s).rpq = s.rpq ∧ (releaseChange s).lanes = s.lanes ∧ (releaseChange s).rts = s.rts ∧
    (releaseChange s).power = s.power ∧ (releaseChange s).inFlight = s.inFlight ∧ (releaseChange s).draws =
    s.draws ∧ (releaseChange s).pending = s.pending := by
  simp [releaseChange]

@[simp] theorem enterIdle_frame :
    (enterIdle s).queues = s.queues ∧ (enterIdle s).tmb = s.tmb ∧ (enterIdle s).scp = s.scp ∧ (enterIdle s).sdr
    = s.sdr ∧ (enterIdle s).enu = s.enu ∧ (enterIdle s).gds = s.gds ∧ (enterIdle s).plu = s.plu ∧ (enterIdle
    s).pgt = s.pgt ∧ (enterIdle s).gwn = s.gwn ∧ (enterIdle s).rqh = s.rqh ∧ (enterIdle s).lanes = s.lanes ∧
    (enterIdle s).rts = s.rts ∧ (enterIdle s).power = s.power ∧ (enterIdle s).draws = s.draws ∧ (enterIdle
    s).pending = s.pending := by
  simp only [enterIdle]
  (repeat' split) <;> simp

@[simp] theorem endChange_frame (r : DoneReason) :
    (endChange r s).queues = s.queues ∧ (endChange r s).tmb = s.tmb ∧ (endChange r s).scp = s.scp ∧ (endChange r
    s).sdr = s.sdr ∧ (endChange r s).enu = s.enu ∧ (endChange r s).gds = s.gds ∧ (endChange r s).plu = s.plu ∧
    (endChange r s).pgt = s.pgt ∧ (endChange r s).gwn = s.gwn ∧ (endChange r s).rqh = s.rqh ∧ (endChange r
    s).lanes = s.lanes ∧ (endChange r s).rts = s.rts ∧ (endChange r s).power = s.power ∧ (endChange r s).draws =
    s.draws ∧ (endChange r s).pending = s.pending := by
  simp only [endChange]
  (repeat' split) <;> simp

@[simp] theorem failTuning_frame (r : DoneReason) :
    (failTuning r s).queues = s.queues ∧ (failTuning r s).tmb = s.tmb ∧ (failTuning r s).scp = s.scp ∧
    (failTuning r s).sdr = s.sdr ∧ (failTuning r s).enu = s.enu ∧ (failTuning r s).gds = s.gds ∧ (failTuning r
    s).plu = s.plu ∧ (failTuning r s).pgt = s.pgt ∧ (failTuning r s).gwn = s.gwn ∧ (failTuning r s).rqh = s.rqh
    ∧ (failTuning r s).lanes = s.lanes ∧ (failTuning r s).rts = s.rts ∧ (failTuning r s).power = s.power ∧
    (failTuning r s).draws = s.draws ∧ (failTuning r s).pending = s.pending := by
  simp [failTuning]

@[simp] theorem splice_frame (r : DoneReason) :
    (splice r s).queues = s.queues ∧ (splice r s).tmb = s.tmb ∧ (splice r s).scp = s.scp ∧ (splice r s).sdr =
    s.sdr ∧ (splice r s).enu = s.enu ∧ (splice r s).gds = s.gds ∧ (splice r s).plu = s.plu ∧ (splice r s).pgt =
    s.pgt ∧ (splice r s).gwn = s.gwn ∧ (splice r s).rqh = s.rqh ∧ (splice r s).lanes = s.lanes ∧ (splice r
    s).rts = s.rts ∧ (splice r s).power = s.power ∧ (splice r s).draws = s.draws ∧ (splice r s).pending =
    s.pending := by
  simp only [splice]
  (repeat' split) <;> simp

@[simp] theorem enterWaitSplice_frame (c : Change) :
    (enterWaitSplice c s).queues = s.queues ∧ (enterWaitSplice c s).tmb = s.tmb ∧ (enterWaitSplice c s).scp =
    s.scp ∧ (enterWaitSplice c s).sdr = s.sdr ∧ (enterWaitSplice c s).enu = s.enu ∧ (enterWaitSplice c s).gds =
    s.gds ∧ (enterWaitSplice c s).plu = s.plu ∧ (enterWaitSplice c s).pgt = s.pgt ∧ (enterWaitSplice c s).gwn =
    s.gwn ∧ (enterWaitSplice c s).rqh = s.rqh ∧ (enterWaitSplice c s).lanes = s.lanes ∧ (enterWaitSplice c
    s).rts = s.rts ∧ (enterWaitSplice c s).power = s.power ∧ (enterWaitSplice c s).draws = s.draws ∧
    (enterWaitSplice c s).pending = s.pending := by
  simp only [enterWaitSplice]
  (repeat' split) <;> simp

@[simp] theorem testWaitKey_frame :
    (testWaitKey s).queues = s.queues ∧ (testWaitKey s).tmb = s.tmb ∧ (testWaitKey s).scp = s.scp ∧ (testWaitKey
    s).sdr = s.sdr ∧ (testWaitKey s).enu = s.enu ∧ (testWaitKey s).gds = s.gds ∧ (testWaitKey s).plu = s.plu ∧
    (testWaitKey s).pgt = s.pgt ∧ (testWaitKey s).gwn = s.gwn ∧ (testWaitKey s).rqh = s.rqh ∧ (testWaitKey
    s).lanes = s.lanes ∧ (testWaitKey s).rts = s.rts ∧ (testWaitKey s).power = s.power ∧ (testWaitKey s).draws =
    s.draws ∧ (testWaitKey s).pending = s.pending := by
  simp only [testWaitKey]
  (repeat' split) <;> simp

@[simp] theorem parityReport_frame (k : Slot) :
    (parityReport k s).queues = s.queues ∧ (parityReport k s).tmb = s.tmb ∧ (parityReport k s).scp = s.scp ∧
    (parityReport k s).sdr = s.sdr ∧ (parityReport k s).enu = s.enu ∧ (parityReport k s).gds = s.gds ∧
    (parityReport k s).plu = s.plu ∧ (parityReport k s).pgt = s.pgt ∧ (parityReport k s).gwn = s.gwn ∧
    (parityReport k s).rqh = s.rqh ∧ (parityReport k s).lanes = s.lanes ∧ (parityReport k s).rts = s.rts ∧
    (parityReport k s).power = s.power ∧ (parityReport k s).draws = s.draws ∧ (parityReport k s).pending =
    s.pending := by
  simp only [parityReport]
  (repeat' split) <;> simp

@[simp] theorem testHandshake_frame :
    (testHandshake s).cin = s.cin ∧ (testHandshake s).queues = s.queues ∧ (testHandshake s).tmb = s.tmb ∧
    (testHandshake s).scp = s.scp ∧ (testHandshake s).sdr = s.sdr ∧ (testHandshake s).dsc = s.dsc ∧
    (testHandshake s).enu = s.enu ∧ (testHandshake s).gds = s.gds ∧ (testHandshake s).plu = s.plu ∧
    (testHandshake s).pgt = s.pgt ∧ (testHandshake s).gwn = s.gwn ∧ (testHandshake s).rqh = s.rqh ∧
    (testHandshake s).rpq = s.rpq ∧ (testHandshake s).lanes = s.lanes ∧ (testHandshake s).rts = s.rts ∧
    (testHandshake s).power = s.power ∧ (testHandshake s).inFlight = s.inFlight ∧ (testHandshake s).draws =
    s.draws ∧ (testHandshake s).pending = s.pending := by
  simp only [testHandshake]
  (repeat' split) <;> simp

@[simp] theorem armChange_frame (c : Change) (m : ProgMap) :
    (armChange c m s).queues = s.queues ∧ (armChange c m s).tmb = s.tmb ∧ (armChange c m s).scp = s.scp ∧
    (armChange c m s).sdr = s.sdr ∧ (armChange c m s).enu = s.enu ∧ (armChange c m s).gds = s.gds ∧ (armChange c
    m s).plu = s.plu ∧ (armChange c m s).pgt = s.pgt ∧ (armChange c m s).gwn = s.gwn ∧ (armChange c m s).rqh =
    s.rqh ∧ (armChange c m s).lanes = s.lanes ∧ (armChange c m s).rts = s.rts ∧ (armChange c m s).power =
    s.power ∧ (armChange c m s).draws = s.draws ∧ (armChange c m s).pending = s.pending := by
  simp only [armChange]
  (repeat' split) <;> simp

@[simp] theorem countBadMap_frame :
    (countBadMap s).cin = s.cin ∧ (countBadMap s).routes = s.routes ∧ (countBadMap s).queues = s.queues ∧
    (countBadMap s).tmb = s.tmb ∧ (countBadMap s).scp = s.scp ∧ (countBadMap s).sdr = s.sdr ∧ (countBadMap
    s).dsc = s.dsc ∧ (countBadMap s).enu = s.enu ∧ (countBadMap s).gds = s.gds ∧ (countBadMap s).plu = s.plu ∧
    (countBadMap s).pgt = s.pgt ∧ (countBadMap s).gwn = s.gwn ∧ (countBadMap s).rqh = s.rqh ∧ (countBadMap
    s).rpq = s.rpq ∧ (countBadMap s).lanes = s.lanes ∧ (countBadMap s).rts = s.rts ∧ (countBadMap s).power =
    s.power ∧ (countBadMap s).inFlight = s.inFlight ∧ (countBadMap s).draws = s.draws ∧ (countBadMap s).pending
    = s.pending := by
  simp [countBadMap]

@[simp] theorem liveUpdate_frame (p : Presentation) (m : ProgMap) :
    (liveUpdate p m s).cin = s.cin ∧ (liveUpdate p m s).queues = s.queues ∧ (liveUpdate p m s).tmb = s.tmb ∧
    (liveUpdate p m s).scp = s.scp ∧ (liveUpdate p m s).sdr = s.sdr ∧ (liveUpdate p m s).dsc = s.dsc ∧
    (liveUpdate p m s).enu = s.enu ∧ (liveUpdate p m s).gds = s.gds ∧ (liveUpdate p m s).plu = s.plu ∧
    (liveUpdate p m s).pgt = s.pgt ∧ (liveUpdate p m s).gwn = s.gwn ∧ (liveUpdate p m s).rqh = s.rqh ∧
    (liveUpdate p m s).lanes = s.lanes ∧ (liveUpdate p m s).rts = s.rts ∧ (liveUpdate p m s).power = s.power ∧
    (liveUpdate p m s).inFlight = s.inFlight ∧ (liveUpdate p m s).draws = s.draws ∧ (liveUpdate p m s).pending =
    s.pending := by
  simp only [liveUpdate]
  (repeat' split) <;> simp

@[simp] theorem applyMapSection_frame (x : Section) :
    (applyMapSection x s).queues = s.queues ∧ (applyMapSection x s).tmb = s.tmb ∧ (applyMapSection x s).scp =
    s.scp ∧ (applyMapSection x s).sdr = s.sdr ∧ (applyMapSection x s).enu = s.enu ∧ (applyMapSection x s).gds =
    s.gds ∧ (applyMapSection x s).plu = s.plu ∧ (applyMapSection x s).pgt = s.pgt ∧ (applyMapSection x s).gwn =
    s.gwn ∧ (applyMapSection x s).rqh = s.rqh ∧ (applyMapSection x s).lanes = s.lanes ∧ (applyMapSection x
    s).rts = s.rts ∧ (applyMapSection x s).power = s.power ∧ (applyMapSection x s).draws = s.draws ∧
    (applyMapSection x s).pending = s.pending := by
  simp only [applyMapSection]
  (repeat' split) <;> simp

@[simp] theorem tune_frame (n : Nat) (a : Option Lang) :
    (tune n a s).queues = s.queues ∧ (tune n a s).tmb = s.tmb ∧ (tune n a s).scp = s.scp ∧ (tune n a s).sdr =
    s.sdr ∧ (tune n a s).enu = s.enu ∧ (tune n a s).gds = s.gds ∧ (tune n a s).plu = s.plu ∧ (tune n a s).pgt =
    s.pgt ∧ (tune n a s).gwn = s.gwn ∧ (tune n a s).lanes = s.lanes ∧ (tune n a s).rts = s.rts ∧ (tune n a
    s).power = s.power ∧ (tune n a s).draws = s.draws ∧ (tune n a s).pending = s.pending := by
  simp only [tune]
  (repeat' split) <;> simp

@[simp] theorem cancel_frame :
    (cancel s).queues = s.queues ∧ (cancel s).tmb = s.tmb ∧ (cancel s).scp = s.scp ∧ (cancel s).sdr = s.sdr ∧
    (cancel s).enu = s.enu ∧ (cancel s).gds = s.gds ∧ (cancel s).plu = s.plu ∧ (cancel s).pgt = s.pgt ∧ (cancel
    s).gwn = s.gwn ∧ (cancel s).lanes = s.lanes ∧ (cancel s).rts = s.rts ∧ (cancel s).power = s.power ∧ (cancel
    s).draws = s.draws ∧ (cancel s).pending = s.pending := by
  simp only [cancel]
  (repeat' split) <;> simp

@[simp] theorem tunerReady_frame (f : Nat) :
    (tunerReady f s).cin = s.cin ∧ (tunerReady f s).queues = s.queues ∧ (tunerReady f s).tmb = s.tmb ∧
    (tunerReady f s).scp = s.scp ∧ (tunerReady f s).sdr = s.sdr ∧ (tunerReady f s).dsc = s.dsc ∧ (tunerReady f
    s).enu = s.enu ∧ (tunerReady f s).gds = s.gds ∧ (tunerReady f s).plu = s.plu ∧ (tunerReady f s).pgt = s.pgt
    ∧ (tunerReady f s).gwn = s.gwn ∧ (tunerReady f s).lanes = s.lanes ∧ (tunerReady f s).rts = s.rts ∧
    (tunerReady f s).power = s.power ∧ (tunerReady f s).inFlight = s.inFlight ∧ (tunerReady f s).draws = s.draws
    ∧ (tunerReady f s).pending = s.pending := by
  simp only [tunerReady]
  (repeat' split) <;> simp

@[simp] theorem tunerFail_frame (f : Nat) :
    (tunerFail f s).queues = s.queues ∧ (tunerFail f s).tmb = s.tmb ∧ (tunerFail f s).scp = s.scp ∧ (tunerFail f
    s).sdr = s.sdr ∧ (tunerFail f s).enu = s.enu ∧ (tunerFail f s).gds = s.gds ∧ (tunerFail f s).plu = s.plu ∧
    (tunerFail f s).pgt = s.pgt ∧ (tunerFail f s).gwn = s.gwn ∧ (tunerFail f s).lanes = s.lanes ∧ (tunerFail f
    s).rts = s.rts ∧ (tunerFail f s).power = s.power ∧ (tunerFail f s).draws = s.draws ∧ (tunerFail f s).pending
    = s.pending := by
  simp only [tunerFail]
  (repeat' split) <;> simp

@[simp] theorem setAudio_frame (a : Option Lang) :
    (setAudio a s).cin = s.cin ∧ (setAudio a s).queues = s.queues ∧ (setAudio a s).tmb = s.tmb ∧ (setAudio a
    s).scp = s.scp ∧ (setAudio a s).sdr = s.sdr ∧ (setAudio a s).dsc = s.dsc ∧ (setAudio a s).enu = s.enu ∧
    (setAudio a s).gds = s.gds ∧ (setAudio a s).plu = s.plu ∧ (setAudio a s).pgt = s.pgt ∧ (setAudio a s).gwn =
    s.gwn ∧ (setAudio a s).lanes = s.lanes ∧ (setAudio a s).rts = s.rts ∧ (setAudio a s).power = s.power ∧
    (setAudio a s).inFlight = s.inFlight ∧ (setAudio a s).draws = s.draws ∧ (setAudio a s).pending = s.pending := by
  simp only [setAudio]
  (repeat' split) <;> simp

@[simp] theorem enterStandby_frame :
    (enterStandby s).queues = s.queues ∧ (enterStandby s).tmb = s.tmb ∧ (enterStandby s).scp = s.scp ∧
    (enterStandby s).sdr = s.sdr ∧ (enterStandby s).enu = s.enu ∧ (enterStandby s).gds = s.gds ∧ (enterStandby
    s).plu = s.plu ∧ (enterStandby s).pgt = s.pgt ∧ (enterStandby s).gwn = s.gwn ∧ (enterStandby s).lanes =
    s.lanes ∧ (enterStandby s).rts = s.rts ∧ (enterStandby s).power = s.power ∧ (enterStandby s).draws = s.draws
    ∧ (enterStandby s).pending = s.pending := by
  simp only [enterStandby]
  (repeat' split) <;> simp

@[simp] theorem wake_frame (r : Nat) :
    (wake r s).queues = s.queues ∧ (wake r s).tmb = s.tmb ∧ (wake r s).scp = s.scp ∧ (wake r s).sdr = s.sdr ∧
    (wake r s).enu = s.enu ∧ (wake r s).gds = s.gds ∧ (wake r s).plu = s.plu ∧ (wake r s).pgt = s.pgt ∧ (wake r
    s).gwn = s.gwn ∧ (wake r s).lanes = s.lanes ∧ (wake r s).rts = s.rts ∧ (wake r s).power = s.power ∧ (wake r
    s).draws = s.draws ∧ (wake r s).pending = s.pending := by
  simp only [wake]
  (repeat' split) <;> simp

/-! ### The time base -/

@[simp] theorem applyCheck_frame (es : List Event) :
    (applyCheck es s).cin = s.cin ∧ (applyCheck es s).routes = s.routes ∧ (applyCheck es s).queues = s.queues ∧
    (applyCheck es s).scp = s.scp ∧ (applyCheck es s).sdr = s.sdr ∧ (applyCheck es s).cce = s.cce ∧ (applyCheck
    es s).dsc = s.dsc ∧ (applyCheck es s).enu = s.enu ∧ (applyCheck es s).gds = s.gds ∧ (applyCheck es s).plu =
    s.plu ∧ (applyCheck es s).pgt = s.pgt ∧ (applyCheck es s).gwn = s.gwn ∧ (applyCheck es s).rqh = s.rqh ∧
    (applyCheck es s).lanes = s.lanes ∧ (applyCheck es s).rts = s.rts ∧ (applyCheck es s).power = s.power ∧
    (applyCheck es s).draws = s.draws ∧ (applyCheck es s).pending = s.pending := by
  simp [applyCheck]

@[simp] theorem stampArrival_frame (p : List Byte) :
    (stampArrival p s).cin = s.cin ∧ (stampArrival p s).routes = s.routes ∧ (stampArrival p s).queues = s.queues
    ∧ (stampArrival p s).scp = s.scp ∧ (stampArrival p s).sdr = s.sdr ∧ (stampArrival p s).cce = s.cce ∧
    (stampArrival p s).dsc = s.dsc ∧ (stampArrival p s).enu = s.enu ∧ (stampArrival p s).gds = s.gds ∧
    (stampArrival p s).plu = s.plu ∧ (stampArrival p s).pgt = s.pgt ∧ (stampArrival p s).gwn = s.gwn ∧
    (stampArrival p s).rqh = s.rqh ∧ (stampArrival p s).lanes = s.lanes ∧ (stampArrival p s).rts = s.rts ∧
    (stampArrival p s).power = s.power ∧ (stampArrival p s).draws = s.draws ∧ (stampArrival p s).pending =
    s.pending := by
  simp only [stampArrival]
  (repeat' split) <;> simp

@[simp] theorem handOffset_frame :
    (handOffset s).cin = s.cin ∧ (handOffset s).routes = s.routes ∧ (handOffset s).queues = s.queues ∧
    (handOffset s).tmb = s.tmb ∧ (handOffset s).scp = s.scp ∧ (handOffset s).sdr = s.sdr ∧ (handOffset s).cce =
    s.cce ∧ (handOffset s).dsc = s.dsc ∧ (handOffset s).enu = s.enu ∧ (handOffset s).gds = s.gds ∧ (handOffset
    s).plu = s.plu ∧ (handOffset s).pgt = s.pgt ∧ (handOffset s).gwn = s.gwn ∧ (handOffset s).rqh = s.rqh ∧
    (handOffset s).rpq = s.rpq ∧ (handOffset s).lanes = s.lanes ∧ (handOffset s).rts = s.rts ∧ (handOffset
    s).power = s.power ∧ (handOffset s).draws = s.draws ∧ (handOffset s).pending = s.pending := by
  simp [handOffset]

@[simp] theorem setOffset_frame (o : Int) :
    (setOffset o s).cin = s.cin ∧ (setOffset o s).routes = s.routes ∧ (setOffset o s).queues = s.queues ∧
    (setOffset o s).scp = s.scp ∧ (setOffset o s).sdr = s.sdr ∧ (setOffset o s).cce = s.cce ∧ (setOffset o
    s).dsc = s.dsc ∧ (setOffset o s).enu = s.enu ∧ (setOffset o s).gds = s.gds ∧ (setOffset o s).plu = s.plu ∧
    (setOffset o s).pgt = s.pgt ∧ (setOffset o s).gwn = s.gwn ∧ (setOffset o s).rqh = s.rqh ∧ (setOffset o
    s).rpq = s.rpq ∧ (setOffset o s).lanes = s.lanes ∧ (setOffset o s).rts = s.rts ∧ (setOffset o s).power =
    s.power ∧ (setOffset o s).draws = s.draws ∧ (setOffset o s).pending = s.pending := by
  simp only [setOffset]
  (repeat' split) <;> simp

@[simp] theorem applyNext_frame (n : Option (Nat × Int)) :
    (applyNext n s).cin = s.cin ∧ (applyNext n s).routes = s.routes ∧ (applyNext n s).queues = s.queues ∧
    (applyNext n s).sdr = s.sdr ∧ (applyNext n s).cce = s.cce ∧ (applyNext n s).dsc = s.dsc ∧ (applyNext n
    s).enu = s.enu ∧ (applyNext n s).gds = s.gds ∧ (applyNext n s).plu = s.plu ∧ (applyNext n s).pgt = s.pgt ∧
    (applyNext n s).gwn = s.gwn ∧ (applyNext n s).rqh = s.rqh ∧ (applyNext n s).rpq = s.rpq ∧ (applyNext n
    s).lanes = s.lanes ∧ (applyNext n s).rts = s.rts ∧ (applyNext n s).power = s.power ∧ (applyNext n s).draws =
    s.draws ∧ (applyNext n s).pending = s.pending := by
  simp only [applyNext]
  (repeat' split) <;> simp

@[simp] theorem setWall_frame (b : TimeBody) :
    (setWall b s).cin = s.cin ∧ (setWall b s).routes = s.routes ∧ (setWall b s).queues = s.queues ∧ (setWall b
    s).scp = s.scp ∧ (setWall b s).sdr = s.sdr ∧ (setWall b s).cce = s.cce ∧ (setWall b s).dsc = s.dsc ∧
    (setWall b s).enu = s.enu ∧ (setWall b s).gds = s.gds ∧ (setWall b s).plu = s.plu ∧ (setWall b s).pgt =
    s.pgt ∧ (setWall b s).gwn = s.gwn ∧ (setWall b s).rqh = s.rqh ∧ (setWall b s).rpq = s.rpq ∧ (setWall b
    s).lanes = s.lanes ∧ (setWall b s).rts = s.rts ∧ (setWall b s).power = s.power ∧ (setWall b s).draws =
    s.draws ∧ (setWall b s).pending = s.pending := by
  simp [setWall]

@[simp] theorem realign_frame (b : TimeBody) :
    (realign b s).cin = s.cin ∧ (realign b s).routes = s.routes ∧ (realign b s).queues = s.queues ∧ (realign b
    s).scp = s.scp ∧ (realign b s).sdr = s.sdr ∧ (realign b s).cce = s.cce ∧ (realign b s).dsc = s.dsc ∧
    (realign b s).enu = s.enu ∧ (realign b s).gds = s.gds ∧ (realign b s).plu = s.plu ∧ (realign b s).pgt =
    s.pgt ∧ (realign b s).gwn = s.gwn ∧ (realign b s).rqh = s.rqh ∧ (realign b s).lanes = s.lanes ∧ (realign b
    s).rts = s.rts ∧ (realign b s).power = s.power ∧ (realign b s).draws = s.draws ∧ (realign b s).pending =
    s.pending := by
  simp [realign]

@[simp] theorem applyTimeSection_frame (x : Section) :
    (applyTimeSection x s).cin = s.cin ∧ (applyTimeSection x s).routes = s.routes ∧ (applyTimeSection x
    s).queues = s.queues ∧ (applyTimeSection x s).sdr = s.sdr ∧ (applyTimeSection x s).cce = s.cce ∧
    (applyTimeSection x s).dsc = s.dsc ∧ (applyTimeSection x s).enu = s.enu ∧ (applyTimeSection x s).gds = s.gds
    ∧ (applyTimeSection x s).plu = s.plu ∧ (applyTimeSection x s).pgt = s.pgt ∧ (applyTimeSection x s).gwn =
    s.gwn ∧ (applyTimeSection x s).rqh = s.rqh ∧ (applyTimeSection x s).lanes = s.lanes ∧ (applyTimeSection x
    s).rts = s.rts ∧ (applyTimeSection x s).power = s.power ∧ (applyTimeSection x s).draws = s.draws ∧
    (applyTimeSection x s).pending = s.pending := by
  simp only [applyTimeSection]
  (repeat' split) <;> simp

/-! ### The schedule comparator -/

@[simp] theorem fireReminder_frame (e : Entry) (i p w : Nat) :
    (fireReminder e i p w s).cin = s.cin ∧ (fireReminder e i p w s).routes = s.routes ∧ (fireReminder e i p w
    s).queues = s.queues ∧ (fireReminder e i p w s).tmb = s.tmb ∧ (fireReminder e i p w s).sdr = s.sdr ∧
    (fireReminder e i p w s).cce = s.cce ∧ (fireReminder e i p w s).dsc = s.dsc ∧ (fireReminder e i p w s).enu =
    s.enu ∧ (fireReminder e i p w s).gds = s.gds ∧ (fireReminder e i p w s).plu = s.plu ∧ (fireReminder e i p w
    s).pgt = s.pgt ∧ (fireReminder e i p w s).gwn = s.gwn ∧ (fireReminder e i p w s).rqh = s.rqh ∧ (fireReminder
    e i p w s).lanes = s.lanes ∧ (fireReminder e i p w s).rts = s.rts ∧ (fireReminder e i p w s).power = s.power
    ∧ (fireReminder e i p w s).inFlight = s.inFlight ∧ (fireReminder e i p w s).draws = s.draws ∧ (fireReminder
    e i p w s).pending = s.pending := by
  simp [fireReminder]

@[simp] theorem keepDayRoll_frame :
    (keepDayRoll s).cin = s.cin ∧ (keepDayRoll s).routes = s.routes ∧ (keepDayRoll s).queues = s.queues ∧
    (keepDayRoll s).tmb = s.tmb ∧ (keepDayRoll s).sdr = s.sdr ∧ (keepDayRoll s).cce = s.cce ∧ (keepDayRoll
    s).dsc = s.dsc ∧ (keepDayRoll s).enu = s.enu ∧ (keepDayRoll s).gds = s.gds ∧ (keepDayRoll s).plu = s.plu ∧
    (keepDayRoll s).pgt = s.pgt ∧ (keepDayRoll s).gwn = s.gwn ∧ (keepDayRoll s).rqh = s.rqh ∧ (keepDayRoll
    s).rpq = s.rpq ∧ (keepDayRoll s).lanes = s.lanes ∧ (keepDayRoll s).rts = s.rts ∧ (keepDayRoll s).power =
    s.power ∧ (keepDayRoll s).inFlight = s.inFlight ∧ (keepDayRoll s).draws = s.draws ∧ (keepDayRoll s).pending
    = s.pending := by
  simp [keepDayRoll]

@[simp] theorem fireDevice_frame (k : DeviceKind) (e : Entry) :
    (fireDevice k e s).cin = s.cin ∧ (fireDevice k e s).routes = s.routes ∧ (fireDevice k e s).queues = s.queues
    ∧ (fireDevice k e s).tmb = s.tmb ∧ (fireDevice k e s).sdr = s.sdr ∧ (fireDevice k e s).cce = s.cce ∧
    (fireDevice k e s).dsc = s.dsc ∧ (fireDevice k e s).enu = s.enu ∧ (fireDevice k e s).gds = s.gds ∧
    (fireDevice k e s).plu = s.plu ∧ (fireDevice k e s).pgt = s.pgt ∧ (fireDevice k e s).gwn = s.gwn ∧
    (fireDevice k e s).rqh = s.rqh ∧ (fireDevice k e s).rpq = s.rpq ∧ (fireDevice k e s).lanes = s.lanes ∧
    (fireDevice k e s).rts = s.rts ∧ (fireDevice k e s).power = s.power ∧ (fireDevice k e s).draws = s.draws ∧
    (fireDevice k e s).pending = s.pending := by
  simp only [fireDevice]
  (repeat' split) <;> simp

@[simp] theorem visit_frame (w : Nat) (e : Entry) :
    (visit w s e).cin = s.cin ∧ (visit w s e).routes = s.routes ∧ (visit w s e).queues = s.queues ∧ (visit w s
    e).tmb = s.tmb ∧ (visit w s e).sdr = s.sdr ∧ (visit w s e).cce = s.cce ∧ (visit w s e).dsc = s.dsc ∧ (visit
    w s e).enu = s.enu ∧ (visit w s e).gds = s.gds ∧ (visit w s e).plu = s.plu ∧ (visit w s e).pgt = s.pgt ∧
    (visit w s e).gwn = s.gwn ∧ (visit w s e).rqh = s.rqh ∧ (visit w s e).lanes = s.lanes ∧ (visit w s e).rts =
    s.rts ∧ (visit w s e).power = s.power ∧ (visit w s e).draws = s.draws ∧ (visit w s e).pending = s.pending := by
  simp only [visit]
  (repeat' split) <;> simp

@[simp] theorem firingPass_frame (w : Nat) :
    (firingPass w s).cin = s.cin ∧ (firingPass w s).routes = s.routes ∧ (firingPass w s).queues = s.queues ∧
    (firingPass w s).tmb = s.tmb ∧ (firingPass w s).sdr = s.sdr ∧ (firingPass w s).cce = s.cce ∧ (firingPass w
    s).dsc = s.dsc ∧ (firingPass w s).enu = s.enu ∧ (firingPass w s).gds = s.gds ∧ (firingPass w s).plu = s.plu
    ∧ (firingPass w s).pgt = s.pgt ∧ (firingPass w s).gwn = s.gwn ∧ (firingPass w s).rqh = s.rqh ∧ (firingPass w
    s).lanes = s.lanes ∧ (firingPass w s).rts = s.rts ∧ (firingPass w s).power = s.power ∧ (firingPass w
    s).draws = s.draws ∧ (firingPass w s).pending = s.pending := by
  unfold firingPass
  generalize visited w s.scp.target = es
  induction es generalizing s with
  | nil => simp
  | cons e es ih => simp [ih]

@[simp] theorem handWindows_frame :
    (handWindows s).cin = s.cin ∧ (handWindows s).routes = s.routes ∧ (handWindows s).queues = s.queues ∧
    (handWindows s).tmb = s.tmb ∧ (handWindows s).scp = s.scp ∧ (handWindows s).sdr = s.sdr ∧ (handWindows
    s).cce = s.cce ∧ (handWindows s).dsc = s.dsc ∧ (handWindows s).enu = s.enu ∧ (handWindows s).gds = s.gds ∧
    (handWindows s).plu = s.plu ∧ (handWindows s).pgt = s.pgt ∧ (handWindows s).gwn = s.gwn ∧ (handWindows
    s).rqh = s.rqh ∧ (handWindows s).rpq = s.rpq ∧ (handWindows s).lanes = s.lanes ∧ (handWindows s).rts = s.rts
    ∧ (handWindows s).power = s.power ∧ (handWindows s).draws = s.draws ∧ (handWindows s).pending = s.pending := by
  simp [handWindows]

@[simp] theorem evaluateRanges_frame :
    (evaluateRanges s).cin = s.cin ∧ (evaluateRanges s).routes = s.routes ∧ (evaluateRanges s).queues = s.queues
    ∧ (evaluateRanges s).tmb = s.tmb ∧ (evaluateRanges s).sdr = s.sdr ∧ (evaluateRanges s).cce = s.cce ∧
    (evaluateRanges s).dsc = s.dsc ∧ (evaluateRanges s).enu = s.enu ∧ (evaluateRanges s).gds = s.gds ∧
    (evaluateRanges s).plu = s.plu ∧ (evaluateRanges s).pgt = s.pgt ∧ (evaluateRanges s).gwn = s.gwn ∧
    (evaluateRanges s).rqh = s.rqh ∧ (evaluateRanges s).rpq = s.rpq ∧ (evaluateRanges s).lanes = s.lanes ∧
    (evaluateRanges s).rts = s.rts ∧ (evaluateRanges s).power = s.power ∧ (evaluateRanges s).draws = s.draws ∧
    (evaluateRanges s).pending = s.pending := by
  simp only [evaluateRanges]
  (repeat' split) <;> simp

@[simp] theorem evaluateIfMoved_frame :
    (evaluateIfMoved s).cin = s.cin ∧ (evaluateIfMoved s).routes = s.routes ∧ (evaluateIfMoved s).queues =
    s.queues ∧ (evaluateIfMoved s).tmb = s.tmb ∧ (evaluateIfMoved s).sdr = s.sdr ∧ (evaluateIfMoved s).cce =
    s.cce ∧ (evaluateIfMoved s).dsc = s.dsc ∧ (evaluateIfMoved s).enu = s.enu ∧ (evaluateIfMoved s).gds = s.gds
    ∧ (evaluateIfMoved s).plu = s.plu ∧ (evaluateIfMoved s).pgt = s.pgt ∧ (evaluateIfMoved s).gwn = s.gwn ∧
    (evaluateIfMoved s).rqh = s.rqh ∧ (evaluateIfMoved s).rpq = s.rpq ∧ (evaluateIfMoved s).lanes = s.lanes ∧
    (evaluateIfMoved s).rts = s.rts ∧ (evaluateIfMoved s).power = s.power ∧ (evaluateIfMoved s).draws = s.draws
    ∧ (evaluateIfMoved s).pending = s.pending := by
  simp only [evaluateIfMoved]
  (repeat' split) <;> simp

@[simp] theorem advanceTo_frame (w : Nat) :
    (advanceTo w s).cin = s.cin ∧ (advanceTo w s).routes = s.routes ∧ (advanceTo w s).queues = s.queues ∧
    (advanceTo w s).tmb = s.tmb ∧ (advanceTo w s).sdr = s.sdr ∧ (advanceTo w s).cce = s.cce ∧ (advanceTo w
    s).dsc = s.dsc ∧ (advanceTo w s).enu = s.enu ∧ (advanceTo w s).gds = s.gds ∧ (advanceTo w s).plu = s.plu ∧
    (advanceTo w s).pgt = s.pgt ∧ (advanceTo w s).gwn = s.gwn ∧ (advanceTo w s).rqh = s.rqh ∧ (advanceTo w
    s).lanes = s.lanes ∧ (advanceTo w s).rts = s.rts ∧ (advanceTo w s).power = s.power ∧ (advanceTo w s).draws =
    s.draws ∧ (advanceTo w s).pending = s.pending := by
  simp only [advanceTo]
  (repeat' split) <;> simp

@[simp] theorem addReminder_frame (i d p n e b : Nat) :
    (addReminder i d p n e b s).cin = s.cin ∧ (addReminder i d p n e b s).routes = s.routes ∧ (addReminder i d p
    n e b s).queues = s.queues ∧ (addReminder i d p n e b s).tmb = s.tmb ∧ (addReminder i d p n e b s).sdr =
    s.sdr ∧ (addReminder i d p n e b s).cce = s.cce ∧ (addReminder i d p n e b s).dsc = s.dsc ∧ (addReminder i d
    p n e b s).enu = s.enu ∧ (addReminder i d p n e b s).gds = s.gds ∧ (addReminder i d p n e b s).plu = s.plu ∧
    (addReminder i d p n e b s).pgt = s.pgt ∧ (addReminder i d p n e b s).gwn = s.gwn ∧ (addReminder i d p n e b
    s).lanes = s.lanes ∧ (addReminder i d p n e b s).rts = s.rts ∧ (addReminder i d p n e b s).power = s.power ∧
    (addReminder i d p n e b s).inFlight = s.inFlight ∧ (addReminder i d p n e b s).draws = s.draws ∧
    (addReminder i d p n e b s).pending = s.pending := by
  simp only [addReminder]
  (repeat' split) <;> simp

@[simp] theorem dropReminder_frame (i : Nat) :
    (dropReminder i s).cin = s.cin ∧ (dropReminder i s).routes = s.routes ∧ (dropReminder i s).queues = s.queues
    ∧ (dropReminder i s).tmb = s.tmb ∧ (dropReminder i s).sdr = s.sdr ∧ (dropReminder i s).cce = s.cce ∧
    (dropReminder i s).dsc = s.dsc ∧ (dropReminder i s).enu = s.enu ∧ (dropReminder i s).gds = s.gds ∧
    (dropReminder i s).plu = s.plu ∧ (dropReminder i s).pgt = s.pgt ∧ (dropReminder i s).gwn = s.gwn ∧
    (dropReminder i s).lanes = s.lanes ∧ (dropReminder i s).rts = s.rts ∧ (dropReminder i s).power = s.power ∧
    (dropReminder i s).inFlight = s.inFlight ∧ (dropReminder i s).draws = s.draws ∧ (dropReminder i s).pending =
    s.pending := by
  simp only [dropReminder]
  (repeat' split) <;> simp

@[simp] theorem releaseEntry_frame (e : Entry) :
    (releaseEntry s e).cin = s.cin ∧ (releaseEntry s e).routes = s.routes ∧ (releaseEntry s e).queues = s.queues
    ∧ (releaseEntry s e).tmb = s.tmb ∧ (releaseEntry s e).sdr = s.sdr ∧ (releaseEntry s e).cce = s.cce ∧
    (releaseEntry s e).dsc = s.dsc ∧ (releaseEntry s e).enu = s.enu ∧ (releaseEntry s e).gds = s.gds ∧
    (releaseEntry s e).plu = s.plu ∧ (releaseEntry s e).pgt = s.pgt ∧ (releaseEntry s e).gwn = s.gwn ∧
    (releaseEntry s e).rqh = s.rqh ∧ (releaseEntry s e).lanes = s.lanes ∧ (releaseEntry s e).rts = s.rts ∧
    (releaseEntry s e).power = s.power ∧ (releaseEntry s e).inFlight = s.inFlight ∧ (releaseEntry s e).draws =
    s.draws ∧ (releaseEntry s e).pending = s.pending := by
  simp only [releaseEntry]
  (repeat' split) <;> simp

@[simp] theorem releaseReminders_frame :
    (releaseReminders s).cin = s.cin ∧ (releaseReminders s).routes = s.routes ∧ (releaseReminders s).queues =
    s.queues ∧ (releaseReminders s).tmb = s.tmb ∧ (releaseReminders s).sdr = s.sdr ∧ (releaseReminders s).cce =
    s.cce ∧ (releaseReminders s).dsc = s.dsc ∧ (releaseReminders s).enu = s.enu ∧ (releaseReminders s).gds =
    s.gds ∧ (releaseReminders s).plu = s.plu ∧ (releaseReminders s).pgt = s.pgt ∧ (releaseReminders s).gwn =
    s.gwn ∧ (releaseReminders s).lanes = s.lanes ∧ (releaseReminders s).rts = s.rts ∧ (releaseReminders s).power
    = s.power ∧ (releaseReminders s).inFlight = s.inFlight ∧ (releaseReminders s).draws = s.draws ∧
    (releaseReminders s).pending = s.pending := by
  have fold : ∀ (es : List Entry) (s : State), (es.foldl releaseEntry s).cin = s.cin ∧ (es.foldl releaseEntry s).routes = s.routes ∧ (es.foldl releaseEntry s).queues = s.queues ∧ (es.foldl releaseEntry s).tmb = s.tmb ∧ (es.foldl releaseEntry s).sdr = s.sdr ∧ (es.foldl releaseEntry s).cce = s.cce ∧ (es.foldl releaseEntry s).dsc = s.dsc ∧ (es.foldl releaseEntry s).enu = s.enu ∧ (es.foldl releaseEntry s).gds = s.gds ∧ (es.foldl releaseEntry s).plu = s.plu ∧ (es.foldl releaseEntry s).pgt = s.pgt ∧ (es.foldl releaseEntry s).gwn = s.gwn ∧ (es.foldl releaseEntry s).lanes = s.lanes ∧ (es.foldl releaseEntry s).rts = s.rts ∧ (es.foldl releaseEntry s).power = s.power ∧ (es.foldl releaseEntry s).inFlight = s.inFlight ∧ (es.foldl releaseEntry s).draws = s.draws ∧ (es.foldl releaseEntry s).pending = s.pending := by
    intro es
    induction es with
    | nil => simp
    | cons e es ih => intro s; simp [ih]
  simp only [releaseReminders]
  split <;> simp [fold]

@[simp] theorem setRange_frame (i p l u : Nat) :
    (setRange i p l u s).cin = s.cin ∧ (setRange i p l u s).routes = s.routes ∧ (setRange i p l u s).queues =
    s.queues ∧ (setRange i p l u s).tmb = s.tmb ∧ (setRange i p l u s).sdr = s.sdr ∧ (setRange i p l u s).cce =
    s.cce ∧ (setRange i p l u s).dsc = s.dsc ∧ (setRange i p l u s).enu = s.enu ∧ (setRange i p l u s).gds =
    s.gds ∧ (setRange i p l u s).plu = s.plu ∧ (setRange i p l u s).pgt = s.pgt ∧ (setRange i p l u s).gwn =
    s.gwn ∧ (setRange i p l u s).lanes = s.lanes ∧ (setRange i p l u s).rts = s.rts ∧ (setRange i p l u s).power
    = s.power ∧ (setRange i p l u s).draws = s.draws ∧ (setRange i p l u s).pending = s.pending := by
  simp only [setRange]
  (repeat' split) <;> simp

/-! ### The entitlement unit -/

@[simp] theorem keepEntExpiry_frame :
    (keepEntExpiry s).cin = s.cin ∧ (keepEntExpiry s).routes = s.routes ∧ (keepEntExpiry s).queues = s.queues ∧
    (keepEntExpiry s).tmb = s.tmb ∧ (keepEntExpiry s).sdr = s.sdr ∧ (keepEntExpiry s).cce = s.cce ∧
    (keepEntExpiry s).dsc = s.dsc ∧ (keepEntExpiry s).enu = s.enu ∧ (keepEntExpiry s).gds = s.gds ∧
    (keepEntExpiry s).plu = s.plu ∧ (keepEntExpiry s).pgt = s.pgt ∧ (keepEntExpiry s).gwn = s.gwn ∧
    (keepEntExpiry s).rqh = s.rqh ∧ (keepEntExpiry s).rpq = s.rpq ∧ (keepEntExpiry s).lanes = s.lanes ∧
    (keepEntExpiry s).rts = s.rts ∧ (keepEntExpiry s).power = s.power ∧ (keepEntExpiry s).inFlight = s.inFlight
    ∧ (keepEntExpiry s).draws = s.draws ∧ (keepEntExpiry s).pending = s.pending := by
  simp only [keepEntExpiry]
  (repeat' split) <;> simp

@[simp] theorem entChanged_frame (c : EntCause) :
    (entChanged c s).cin = s.cin ∧ (entChanged c s).routes = s.routes ∧ (entChanged c s).queues = s.queues ∧
    (entChanged c s).tmb = s.tmb ∧ (entChanged c s).sdr = s.sdr ∧ (entChanged c s).cce = s.cce ∧ (entChanged c
    s).dsc = s.dsc ∧ (entChanged c s).enu = s.enu ∧ (entChanged c s).gds = s.gds ∧ (entChanged c s).plu = s.plu
    ∧ (entChanged c s).pgt = s.pgt ∧ (entChanged c s).gwn = s.gwn ∧ (entChanged c s).rqh = s.rqh ∧ (entChanged c
    s).lanes = s.lanes ∧ (entChanged c s).rts = s.rts ∧ (entChanged c s).power = s.power ∧ (entChanged c
    s).draws = s.draws ∧ (entChanged c s).pending = s.pending := by
  simp [entChanged]

@[simp] theorem creditChanged_frame (c : CreditCause) :
    (creditChanged c s).cin = s.cin ∧ (creditChanged c s).routes = s.routes ∧ (creditChanged c s).queues =
    s.queues ∧ (creditChanged c s).tmb = s.tmb ∧ (creditChanged c s).scp = s.scp ∧ (creditChanged c s).sdr =
    s.sdr ∧ (creditChanged c s).cce = s.cce ∧ (creditChanged c s).dsc = s.dsc ∧ (creditChanged c s).enu = s.enu
    ∧ (creditChanged c s).gds = s.gds ∧ (creditChanged c s).plu = s.plu ∧ (creditChanged c s).pgt = s.pgt ∧
    (creditChanged c s).gwn = s.gwn ∧ (creditChanged c s).rqh = s.rqh ∧ (creditChanged c s).lanes = s.lanes ∧
    (creditChanged c s).rts = s.rts ∧ (creditChanged c s).power = s.power ∧ (creditChanged c s).inFlight =
    s.inFlight ∧ (creditChanged c s).draws = s.draws ∧ (creditChanged c s).pending = s.pending := by
  simp [creditChanged]

@[simp] theorem entitle_frame (xs : List Entitlement) :
    (entitle xs s).cin = s.cin ∧ (entitle xs s).routes = s.routes ∧ (entitle xs s).queues = s.queues ∧ (entitle
    xs s).tmb = s.tmb ∧ (entitle xs s).sdr = s.sdr ∧ (entitle xs s).cce = s.cce ∧ (entitle xs s).dsc = s.dsc ∧
    (entitle xs s).gds = s.gds ∧ (entitle xs s).plu = s.plu ∧ (entitle xs s).pgt = s.pgt ∧ (entitle xs s).gwn =
    s.gwn ∧ (entitle xs s).rqh = s.rqh ∧ (entitle xs s).lanes = s.lanes ∧ (entitle xs s).rts = s.rts ∧ (entitle
    xs s).power = s.power ∧ (entitle xs s).draws = s.draws ∧ (entitle xs s).pending = s.pending := by
  simp only [entitle]
  (repeat' split) <;> simp

@[simp] theorem revoke_frame (xs : List Nat) :
    (revoke xs s).cin = s.cin ∧ (revoke xs s).routes = s.routes ∧ (revoke xs s).queues = s.queues ∧ (revoke xs
    s).tmb = s.tmb ∧ (revoke xs s).sdr = s.sdr ∧ (revoke xs s).cce = s.cce ∧ (revoke xs s).dsc = s.dsc ∧ (revoke
    xs s).gds = s.gds ∧ (revoke xs s).plu = s.plu ∧ (revoke xs s).pgt = s.pgt ∧ (revoke xs s).gwn = s.gwn ∧
    (revoke xs s).rqh = s.rqh ∧ (revoke xs s).lanes = s.lanes ∧ (revoke xs s).rts = s.rts ∧ (revoke xs s).power
    = s.power ∧ (revoke xs s).draws = s.draws ∧ (revoke xs s).pending = s.pending := by
  simp only [revoke]
  (repeat' split) <;> simp

@[simp] theorem credit_frame (g t : Nat) :
    (credit g t s).cin = s.cin ∧ (credit g t s).routes = s.routes ∧ (credit g t s).queues = s.queues ∧ (credit g
    t s).tmb = s.tmb ∧ (credit g t s).scp = s.scp ∧ (credit g t s).sdr = s.sdr ∧ (credit g t s).cce = s.cce ∧
    (credit g t s).dsc = s.dsc ∧ (credit g t s).gds = s.gds ∧ (credit g t s).plu = s.plu ∧ (credit g t s).pgt =
    s.pgt ∧ (credit g t s).gwn = s.gwn ∧ (credit g t s).rqh = s.rqh ∧ (credit g t s).lanes = s.lanes ∧ (credit g
    t s).rts = s.rts ∧ (credit g t s).power = s.power ∧ (credit g t s).inFlight = s.inFlight ∧ (credit g t
    s).draws = s.draws ∧ (credit g t s).pending = s.pending := by
  simp only [credit]
  (repeat' split) <;> simp

@[simp] theorem applyMessage_frame (m : Message) :
    (applyMessage m s).cin = s.cin ∧ (applyMessage m s).routes = s.routes ∧ (applyMessage m s).queues = s.queues
    ∧ (applyMessage m s).tmb = s.tmb ∧ (applyMessage m s).sdr = s.sdr ∧ (applyMessage m s).cce = s.cce ∧
    (applyMessage m s).dsc = s.dsc ∧ (applyMessage m s).gds = s.gds ∧ (applyMessage m s).plu = s.plu ∧
    (applyMessage m s).pgt = s.pgt ∧ (applyMessage m s).gwn = s.gwn ∧ (applyMessage m s).rqh = s.rqh ∧
    (applyMessage m s).lanes = s.lanes ∧ (applyMessage m s).rts = s.rts ∧ (applyMessage m s).power = s.power ∧
    (applyMessage m s).draws = s.draws ∧ (applyMessage m s).pending = s.pending := by
  simp only [applyMessage]
  (repeat' split) <;> simp

@[simp] theorem applyEntitlementSection_frame (x : Section) :
    (applyEntitlementSection x s).cin = s.cin ∧ (applyEntitlementSection x s).routes = s.routes ∧
    (applyEntitlementSection x s).queues = s.queues ∧ (applyEntitlementSection x s).tmb = s.tmb ∧
    (applyEntitlementSection x s).sdr = s.sdr ∧ (applyEntitlementSection x s).cce = s.cce ∧
    (applyEntitlementSection x s).dsc = s.dsc ∧ (applyEntitlementSection x s).gds = s.gds ∧
    (applyEntitlementSection x s).plu = s.plu ∧ (applyEntitlementSection x s).pgt = s.pgt ∧
    (applyEntitlementSection x s).gwn = s.gwn ∧ (applyEntitlementSection x s).rqh = s.rqh ∧
    (applyEntitlementSection x s).lanes = s.lanes ∧ (applyEntitlementSection x s).rts = s.rts ∧
    (applyEntitlementSection x s).power = s.power ∧ (applyEntitlementSection x s).draws = s.draws ∧
    (applyEntitlementSection x s).pending = s.pending := by
  simp only [applyEntitlementSection]
  (repeat' split) <;> simp

@[simp] theorem expireEntitlements_frame :
    (expireEntitlements s).cin = s.cin ∧ (expireEntitlements s).routes = s.routes ∧ (expireEntitlements
    s).queues = s.queues ∧ (expireEntitlements s).tmb = s.tmb ∧ (expireEntitlements s).sdr = s.sdr ∧
    (expireEntitlements s).cce = s.cce ∧ (expireEntitlements s).dsc = s.dsc ∧ (expireEntitlements s).gds = s.gds
    ∧ (expireEntitlements s).plu = s.plu ∧ (expireEntitlements s).pgt = s.pgt ∧ (expireEntitlements s).gwn =
    s.gwn ∧ (expireEntitlements s).rqh = s.rqh ∧ (expireEntitlements s).lanes = s.lanes ∧ (expireEntitlements
    s).rts = s.rts ∧ (expireEntitlements s).power = s.power ∧ (expireEntitlements s).draws = s.draws ∧
    (expireEntitlements s).pending = s.pending := by
  simp only [expireEntitlements]
  (repeat' split) <;> simp

@[simp] theorem carryOutPurchase_frame (n e p q : Nat) :
    (carryOutPurchase n e p q s).cin = s.cin ∧ (carryOutPurchase n e p q s).routes = s.routes ∧
    (carryOutPurchase n e p q s).queues = s.queues ∧ (carryOutPurchase n e p q s).tmb = s.tmb ∧
    (carryOutPurchase n e p q s).sdr = s.sdr ∧ (carryOutPurchase n e p q s).cce = s.cce ∧ (carryOutPurchase n e
    p q s).dsc = s.dsc ∧ (carryOutPurchase n e p q s).gds = s.gds ∧ (carryOutPurchase n e p q s).plu = s.plu ∧
    (carryOutPurchase n e p q s).pgt = s.pgt ∧ (carryOutPurchase n e p q s).gwn = s.gwn ∧ (carryOutPurchase n e
    p q s).lanes = s.lanes ∧ (carryOutPurchase n e p q s).rts = s.rts ∧ (carryOutPurchase n e p q s).power =
    s.power ∧ (carryOutPurchase n e p q s).draws = s.draws ∧ (carryOutPurchase n e p q s).pending = s.pending := by
  simp only [carryOutPurchase]
  (repeat' split) <;> simp

@[simp] theorem purchase_frame (n e : Nat) :
    (purchase n e s).cin = s.cin ∧ (purchase n e s).routes = s.routes ∧ (purchase n e s).queues = s.queues ∧
    (purchase n e s).tmb = s.tmb ∧ (purchase n e s).sdr = s.sdr ∧ (purchase n e s).cce = s.cce ∧ (purchase n e
    s).dsc = s.dsc ∧ (purchase n e s).gds = s.gds ∧ (purchase n e s).plu = s.plu ∧ (purchase n e s).pgt = s.pgt
    ∧ (purchase n e s).gwn = s.gwn ∧ (purchase n e s).lanes = s.lanes ∧ (purchase n e s).rts = s.rts ∧ (purchase
    n e s).power = s.power ∧ (purchase n e s).draws = s.draws ∧ (purchase n e s).pending = s.pending := by
  simp only [purchase]
  (repeat' split) <;> simp

/-! ### The service directory -/

@[simp] theorem applyDirectorySection_frame (x : Section) :
    (applyDirectorySection x s).cin = s.cin ∧ (applyDirectorySection x s).routes = s.routes ∧
    (applyDirectorySection x s).queues = s.queues ∧ (applyDirectorySection x s).tmb = s.tmb ∧
    (applyDirectorySection x s).scp = s.scp ∧ (applyDirectorySection x s).cce = s.cce ∧ (applyDirectorySection x
    s).dsc = s.dsc ∧ (applyDirectorySection x s).enu = s.enu ∧ (applyDirectorySection x s).gds = s.gds ∧
    (applyDirectorySection x s).plu = s.plu ∧ (applyDirectorySection x s).pgt = s.pgt ∧ (applyDirectorySection x
    s).gwn = s.gwn ∧ (applyDirectorySection x s).rqh = s.rqh ∧ (applyDirectorySection x s).lanes = s.lanes ∧
    (applyDirectorySection x s).rts = s.rts ∧ (applyDirectorySection x s).power = s.power ∧
    (applyDirectorySection x s).inFlight = s.inFlight ∧ (applyDirectorySection x s).draws = s.draws ∧
    (applyDirectorySection x s).pending = s.pending := by
  simp only [applyDirectorySection]
  (repeat' split) <;> simp

/-! ### The guide store -/

@[simp] theorem requestEventEnd_frame :
    (requestEventEnd s).cin = s.cin ∧ (requestEventEnd s).routes = s.routes ∧ (requestEventEnd s).queues =
    s.queues ∧ (requestEventEnd s).tmb = s.tmb ∧ (requestEventEnd s).sdr = s.sdr ∧ (requestEventEnd s).cce =
    s.cce ∧ (requestEventEnd s).dsc = s.dsc ∧ (requestEventEnd s).enu = s.enu ∧ (requestEventEnd s).gds = s.gds
    ∧ (requestEventEnd s).plu = s.plu ∧ (requestEventEnd s).pgt = s.pgt ∧ (requestEventEnd s).gwn = s.gwn ∧
    (requestEventEnd s).rqh = s.rqh ∧ (requestEventEnd s).rpq = s.rpq ∧ (requestEventEnd s).lanes = s.lanes ∧
    (requestEventEnd s).rts = s.rts ∧ (requestEventEnd s).power = s.power ∧ (requestEventEnd s).inFlight =
    s.inFlight ∧ (requestEventEnd s).draws = s.draws ∧ (requestEventEnd s).pending = s.pending := by
  simp only [requestEventEnd]
  (repeat' split) <;> simp

@[simp] theorem setNow_frame :
    (setNow s).cin = s.cin ∧ (setNow s).routes = s.routes ∧ (setNow s).queues = s.queues ∧ (setNow s).tmb =
    s.tmb ∧ (setNow s).scp = s.scp ∧ (setNow s).sdr = s.sdr ∧ (setNow s).cce = s.cce ∧ (setNow s).dsc = s.dsc ∧
    (setNow s).enu = s.enu ∧ (setNow s).plu = s.plu ∧ (setNow s).pgt = s.pgt ∧ (setNow s).gwn = s.gwn ∧ (setNow
    s).rqh = s.rqh ∧ (setNow s).rpq = s.rpq ∧ (setNow s).lanes = s.lanes ∧ (setNow s).rts = s.rts ∧ (setNow
    s).power = s.power ∧ (setNow s).inFlight = s.inFlight ∧ (setNow s).draws = s.draws ∧ (setNow s).pending =
    s.pending := by
  simp [setNow]

@[simp] theorem keepEventEnd_frame :
    (keepEventEnd s).cin = s.cin ∧ (keepEventEnd s).routes = s.routes ∧ (keepEventEnd s).queues = s.queues ∧
    (keepEventEnd s).tmb = s.tmb ∧ (keepEventEnd s).sdr = s.sdr ∧ (keepEventEnd s).cce = s.cce ∧ (keepEventEnd
    s).dsc = s.dsc ∧ (keepEventEnd s).enu = s.enu ∧ (keepEventEnd s).plu = s.plu ∧ (keepEventEnd s).pgt = s.pgt
    ∧ (keepEventEnd s).gwn = s.gwn ∧ (keepEventEnd s).rqh = s.rqh ∧ (keepEventEnd s).rpq = s.rpq ∧ (keepEventEnd
    s).lanes = s.lanes ∧ (keepEventEnd s).rts = s.rts ∧ (keepEventEnd s).power = s.power ∧ (keepEventEnd
    s).draws = s.draws ∧ (keepEventEnd s).pending = s.pending := by
  simp [keepEventEnd]

@[simp] theorem applyGuideEvents_frame (n g v a : Nat) (es : List GuideEvent) :
    ((applyGuideEvents n g v a es s).1).cin = s.cin ∧ ((applyGuideEvents n g v a es s).1).routes = s.routes ∧
    ((applyGuideEvents n g v a es s).1).queues = s.queues ∧ ((applyGuideEvents n g v a es s).1).tmb = s.tmb ∧
    ((applyGuideEvents n g v a es s).1).scp = s.scp ∧ ((applyGuideEvents n g v a es s).1).sdr = s.sdr ∧
    ((applyGuideEvents n g v a es s).1).cce = s.cce ∧ ((applyGuideEvents n g v a es s).1).dsc = s.dsc ∧
    ((applyGuideEvents n g v a es s).1).enu = s.enu ∧ ((applyGuideEvents n g v a es s).1).plu = s.plu ∧
    ((applyGuideEvents n g v a es s).1).pgt = s.pgt ∧ ((applyGuideEvents n g v a es s).1).gwn = s.gwn ∧
    ((applyGuideEvents n g v a es s).1).rqh = s.rqh ∧ ((applyGuideEvents n g v a es s).1).rpq = s.rpq ∧
    ((applyGuideEvents n g v a es s).1).lanes = s.lanes ∧ ((applyGuideEvents n g v a es s).1).rts = s.rts ∧
    ((applyGuideEvents n g v a es s).1).power = s.power ∧ ((applyGuideEvents n g v a es s).1).inFlight =
    s.inFlight ∧ ((applyGuideEvents n g v a es s).1).draws = s.draws ∧ ((applyGuideEvents n g v a es
    s).1).pending = s.pending := by
  simp [applyGuideEvents]

@[simp] theorem completeGuide_frame (b : Gds) (n g v : Nat) (o : Bool) :
    (completeGuide b n g v o s).cin = s.cin ∧ (completeGuide b n g v o s).routes = s.routes ∧ (completeGuide b n
    g v o s).queues = s.queues ∧ (completeGuide b n g v o s).tmb = s.tmb ∧ (completeGuide b n g v o s).sdr =
    s.sdr ∧ (completeGuide b n g v o s).cce = s.cce ∧ (completeGuide b n g v o s).dsc = s.dsc ∧ (completeGuide b
    n g v o s).enu = s.enu ∧ (completeGuide b n g v o s).plu = s.plu ∧ (completeGuide b n g v o s).pgt = s.pgt ∧
    (completeGuide b n g v o s).gwn = s.gwn ∧ (completeGuide b n g v o s).rqh = s.rqh ∧ (completeGuide b n g v o
    s).lanes = s.lanes ∧ (completeGuide b n g v o s).rts = s.rts ∧ (completeGuide b n g v o s).power = s.power ∧
    (completeGuide b n g v o s).draws = s.draws ∧ (completeGuide b n g v o s).pending = s.pending := by
  simp only [completeGuide]
  (repeat' split) <;> simp

@[simp] theorem countGuide_frame (f : GuideCounts → GuideCounts) :
    (countGuide f s).cin = s.cin ∧ (countGuide f s).routes = s.routes ∧ (countGuide f s).queues = s.queues ∧
    (countGuide f s).tmb = s.tmb ∧ (countGuide f s).scp = s.scp ∧ (countGuide f s).sdr = s.sdr ∧ (countGuide f
    s).cce = s.cce ∧ (countGuide f s).dsc = s.dsc ∧ (countGuide f s).enu = s.enu ∧ (countGuide f s).plu = s.plu
    ∧ (countGuide f s).pgt = s.pgt ∧ (countGuide f s).gwn = s.gwn ∧ (countGuide f s).rqh = s.rqh ∧ (countGuide f
    s).rpq = s.rpq ∧ (countGuide f s).lanes = s.lanes ∧ (countGuide f s).rts = s.rts ∧ (countGuide f s).power =
    s.power ∧ (countGuide f s).inFlight = s.inFlight ∧ (countGuide f s).draws = s.draws ∧ (countGuide f
    s).pending = s.pending := by
  simp [countGuide]

@[simp] theorem applyGuideSection_frame (x : Section) :
    (applyGuideSection x s).cin = s.cin ∧ (applyGuideSection x s).routes = s.routes ∧ (applyGuideSection x
    s).queues = s.queues ∧ (applyGuideSection x s).tmb = s.tmb ∧ (applyGuideSection x s).sdr = s.sdr ∧
    (applyGuideSection x s).cce = s.cce ∧ (applyGuideSection x s).dsc = s.dsc ∧ (applyGuideSection x s).enu =
    s.enu ∧ (applyGuideSection x s).plu = s.plu ∧ (applyGuideSection x s).pgt = s.pgt ∧ (applyGuideSection x
    s).gwn = s.gwn ∧ (applyGuideSection x s).rqh = s.rqh ∧ (applyGuideSection x s).lanes = s.lanes ∧
    (applyGuideSection x s).rts = s.rts ∧ (applyGuideSection x s).power = s.power ∧ (applyGuideSection x
    s).draws = s.draws ∧ (applyGuideSection x s).pending = s.pending := by
  simp only [applyGuideSection]
  (repeat' split) <;> simp

@[simp] theorem purgeEnded_frame :
    (purgeEnded s).cin = s.cin ∧ (purgeEnded s).routes = s.routes ∧ (purgeEnded s).queues = s.queues ∧
    (purgeEnded s).tmb = s.tmb ∧ (purgeEnded s).scp = s.scp ∧ (purgeEnded s).sdr = s.sdr ∧ (purgeEnded s).cce =
    s.cce ∧ (purgeEnded s).dsc = s.dsc ∧ (purgeEnded s).enu = s.enu ∧ (purgeEnded s).plu = s.plu ∧ (purgeEnded
    s).pgt = s.pgt ∧ (purgeEnded s).gwn = s.gwn ∧ (purgeEnded s).rqh = s.rqh ∧ (purgeEnded s).rpq = s.rpq ∧
    (purgeEnded s).lanes = s.lanes ∧ (purgeEnded s).rts = s.rts ∧ (purgeEnded s).power = s.power ∧ (purgeEnded
    s).inFlight = s.inFlight ∧ (purgeEnded s).draws = s.draws ∧ (purgeEnded s).pending = s.pending := by
  simp [purgeEnded]

/-! ### The parental limit unit -/

@[simp] theorem withPosted_frame (f : PluPosting → PluPosting) :
    (withPosted f s).cin = s.cin ∧ (withPosted f s).routes = s.routes ∧ (withPosted f s).queues = s.queues ∧
    (withPosted f s).tmb = s.tmb ∧ (withPosted f s).scp = s.scp ∧ (withPosted f s).sdr = s.sdr ∧ (withPosted f
    s).cce = s.cce ∧ (withPosted f s).dsc = s.dsc ∧ (withPosted f s).enu = s.enu ∧ (withPosted f s).gds = s.gds
    ∧ (withPosted f s).pgt = s.pgt ∧ (withPosted f s).gwn = s.gwn ∧ (withPosted f s).rqh = s.rqh ∧ (withPosted f
    s).rpq = s.rpq ∧ (withPosted f s).lanes = s.lanes ∧ (withPosted f s).rts = s.rts ∧ (withPosted f s).power =
    s.power ∧ (withPosted f s).inFlight = s.inFlight ∧ (withPosted f s).draws = s.draws ∧ (withPosted f
    s).pending = s.pending := by
  simp [withPosted]

@[simp] theorem evalRating_frame :
    (evalRating s).cin = s.cin ∧ (evalRating s).routes = s.routes ∧ (evalRating s).queues = s.queues ∧
    (evalRating s).tmb = s.tmb ∧ (evalRating s).scp = s.scp ∧ (evalRating s).sdr = s.sdr ∧ (evalRating s).cce =
    s.cce ∧ (evalRating s).dsc = s.dsc ∧ (evalRating s).enu = s.enu ∧ (evalRating s).gds = s.gds ∧ (evalRating
    s).pgt = s.pgt ∧ (evalRating s).gwn = s.gwn ∧ (evalRating s).rqh = s.rqh ∧ (evalRating s).rpq = s.rpq ∧
    (evalRating s).lanes = s.lanes ∧ (evalRating s).rts = s.rts ∧ (evalRating s).power = s.power ∧ (evalRating
    s).inFlight = s.inFlight ∧ (evalRating s).draws = s.draws ∧ (evalRating s).pending = s.pending := by
  simp [evalRating]

@[simp] theorem evalLocked_frame :
    (evalLocked s).cin = s.cin ∧ (evalLocked s).routes = s.routes ∧ (evalLocked s).queues = s.queues ∧
    (evalLocked s).tmb = s.tmb ∧ (evalLocked s).scp = s.scp ∧ (evalLocked s).sdr = s.sdr ∧ (evalLocked s).cce =
    s.cce ∧ (evalLocked s).dsc = s.dsc ∧ (evalLocked s).enu = s.enu ∧ (evalLocked s).gds = s.gds ∧ (evalLocked
    s).pgt = s.pgt ∧ (evalLocked s).gwn = s.gwn ∧ (evalLocked s).rqh = s.rqh ∧ (evalLocked s).rpq = s.rpq ∧
    (evalLocked s).lanes = s.lanes ∧ (evalLocked s).rts = s.rts ∧ (evalLocked s).power = s.power ∧ (evalLocked
    s).inFlight = s.inFlight ∧ (evalLocked s).draws = s.draws ∧ (evalLocked s).pending = s.pending := by
  simp [evalLocked]

@[simp] theorem evalHours_frame :
    (evalHours s).cin = s.cin ∧ (evalHours s).routes = s.routes ∧ (evalHours s).queues = s.queues ∧ (evalHours
    s).tmb = s.tmb ∧ (evalHours s).scp = s.scp ∧ (evalHours s).sdr = s.sdr ∧ (evalHours s).cce = s.cce ∧
    (evalHours s).dsc = s.dsc ∧ (evalHours s).enu = s.enu ∧ (evalHours s).gds = s.gds ∧ (evalHours s).pgt =
    s.pgt ∧ (evalHours s).gwn = s.gwn ∧ (evalHours s).rqh = s.rqh ∧ (evalHours s).rpq = s.rpq ∧ (evalHours
    s).lanes = s.lanes ∧ (evalHours s).rts = s.rts ∧ (evalHours s).power = s.power ∧ (evalHours s).inFlight =
    s.inFlight ∧ (evalHours s).draws = s.draws ∧ (evalHours s).pending = s.pending := by
  simp [evalHours]

@[simp] theorem evalBudget_frame :
    (evalBudget s).cin = s.cin ∧ (evalBudget s).routes = s.routes ∧ (evalBudget s).queues = s.queues ∧
    (evalBudget s).tmb = s.tmb ∧ (evalBudget s).scp = s.scp ∧ (evalBudget s).sdr = s.sdr ∧ (evalBudget s).cce =
    s.cce ∧ (evalBudget s).dsc = s.dsc ∧ (evalBudget s).enu = s.enu ∧ (evalBudget s).gds = s.gds ∧ (evalBudget
    s).pgt = s.pgt ∧ (evalBudget s).gwn = s.gwn ∧ (evalBudget s).rqh = s.rqh ∧ (evalBudget s).rpq = s.rpq ∧
    (evalBudget s).lanes = s.lanes ∧ (evalBudget s).rts = s.rts ∧ (evalBudget s).power = s.power ∧ (evalBudget
    s).inFlight = s.inFlight ∧ (evalBudget s).draws = s.draws ∧ (evalBudget s).pending = s.pending := by
  simp [evalBudget]

@[simp] theorem evalMask_frame :
    (evalMask s).cin = s.cin ∧ (evalMask s).routes = s.routes ∧ (evalMask s).queues = s.queues ∧ (evalMask
    s).tmb = s.tmb ∧ (evalMask s).scp = s.scp ∧ (evalMask s).sdr = s.sdr ∧ (evalMask s).cce = s.cce ∧ (evalMask
    s).dsc = s.dsc ∧ (evalMask s).enu = s.enu ∧ (evalMask s).gds = s.gds ∧ (evalMask s).pgt = s.pgt ∧ (evalMask
    s).gwn = s.gwn ∧ (evalMask s).rqh = s.rqh ∧ (evalMask s).rpq = s.rpq ∧ (evalMask s).lanes = s.lanes ∧
    (evalMask s).rts = s.rts ∧ (evalMask s).power = s.power ∧ (evalMask s).inFlight = s.inFlight ∧ (evalMask
    s).draws = s.draws ∧ (evalMask s).pending = s.pending := by
  simp [evalMask]

@[simp] theorem settleAccrual_frame :
    (settleAccrual s).cin = s.cin ∧ (settleAccrual s).routes = s.routes ∧ (settleAccrual s).queues = s.queues ∧
    (settleAccrual s).tmb = s.tmb ∧ (settleAccrual s).scp = s.scp ∧ (settleAccrual s).sdr = s.sdr ∧
    (settleAccrual s).cce = s.cce ∧ (settleAccrual s).dsc = s.dsc ∧ (settleAccrual s).enu = s.enu ∧
    (settleAccrual s).gds = s.gds ∧ (settleAccrual s).pgt = s.pgt ∧ (settleAccrual s).gwn = s.gwn ∧
    (settleAccrual s).rqh = s.rqh ∧ (settleAccrual s).rpq = s.rpq ∧ (settleAccrual s).lanes = s.lanes ∧
    (settleAccrual s).rts = s.rts ∧ (settleAccrual s).power = s.power ∧ (settleAccrual s).inFlight = s.inFlight
    ∧ (settleAccrual s).draws = s.draws ∧ (settleAccrual s).pending = s.pending := by
  simp [settleAccrual]

@[simp] theorem flushPosting_frame (p : PluPosting) :
    (flushPosting p s).cin = s.cin ∧ (flushPosting p s).routes = s.routes ∧ (flushPosting p s).queues = s.queues
    ∧ (flushPosting p s).tmb = s.tmb ∧ (flushPosting p s).scp = s.scp ∧ (flushPosting p s).sdr = s.sdr ∧
    (flushPosting p s).cce = s.cce ∧ (flushPosting p s).dsc = s.dsc ∧ (flushPosting p s).enu = s.enu ∧
    (flushPosting p s).gds = s.gds ∧ (flushPosting p s).plu = s.plu ∧ (flushPosting p s).pgt = s.pgt ∧
    (flushPosting p s).gwn = s.gwn ∧ (flushPosting p s).rqh = s.rqh ∧ (flushPosting p s).rpq = s.rpq ∧
    (flushPosting p s).lanes = s.lanes ∧ (flushPosting p s).rts = s.rts ∧ (flushPosting p s).power = s.power ∧
    (flushPosting p s).draws = s.draws ∧ (flushPosting p s).pending = s.pending := by
  simp only [flushPosting]
  (repeat' split) <;> simp

@[simp] theorem withProfile_frame (n : Nat) (f : Profile → Profile) :
    (withProfile n f s).cin = s.cin ∧ (withProfile n f s).routes = s.routes ∧ (withProfile n f s).queues =
    s.queues ∧ (withProfile n f s).tmb = s.tmb ∧ (withProfile n f s).scp = s.scp ∧ (withProfile n f s).sdr =
    s.sdr ∧ (withProfile n f s).cce = s.cce ∧ (withProfile n f s).dsc = s.dsc ∧ (withProfile n f s).enu = s.enu
    ∧ (withProfile n f s).gds = s.gds ∧ (withProfile n f s).pgt = s.pgt ∧ (withProfile n f s).gwn = s.gwn ∧
    (withProfile n f s).rqh = s.rqh ∧ (withProfile n f s).rpq = s.rpq ∧ (withProfile n f s).lanes = s.lanes ∧
    (withProfile n f s).rts = s.rts ∧ (withProfile n f s).power = s.power ∧ (withProfile n f s).inFlight =
    s.inFlight ∧ (withProfile n f s).draws = s.draws ∧ (withProfile n f s).pending = s.pending := by
  simp [withProfile]

@[simp] theorem warnTest_frame (n : Nat) :
    (warnTest n s).cin = s.cin ∧ (warnTest n s).routes = s.routes ∧ (warnTest n s).queues = s.queues ∧ (warnTest
    n s).tmb = s.tmb ∧ (warnTest n s).scp = s.scp ∧ (warnTest n s).sdr = s.sdr ∧ (warnTest n s).cce = s.cce ∧
    (warnTest n s).dsc = s.dsc ∧ (warnTest n s).enu = s.enu ∧ (warnTest n s).gds = s.gds ∧ (warnTest n s).pgt =
    s.pgt ∧ (warnTest n s).gwn = s.gwn ∧ (warnTest n s).rqh = s.rqh ∧ (warnTest n s).lanes = s.lanes ∧ (warnTest
    n s).rts = s.rts ∧ (warnTest n s).power = s.power ∧ (warnTest n s).inFlight = s.inFlight ∧ (warnTest n
    s).draws = s.draws ∧ (warnTest n s).pending = s.pending := by
  simp only [warnTest]
  (repeat' split) <;> simp

@[simp] theorem spentTest_frame (n : Nat) (p : Profile) :
    (spentTest n p s).cin = s.cin ∧ (spentTest n p s).routes = s.routes ∧ (spentTest n p s).queues = s.queues ∧
    (spentTest n p s).tmb = s.tmb ∧ (spentTest n p s).scp = s.scp ∧ (spentTest n p s).sdr = s.sdr ∧ (spentTest n
    p s).cce = s.cce ∧ (spentTest n p s).dsc = s.dsc ∧ (spentTest n p s).enu = s.enu ∧ (spentTest n p s).gds =
    s.gds ∧ (spentTest n p s).plu = s.plu ∧ (spentTest n p s).pgt = s.pgt ∧ (spentTest n p s).gwn = s.gwn ∧
    (spentTest n p s).rqh = s.rqh ∧ (spentTest n p s).lanes = s.lanes ∧ (spentTest n p s).rts = s.rts ∧
    (spentTest n p s).power = s.power ∧ (spentTest n p s).inFlight = s.inFlight ∧ (spentTest n p s).draws =
    s.draws ∧ (spentTest n p s).pending = s.pending := by
  simp only [spentTest]
  (repeat' split) <;> simp

@[simp] theorem budgetTests_frame (n : Nat) (p : Profile) :
    (budgetTests n p s).cin = s.cin ∧ (budgetTests n p s).routes = s.routes ∧ (budgetTests n p s).queues =
    s.queues ∧ (budgetTests n p s).tmb = s.tmb ∧ (budgetTests n p s).scp = s.scp ∧ (budgetTests n p s).sdr =
    s.sdr ∧ (budgetTests n p s).cce = s.cce ∧ (budgetTests n p s).dsc = s.dsc ∧ (budgetTests n p s).enu = s.enu
    ∧ (budgetTests n p s).gds = s.gds ∧ (budgetTests n p s).pgt = s.pgt ∧ (budgetTests n p s).gwn = s.gwn ∧
    (budgetTests n p s).rqh = s.rqh ∧ (budgetTests n p s).lanes = s.lanes ∧ (budgetTests n p s).rts = s.rts ∧
    (budgetTests n p s).power = s.power ∧ (budgetTests n p s).inFlight = s.inFlight ∧ (budgetTests n p s).draws
    = s.draws ∧ (budgetTests n p s).pending = s.pending := by
  simp [budgetTests]

@[simp] theorem accrueMinute_frame :
    (accrueMinute s).cin = s.cin ∧ (accrueMinute s).routes = s.routes ∧ (accrueMinute s).queues = s.queues ∧
    (accrueMinute s).tmb = s.tmb ∧ (accrueMinute s).scp = s.scp ∧ (accrueMinute s).sdr = s.sdr ∧ (accrueMinute
    s).cce = s.cce ∧ (accrueMinute s).dsc = s.dsc ∧ (accrueMinute s).enu = s.enu ∧ (accrueMinute s).gds = s.gds
    ∧ (accrueMinute s).pgt = s.pgt ∧ (accrueMinute s).gwn = s.gwn ∧ (accrueMinute s).rqh = s.rqh ∧ (accrueMinute
    s).lanes = s.lanes ∧ (accrueMinute s).rts = s.rts ∧ (accrueMinute s).power = s.power ∧ (accrueMinute
    s).inFlight = s.inFlight ∧ (accrueMinute s).draws = s.draws ∧ (accrueMinute s).pending = s.pending := by
  simp [accrueMinute]

@[simp] theorem accrueSecond_frame :
    (accrueSecond s).cin = s.cin ∧ (accrueSecond s).routes = s.routes ∧ (accrueSecond s).queues = s.queues ∧
    (accrueSecond s).tmb = s.tmb ∧ (accrueSecond s).scp = s.scp ∧ (accrueSecond s).sdr = s.sdr ∧ (accrueSecond
    s).cce = s.cce ∧ (accrueSecond s).dsc = s.dsc ∧ (accrueSecond s).enu = s.enu ∧ (accrueSecond s).gds = s.gds
    ∧ (accrueSecond s).pgt = s.pgt ∧ (accrueSecond s).gwn = s.gwn ∧ (accrueSecond s).rqh = s.rqh ∧ (accrueSecond
    s).lanes = s.lanes ∧ (accrueSecond s).rts = s.rts ∧ (accrueSecond s).power = s.power ∧ (accrueSecond
    s).inFlight = s.inFlight ∧ (accrueSecond s).draws = s.draws ∧ (accrueSecond s).pending = s.pending := by
  simp only [accrueSecond]
  (repeat' split) <;> simp

@[simp] theorem rollTests_frame (p : Plu) :
    (rollTests p s).cin = s.cin ∧ (rollTests p s).routes = s.routes ∧ (rollTests p s).queues = s.queues ∧
    (rollTests p s).tmb = s.tmb ∧ (rollTests p s).scp = s.scp ∧ (rollTests p s).sdr = s.sdr ∧ (rollTests p
    s).cce = s.cce ∧ (rollTests p s).dsc = s.dsc ∧ (rollTests p s).enu = s.enu ∧ (rollTests p s).gds = s.gds ∧
    (rollTests p s).pgt = s.pgt ∧ (rollTests p s).gwn = s.gwn ∧ (rollTests p s).rqh = s.rqh ∧ (rollTests p
    s).lanes = s.lanes ∧ (rollTests p s).rts = s.rts ∧ (rollTests p s).power = s.power ∧ (rollTests p
    s).inFlight = s.inFlight ∧ (rollTests p s).draws = s.draws ∧ (rollTests p s).pending = s.pending := by
  unfold rollTests
  generalize List.range 4 = ns
  induction ns generalizing s with
  | nil => simp
  | cons n ns ih => simp only [List.foldl_cons]; split <;> simp [ih]

@[simp] theorem rollDay_frame (n : Int) :
    (rollDay n s).cin = s.cin ∧ (rollDay n s).routes = s.routes ∧ (rollDay n s).queues = s.queues ∧ (rollDay n
    s).tmb = s.tmb ∧ (rollDay n s).scp = s.scp ∧ (rollDay n s).sdr = s.sdr ∧ (rollDay n s).cce = s.cce ∧
    (rollDay n s).dsc = s.dsc ∧ (rollDay n s).enu = s.enu ∧ (rollDay n s).gds = s.gds ∧ (rollDay n s).pgt =
    s.pgt ∧ (rollDay n s).gwn = s.gwn ∧ (rollDay n s).rqh = s.rqh ∧ (rollDay n s).lanes = s.lanes ∧ (rollDay n
    s).rts = s.rts ∧ (rollDay n s).power = s.power ∧ (rollDay n s).draws = s.draws ∧ (rollDay n s).pending =
    s.pending := by
  simp [rollDay]

@[simp] theorem rollIfRisen_frame :
    (rollIfRisen s).cin = s.cin ∧ (rollIfRisen s).routes = s.routes ∧ (rollIfRisen s).queues = s.queues ∧
    (rollIfRisen s).tmb = s.tmb ∧ (rollIfRisen s).scp = s.scp ∧ (rollIfRisen s).sdr = s.sdr ∧ (rollIfRisen
    s).cce = s.cce ∧ (rollIfRisen s).dsc = s.dsc ∧ (rollIfRisen s).enu = s.enu ∧ (rollIfRisen s).gds = s.gds ∧
    (rollIfRisen s).pgt = s.pgt ∧ (rollIfRisen s).gwn = s.gwn ∧ (rollIfRisen s).rqh = s.rqh ∧ (rollIfRisen
    s).lanes = s.lanes ∧ (rollIfRisen s).rts = s.rts ∧ (rollIfRisen s).power = s.power ∧ (rollIfRisen s).draws =
    s.draws ∧ (rollIfRisen s).pending = s.pending := by
  simp only [rollIfRisen]
  (repeat' split) <;> simp

@[simp] theorem rollAtWallSet_frame :
    (rollAtWallSet s).cin = s.cin ∧ (rollAtWallSet s).routes = s.routes ∧ (rollAtWallSet s).queues = s.queues ∧
    (rollAtWallSet s).tmb = s.tmb ∧ (rollAtWallSet s).scp = s.scp ∧ (rollAtWallSet s).sdr = s.sdr ∧
    (rollAtWallSet s).cce = s.cce ∧ (rollAtWallSet s).dsc = s.dsc ∧ (rollAtWallSet s).enu = s.enu ∧
    (rollAtWallSet s).gds = s.gds ∧ (rollAtWallSet s).pgt = s.pgt ∧ (rollAtWallSet s).gwn = s.gwn ∧
    (rollAtWallSet s).rqh = s.rqh ∧ (rollAtWallSet s).lanes = s.lanes ∧ (rollAtWallSet s).rts = s.rts ∧
    (rollAtWallSet s).power = s.power ∧ (rollAtWallSet s).draws = s.draws ∧ (rollAtWallSet s).pending =
    s.pending := by
  simp only [rollAtWallSet]
  (repeat' split) <;> simp

@[simp] theorem setBudget_frame (p m n t : Nat) :
    (setBudget p m n t s).cin = s.cin ∧ (setBudget p m n t s).routes = s.routes ∧ (setBudget p m n t s).queues =
    s.queues ∧ (setBudget p m n t s).tmb = s.tmb ∧ (setBudget p m n t s).scp = s.scp ∧ (setBudget p m n t s).sdr
    = s.sdr ∧ (setBudget p m n t s).cce = s.cce ∧ (setBudget p m n t s).dsc = s.dsc ∧ (setBudget p m n t s).enu
    = s.enu ∧ (setBudget p m n t s).gds = s.gds ∧ (setBudget p m n t s).pgt = s.pgt ∧ (setBudget p m n t s).gwn
    = s.gwn ∧ (setBudget p m n t s).lanes = s.lanes ∧ (setBudget p m n t s).rts = s.rts ∧ (setBudget p m n t
    s).power = s.power ∧ (setBudget p m n t s).inFlight = s.inFlight ∧ (setBudget p m n t s).draws = s.draws ∧
    (setBudget p m n t s).pending = s.pending := by
  simp only [setBudget]
  (repeat' split) <;> simp

@[simp] theorem stopOverride_frame (c : OverrideCause) :
    (stopOverride c s).cin = s.cin ∧ (stopOverride c s).routes = s.routes ∧ (stopOverride c s).queues = s.queues
    ∧ (stopOverride c s).tmb = s.tmb ∧ (stopOverride c s).sdr = s.sdr ∧ (stopOverride c s).cce = s.cce ∧
    (stopOverride c s).dsc = s.dsc ∧ (stopOverride c s).enu = s.enu ∧ (stopOverride c s).gds = s.gds ∧
    (stopOverride c s).pgt = s.pgt ∧ (stopOverride c s).gwn = s.gwn ∧ (stopOverride c s).rqh = s.rqh ∧
    (stopOverride c s).lanes = s.lanes ∧ (stopOverride c s).rts = s.rts ∧ (stopOverride c s).power = s.power ∧
    (stopOverride c s).inFlight = s.inFlight ∧ (stopOverride c s).draws = s.draws ∧ (stopOverride c s).pending =
    s.pending := by
  simp only [stopOverride]
  (repeat' split) <;> simp

@[simp] theorem beginOverride_frame (n : Option Nat) (m : Nat) :
    (beginOverride n m s).cin = s.cin ∧ (beginOverride n m s).routes = s.routes ∧ (beginOverride n m s).queues =
    s.queues ∧ (beginOverride n m s).tmb = s.tmb ∧ (beginOverride n m s).sdr = s.sdr ∧ (beginOverride n m s).cce
    = s.cce ∧ (beginOverride n m s).dsc = s.dsc ∧ (beginOverride n m s).enu = s.enu ∧ (beginOverride n m s).gds
    = s.gds ∧ (beginOverride n m s).pgt = s.pgt ∧ (beginOverride n m s).gwn = s.gwn ∧ (beginOverride n m
    s).lanes = s.lanes ∧ (beginOverride n m s).rts = s.rts ∧ (beginOverride n m s).power = s.power ∧
    (beginOverride n m s).inFlight = s.inFlight ∧ (beginOverride n m s).draws = s.draws ∧ (beginOverride n m
    s).pending = s.pending := by
  simp [beginOverride]

@[simp] theorem override_frame (m n : Nat) :
    (override m n s).cin = s.cin ∧ (override m n s).routes = s.routes ∧ (override m n s).queues = s.queues ∧
    (override m n s).tmb = s.tmb ∧ (override m n s).sdr = s.sdr ∧ (override m n s).cce = s.cce ∧ (override m n
    s).dsc = s.dsc ∧ (override m n s).enu = s.enu ∧ (override m n s).gds = s.gds ∧ (override m n s).pgt = s.pgt
    ∧ (override m n s).gwn = s.gwn ∧ (override m n s).lanes = s.lanes ∧ (override m n s).rts = s.rts ∧ (override
    m n s).power = s.power ∧ (override m n s).inFlight = s.inFlight ∧ (override m n s).draws = s.draws ∧
    (override m n s).pending = s.pending := by
  simp only [override]
  (repeat' split) <;> simp

@[simp] theorem endOverride_frame :
    (endOverride s).cin = s.cin ∧ (endOverride s).routes = s.routes ∧ (endOverride s).queues = s.queues ∧
    (endOverride s).tmb = s.tmb ∧ (endOverride s).sdr = s.sdr ∧ (endOverride s).cce = s.cce ∧ (endOverride
    s).dsc = s.dsc ∧ (endOverride s).enu = s.enu ∧ (endOverride s).gds = s.gds ∧ (endOverride s).pgt = s.pgt ∧
    (endOverride s).gwn = s.gwn ∧ (endOverride s).lanes = s.lanes ∧ (endOverride s).rts = s.rts ∧ (endOverride
    s).power = s.power ∧ (endOverride s).inFlight = s.inFlight ∧ (endOverride s).draws = s.draws ∧ (endOverride
    s).pending = s.pending := by
  simp only [endOverride]
  (repeat' split) <;> simp

@[simp] theorem selectProfile_frame (n : Nat) :
    (selectProfile n s).cin = s.cin ∧ (selectProfile n s).routes = s.routes ∧ (selectProfile n s).queues =
    s.queues ∧ (selectProfile n s).tmb = s.tmb ∧ (selectProfile n s).sdr = s.sdr ∧ (selectProfile n s).cce =
    s.cce ∧ (selectProfile n s).dsc = s.dsc ∧ (selectProfile n s).enu = s.enu ∧ (selectProfile n s).gds = s.gds
    ∧ (selectProfile n s).pgt = s.pgt ∧ (selectProfile n s).gwn = s.gwn ∧ (selectProfile n s).lanes = s.lanes ∧
    (selectProfile n s).rts = s.rts ∧ (selectProfile n s).power = s.power ∧ (selectProfile n s).draws = s.draws
    ∧ (selectProfile n s).pending = s.pending := by
  simp only [selectProfile]
  (repeat' split) <;> simp

@[simp] theorem setProfileLimits_frame (p c b u f : Nat) :
    (setProfileLimits p c b u f s).cin = s.cin ∧ (setProfileLimits p c b u f s).routes = s.routes ∧
    (setProfileLimits p c b u f s).queues = s.queues ∧ (setProfileLimits p c b u f s).tmb = s.tmb ∧
    (setProfileLimits p c b u f s).scp = s.scp ∧ (setProfileLimits p c b u f s).sdr = s.sdr ∧ (setProfileLimits
    p c b u f s).cce = s.cce ∧ (setProfileLimits p c b u f s).dsc = s.dsc ∧ (setProfileLimits p c b u f s).enu =
    s.enu ∧ (setProfileLimits p c b u f s).gds = s.gds ∧ (setProfileLimits p c b u f s).pgt = s.pgt ∧
    (setProfileLimits p c b u f s).gwn = s.gwn ∧ (setProfileLimits p c b u f s).lanes = s.lanes ∧
    (setProfileLimits p c b u f s).rts = s.rts ∧ (setProfileLimits p c b u f s).power = s.power ∧
    (setProfileLimits p c b u f s).inFlight = s.inFlight ∧ (setProfileLimits p c b u f s).draws = s.draws ∧
    (setProfileLimits p c b u f s).pending = s.pending := by
  simp only [setProfileLimits]
  (repeat' split) <;> simp

@[simp] theorem lockChanged_frame (p : Nat) :
    (lockChanged p s).cin = s.cin ∧ (lockChanged p s).routes = s.routes ∧ (lockChanged p s).queues = s.queues ∧
    (lockChanged p s).tmb = s.tmb ∧ (lockChanged p s).scp = s.scp ∧ (lockChanged p s).sdr = s.sdr ∧ (lockChanged
    p s).cce = s.cce ∧ (lockChanged p s).dsc = s.dsc ∧ (lockChanged p s).enu = s.enu ∧ (lockChanged p s).gds =
    s.gds ∧ (lockChanged p s).pgt = s.pgt ∧ (lockChanged p s).gwn = s.gwn ∧ (lockChanged p s).rqh = s.rqh ∧
    (lockChanged p s).rpq = s.rpq ∧ (lockChanged p s).lanes = s.lanes ∧ (lockChanged p s).rts = s.rts ∧
    (lockChanged p s).power = s.power ∧ (lockChanged p s).inFlight = s.inFlight ∧ (lockChanged p s).draws =
    s.draws ∧ (lockChanged p s).pending = s.pending := by
  simp only [lockChanged]
  (repeat' split) <;> simp

@[simp] theorem lockService_frame (p n : Nat) :
    (lockService p n s).cin = s.cin ∧ (lockService p n s).routes = s.routes ∧ (lockService p n s).queues =
    s.queues ∧ (lockService p n s).tmb = s.tmb ∧ (lockService p n s).scp = s.scp ∧ (lockService p n s).sdr =
    s.sdr ∧ (lockService p n s).cce = s.cce ∧ (lockService p n s).dsc = s.dsc ∧ (lockService p n s).enu = s.enu
    ∧ (lockService p n s).gds = s.gds ∧ (lockService p n s).pgt = s.pgt ∧ (lockService p n s).gwn = s.gwn ∧
    (lockService p n s).lanes = s.lanes ∧ (lockService p n s).rts = s.rts ∧ (lockService p n s).power = s.power
    ∧ (lockService p n s).inFlight = s.inFlight ∧ (lockService p n s).draws = s.draws ∧ (lockService p n
    s).pending = s.pending := by
  simp only [lockService]
  (repeat' split) <;> simp

@[simp] theorem unlockService_frame (p n : Nat) :
    (unlockService p n s).cin = s.cin ∧ (unlockService p n s).routes = s.routes ∧ (unlockService p n s).queues =
    s.queues ∧ (unlockService p n s).tmb = s.tmb ∧ (unlockService p n s).scp = s.scp ∧ (unlockService p n s).sdr
    = s.sdr ∧ (unlockService p n s).cce = s.cce ∧ (unlockService p n s).dsc = s.dsc ∧ (unlockService p n s).enu
    = s.enu ∧ (unlockService p n s).gds = s.gds ∧ (unlockService p n s).pgt = s.pgt ∧ (unlockService p n s).gwn
    = s.gwn ∧ (unlockService p n s).lanes = s.lanes ∧ (unlockService p n s).rts = s.rts ∧ (unlockService p n
    s).power = s.power ∧ (unlockService p n s).inFlight = s.inFlight ∧ (unlockService p n s).draws = s.draws ∧
    (unlockService p n s).pending = s.pending := by
  simp only [unlockService]
  (repeat' split) <;> simp

@[simp] theorem hostMute_frame (v : Nat) :
    (hostMute v s).cin = s.cin ∧ (hostMute v s).routes = s.routes ∧ (hostMute v s).queues = s.queues ∧ (hostMute
    v s).tmb = s.tmb ∧ (hostMute v s).scp = s.scp ∧ (hostMute v s).sdr = s.sdr ∧ (hostMute v s).cce = s.cce ∧
    (hostMute v s).dsc = s.dsc ∧ (hostMute v s).enu = s.enu ∧ (hostMute v s).gds = s.gds ∧ (hostMute v s).pgt =
    s.pgt ∧ (hostMute v s).gwn = s.gwn ∧ (hostMute v s).lanes = s.lanes ∧ (hostMute v s).rts = s.rts ∧ (hostMute
    v s).power = s.power ∧ (hostMute v s).inFlight = s.inFlight ∧ (hostMute v s).draws = s.draws ∧ (hostMute v
    s).pending = s.pending := by
  simp only [hostMute]
  (repeat' split) <;> simp

@[simp] theorem applyRatingSection_frame (x : Section) :
    (applyRatingSection x s).cin = s.cin ∧ (applyRatingSection x s).routes = s.routes ∧ (applyRatingSection x
    s).queues = s.queues ∧ (applyRatingSection x s).tmb = s.tmb ∧ (applyRatingSection x s).scp = s.scp ∧
    (applyRatingSection x s).sdr = s.sdr ∧ (applyRatingSection x s).cce = s.cce ∧ (applyRatingSection x s).dsc =
    s.dsc ∧ (applyRatingSection x s).enu = s.enu ∧ (applyRatingSection x s).gds = s.gds ∧ (applyRatingSection x
    s).pgt = s.pgt ∧ (applyRatingSection x s).gwn = s.gwn ∧ (applyRatingSection x s).rqh = s.rqh ∧
    (applyRatingSection x s).rpq = s.rpq ∧ (applyRatingSection x s).lanes = s.lanes ∧ (applyRatingSection x
    s).rts = s.rts ∧ (applyRatingSection x s).power = s.power ∧ (applyRatingSection x s).inFlight = s.inFlight ∧
    (applyRatingSection x s).draws = s.draws ∧ (applyRatingSection x s).pending = s.pending := by
  simp only [applyRatingSection]
  (repeat' split) <;> simp

@[simp] theorem takeNowEvent_frame (n : Option Nat) (e : Option NowEvent) :
    (takeNowEvent n e s).cin = s.cin ∧ (takeNowEvent n e s).routes = s.routes ∧ (takeNowEvent n e s).queues =
    s.queues ∧ (takeNowEvent n e s).tmb = s.tmb ∧ (takeNowEvent n e s).scp = s.scp ∧ (takeNowEvent n e s).sdr =
    s.sdr ∧ (takeNowEvent n e s).cce = s.cce ∧ (takeNowEvent n e s).dsc = s.dsc ∧ (takeNowEvent n e s).enu =
    s.enu ∧ (takeNowEvent n e s).gds = s.gds ∧ (takeNowEvent n e s).pgt = s.pgt ∧ (takeNowEvent n e s).gwn =
    s.gwn ∧ (takeNowEvent n e s).rqh = s.rqh ∧ (takeNowEvent n e s).rpq = s.rpq ∧ (takeNowEvent n e s).lanes =
    s.lanes ∧ (takeNowEvent n e s).rts = s.rts ∧ (takeNowEvent n e s).power = s.power ∧ (takeNowEvent n e
    s).inFlight = s.inFlight ∧ (takeNowEvent n e s).draws = s.draws ∧ (takeNowEvent n e s).pending = s.pending := by
  simp [takeNowEvent]

@[simp] theorem takeContext_frame (c : ContextCause) (n m : Option Nat) :
    (takeContext c n m s).cin = s.cin ∧ (takeContext c n m s).routes = s.routes ∧ (takeContext c n m s).queues =
    s.queues ∧ (takeContext c n m s).tmb = s.tmb ∧ (takeContext c n m s).sdr = s.sdr ∧ (takeContext c n m s).cce
    = s.cce ∧ (takeContext c n m s).dsc = s.dsc ∧ (takeContext c n m s).enu = s.enu ∧ (takeContext c n m s).gds
    = s.gds ∧ (takeContext c n m s).pgt = s.pgt ∧ (takeContext c n m s).gwn = s.gwn ∧ (takeContext c n m s).rqh
    = s.rqh ∧ (takeContext c n m s).lanes = s.lanes ∧ (takeContext c n m s).rts = s.rts ∧ (takeContext c n m
    s).power = s.power ∧ (takeContext c n m s).inFlight = s.inFlight ∧ (takeContext c n m s).draws = s.draws ∧
    (takeContext c n m s).pending = s.pending := by
  simp only [takeContext]
  (repeat' split) <;> simp

/-! ### The gate -/

@[simp] theorem takePluPosting_frame :
    (takePluPosting s).cin = s.cin ∧ (takePluPosting s).routes = s.routes ∧ (takePluPosting s).queues = s.queues
    ∧ (takePluPosting s).tmb = s.tmb ∧ (takePluPosting s).scp = s.scp ∧ (takePluPosting s).sdr = s.sdr ∧
    (takePluPosting s).cce = s.cce ∧ (takePluPosting s).dsc = s.dsc ∧ (takePluPosting s).enu = s.enu ∧
    (takePluPosting s).gds = s.gds ∧ (takePluPosting s).plu = s.plu ∧ (takePluPosting s).gwn = s.gwn ∧
    (takePluPosting s).rqh = s.rqh ∧ (takePluPosting s).lanes = s.lanes ∧ (takePluPosting s).rts = s.rts ∧
    (takePluPosting s).power = s.power ∧ (takePluPosting s).draws = s.draws ∧ (takePluPosting s).pending =
    s.pending := by
  simp only [takePluPosting]
  (repeat' split) <;> simp

/-! ### Cells -/

@[simp] theorem withSerial_frame (p : Port) (f : SerialPort → SerialPort) :
    (withSerial p f s).routes = s.routes ∧ (withSerial p f s).queues = s.queues ∧ (withSerial p f s).tmb = s.tmb
    ∧ (withSerial p f s).scp = s.scp ∧ (withSerial p f s).sdr = s.sdr ∧ (withSerial p f s).cce = s.cce ∧
    (withSerial p f s).dsc = s.dsc ∧ (withSerial p f s).enu = s.enu ∧ (withSerial p f s).gds = s.gds ∧
    (withSerial p f s).plu = s.plu ∧ (withSerial p f s).pgt = s.pgt ∧ (withSerial p f s).gwn = s.gwn ∧
    (withSerial p f s).rqh = s.rqh ∧ (withSerial p f s).rpq = s.rpq ∧ (withSerial p f s).lanes = s.lanes ∧
    (withSerial p f s).rts = s.rts ∧ (withSerial p f s).power = s.power ∧ (withSerial p f s).inFlight =
    s.inFlight ∧ (withSerial p f s).draws = s.draws ∧ (withSerial p f s).pending = s.pending := by
  simp only [withSerial]
  (repeat' split) <;> simp

@[simp] theorem withStrobed_frame (f : StrobedPort → StrobedPort) :
    (withStrobed f s).routes = s.routes ∧ (withStrobed f s).queues = s.queues ∧ (withStrobed f s).tmb = s.tmb ∧
    (withStrobed f s).scp = s.scp ∧ (withStrobed f s).sdr = s.sdr ∧ (withStrobed f s).cce = s.cce ∧ (withStrobed
    f s).dsc = s.dsc ∧ (withStrobed f s).enu = s.enu ∧ (withStrobed f s).gds = s.gds ∧ (withStrobed f s).plu =
    s.plu ∧ (withStrobed f s).pgt = s.pgt ∧ (withStrobed f s).gwn = s.gwn ∧ (withStrobed f s).rqh = s.rqh ∧
    (withStrobed f s).rpq = s.rpq ∧ (withStrobed f s).lanes = s.lanes ∧ (withStrobed f s).rts = s.rts ∧
    (withStrobed f s).power = s.power ∧ (withStrobed f s).inFlight = s.inFlight ∧ (withStrobed f s).draws =
    s.draws ∧ (withStrobed f s).pending = s.pending := by
  simp [withStrobed]

@[simp] theorem countParityError_frame (p : Port) :
    (countParityError p s).routes = s.routes ∧ (countParityError p s).queues = s.queues ∧ (countParityError p
    s).tmb = s.tmb ∧ (countParityError p s).scp = s.scp ∧ (countParityError p s).sdr = s.sdr ∧ (countParityError
    p s).cce = s.cce ∧ (countParityError p s).dsc = s.dsc ∧ (countParityError p s).enu = s.enu ∧
    (countParityError p s).gds = s.gds ∧ (countParityError p s).plu = s.plu ∧ (countParityError p s).pgt = s.pgt
    ∧ (countParityError p s).gwn = s.gwn ∧ (countParityError p s).rqh = s.rqh ∧ (countParityError p s).rpq =
    s.rpq ∧ (countParityError p s).lanes = s.lanes ∧ (countParityError p s).rts = s.rts ∧ (countParityError p
    s).power = s.power ∧ (countParityError p s).inFlight = s.inFlight ∧ (countParityError p s).draws = s.draws ∧
    (countParityError p s).pending = s.pending := by
  simp only [countParityError]
  (repeat' split) <;> simp

@[simp] theorem countUnrouted_frame (p : Port) :
    (countUnrouted p s).routes = s.routes ∧ (countUnrouted p s).queues = s.queues ∧ (countUnrouted p s).tmb =
    s.tmb ∧ (countUnrouted p s).scp = s.scp ∧ (countUnrouted p s).sdr = s.sdr ∧ (countUnrouted p s).cce = s.cce
    ∧ (countUnrouted p s).dsc = s.dsc ∧ (countUnrouted p s).enu = s.enu ∧ (countUnrouted p s).gds = s.gds ∧
    (countUnrouted p s).plu = s.plu ∧ (countUnrouted p s).pgt = s.pgt ∧ (countUnrouted p s).gwn = s.gwn ∧
    (countUnrouted p s).rqh = s.rqh ∧ (countUnrouted p s).rpq = s.rpq ∧ (countUnrouted p s).lanes = s.lanes ∧
    (countUnrouted p s).rts = s.rts ∧ (countUnrouted p s).power = s.power ∧ (countUnrouted p s).inFlight =
    s.inFlight ∧ (countUnrouted p s).draws = s.draws ∧ (countUnrouted p s).pending = s.pending := by
  simp only [countUnrouted]
  (repeat' split) <;> simp

@[simp] theorem countReceived_frame (p : Port) :
    (countReceived p s).routes = s.routes ∧ (countReceived p s).queues = s.queues ∧ (countReceived p s).tmb =
    s.tmb ∧ (countReceived p s).scp = s.scp ∧ (countReceived p s).sdr = s.sdr ∧ (countReceived p s).cce = s.cce
    ∧ (countReceived p s).dsc = s.dsc ∧ (countReceived p s).enu = s.enu ∧ (countReceived p s).gds = s.gds ∧
    (countReceived p s).plu = s.plu ∧ (countReceived p s).pgt = s.pgt ∧ (countReceived p s).gwn = s.gwn ∧
    (countReceived p s).rqh = s.rqh ∧ (countReceived p s).rpq = s.rpq ∧ (countReceived p s).lanes = s.lanes ∧
    (countReceived p s).rts = s.rts ∧ (countReceived p s).power = s.power ∧ (countReceived p s).inFlight =
    s.inFlight ∧ (countReceived p s).draws = s.draws ∧ (countReceived p s).pending = s.pending := by
  simp only [countReceived]
  (repeat' split) <;> simp

@[simp] theorem countUnkeyed_frame (p : Port) :
    (countUnkeyed p s).routes = s.routes ∧ (countUnkeyed p s).queues = s.queues ∧ (countUnkeyed p s).tmb = s.tmb
    ∧ (countUnkeyed p s).scp = s.scp ∧ (countUnkeyed p s).sdr = s.sdr ∧ (countUnkeyed p s).cce = s.cce ∧
    (countUnkeyed p s).dsc = s.dsc ∧ (countUnkeyed p s).enu = s.enu ∧ (countUnkeyed p s).gds = s.gds ∧
    (countUnkeyed p s).plu = s.plu ∧ (countUnkeyed p s).pgt = s.pgt ∧ (countUnkeyed p s).gwn = s.gwn ∧
    (countUnkeyed p s).rqh = s.rqh ∧ (countUnkeyed p s).rpq = s.rpq ∧ (countUnkeyed p s).lanes = s.lanes ∧
    (countUnkeyed p s).rts = s.rts ∧ (countUnkeyed p s).power = s.power ∧ (countUnkeyed p s).inFlight =
    s.inFlight ∧ (countUnkeyed p s).draws = s.draws ∧ (countUnkeyed p s).pending = s.pending := by
  simp only [countUnkeyed]
  (repeat' split) <;> simp

@[simp] theorem reportLock_frame (p : Port) :
    (reportLock p s).cin = s.cin ∧ (reportLock p s).routes = s.routes ∧ (reportLock p s).queues = s.queues ∧
    (reportLock p s).tmb = s.tmb ∧ (reportLock p s).scp = s.scp ∧ (reportLock p s).sdr = s.sdr ∧ (reportLock p
    s).cce = s.cce ∧ (reportLock p s).dsc = s.dsc ∧ (reportLock p s).enu = s.enu ∧ (reportLock p s).gds = s.gds
    ∧ (reportLock p s).plu = s.plu ∧ (reportLock p s).pgt = s.pgt ∧ (reportLock p s).gwn = s.gwn ∧ (reportLock p
    s).rqh = s.rqh ∧ (reportLock p s).lanes = s.lanes ∧ (reportLock p s).rts = s.rts ∧ (reportLock p s).power =
    s.power ∧ (reportLock p s).draws = s.draws ∧ (reportLock p s).pending = s.pending := by
  simp only [reportLock]
  (repeat' split) <;> simp

@[simp] theorem searchByte_frame (p : Port) (b : Byte) :
    (searchByte p b s).routes = s.routes ∧ (searchByte p b s).queues = s.queues ∧ (searchByte p b s).tmb = s.tmb
    ∧ (searchByte p b s).scp = s.scp ∧ (searchByte p b s).sdr = s.sdr ∧ (searchByte p b s).cce = s.cce ∧
    (searchByte p b s).dsc = s.dsc ∧ (searchByte p b s).enu = s.enu ∧ (searchByte p b s).gds = s.gds ∧
    (searchByte p b s).plu = s.plu ∧ (searchByte p b s).pgt = s.pgt ∧ (searchByte p b s).gwn = s.gwn ∧
    (searchByte p b s).rqh = s.rqh ∧ (searchByte p b s).lanes = s.lanes ∧ (searchByte p b s).rts = s.rts ∧
    (searchByte p b s).power = s.power ∧ (searchByte p b s).draws = s.draws ∧ (searchByte p b s).pending =
    s.pending := by
  simp only [searchByte]
  (repeat' split) <;> simp

@[simp] theorem sendPresent_frame (u : RouteUse) (c : Cell) :
    (sendPresent u c s).cin = s.cin ∧ (sendPresent u c s).routes = s.routes ∧ (sendPresent u c s).queues =
    s.queues ∧ (sendPresent u c s).tmb = s.tmb ∧ (sendPresent u c s).scp = s.scp ∧ (sendPresent u c s).sdr =
    s.sdr ∧ (sendPresent u c s).cce = s.cce ∧ (sendPresent u c s).dsc = s.dsc ∧ (sendPresent u c s).enu = s.enu
    ∧ (sendPresent u c s).gds = s.gds ∧ (sendPresent u c s).plu = s.plu ∧ (sendPresent u c s).pgt = s.pgt ∧
    (sendPresent u c s).gwn = s.gwn ∧ (sendPresent u c s).rqh = s.rqh ∧ (sendPresent u c s).rpq = s.rpq ∧
    (sendPresent u c s).rts = s.rts ∧ (sendPresent u c s).power = s.power ∧ (sendPresent u c s).inFlight =
    s.inFlight ∧ (sendPresent u c s).draws = s.draws ∧ (sendPresent u c s).pending = s.pending := by
  simp only [sendPresent]
  (repeat' split) <;> simp

@[simp] theorem clearCell_frame (r : Route) (c : Cell) :
    ((clearCell r c s).2).routes = s.routes ∧ ((clearCell r c s).2).queues = s.queues ∧ ((clearCell r c
    s).2).tmb = s.tmb ∧ ((clearCell r c s).2).scp = s.scp ∧ ((clearCell r c s).2).sdr = s.sdr ∧ ((clearCell r c
    s).2).cce = s.cce ∧ ((clearCell r c s).2).enu = s.enu ∧ ((clearCell r c s).2).gds = s.gds ∧ ((clearCell r c
    s).2).plu = s.plu ∧ ((clearCell r c s).2).gwn = s.gwn ∧ ((clearCell r c
    s).2).rqh = s.rqh ∧ ((clearCell r c s).2).lanes = s.lanes ∧ ((clearCell
    r c s).2).rts = s.rts ∧ ((clearCell r c s).2).power = s.power ∧ ((clearCell r c s).2).draws = s.draws ∧
    ((clearCell r c s).2).pending = s.pending := by
  simp only [clearCell]
  (repeat' split) <;> simp

@[simp] theorem forward_frame (r : Route) (b : Bool) (c : Cell) :
    (forward r b c s).routes = s.routes ∧ (forward r b c s).queues = s.queues ∧ (forward r b c s).tmb = s.tmb ∧
    (forward r b c s).scp = s.scp ∧ (forward r b c s).sdr = s.sdr ∧ (forward r b c s).cce = s.cce ∧ (forward r b
    c s).enu = s.enu ∧ (forward r b c s).gds = s.gds ∧ (forward r b c s).plu = s.plu ∧ (forward r b c s).gwn = s.gwn ∧ (forward r b c s).rqh = s.rqh ∧ (forward r b c s).rts = s.rts ∧ (forward r b c s).power = s.power ∧ (forward r b c s).draws = s.draws ∧
    (forward r b c s).pending = s.pending := by
  simp [forward]

@[simp] theorem spliceOn_frame (k : Nat) (c : Cell) :
    (spliceOn k c s).queues = s.queues ∧ (spliceOn k c s).tmb = s.tmb ∧ (spliceOn k c s).scp = s.scp ∧ (spliceOn k
    c s).sdr = s.sdr ∧ (spliceOn k c s).enu = s.enu ∧ (spliceOn k c s).gds = s.gds ∧ (spliceOn k c s).plu = s.plu
    ∧ (spliceOn k c s).gwn = s.gwn ∧ (spliceOn k c s).rqh = s.rqh ∧ (spliceOn k c s).rts = s.rts ∧ (spliceOn k c
    s).power = s.power ∧ (spliceOn k c s).draws = s.draws ∧ (spliceOn k c s).pending = s.pending := by
  simp only [spliceOn]
  (repeat' split) <;> simp

@[simp] theorem observe_frame (k : Nat) (r : Route) (c : Cell) :
    (observe k r c s).queues = s.queues ∧ (observe k r c s).tmb = s.tmb ∧ (observe k r c s).scp = s.scp ∧ (observe
    k r c s).sdr = s.sdr ∧ (observe k r c s).enu = s.enu ∧ (observe k r c s).gds = s.gds ∧ (observe k r c s).plu =
    s.plu ∧ (observe k r c s).gwn = s.gwn ∧ (observe k r c s).rqh = s.rqh ∧ (observe k r c s).rts = s.rts ∧
    (observe k r c s).power = s.power ∧ (observe k r c s).draws = s.draws ∧ (observe k r c s).pending = s.pending := by
  simp only [observe]
  (repeat' split) <;> simp

@[simp] theorem abandonEntry_frame (k : Nat) :
    (abandonEntry k s).cin = s.cin ∧ (abandonEntry k s).queues = s.queues ∧ (abandonEntry k s).tmb = s.tmb ∧
    (abandonEntry k s).scp = s.scp ∧ (abandonEntry k s).sdr = s.sdr ∧ (abandonEntry k s).cce = s.cce ∧
    (abandonEntry k s).dsc = s.dsc ∧ (abandonEntry k s).enu = s.enu ∧ (abandonEntry k s).gds = s.gds ∧
    (abandonEntry k s).plu = s.plu ∧ (abandonEntry k s).pgt = s.pgt ∧ (abandonEntry k s).gwn = s.gwn ∧
    (abandonEntry k s).rqh = s.rqh ∧ (abandonEntry k s).rpq = s.rpq ∧ (abandonEntry k s).lanes = s.lanes ∧
    (abandonEntry k s).rts = s.rts ∧ (abandonEntry k s).power = s.power ∧ (abandonEntry k s).inFlight =
    s.inFlight ∧ (abandonEntry k s).draws = s.draws ∧ (abandonEntry k s).pending = s.pending := by
  simp [abandonEntry]

@[simp] theorem sectionsCell_frame (k : Nat) (r : Route) (b : Bool) (c : Cell) :
    (sectionsCell k r b c s).tmb = s.tmb ∧ (sectionsCell k r b c s).scp = s.scp ∧ (sectionsCell k r b c s).sdr =
    s.sdr ∧ (sectionsCell k r b c s).cce = s.cce ∧ (sectionsCell k r b c s).dsc = s.dsc ∧ (sectionsCell k r b c
    s).enu = s.enu ∧ (sectionsCell k r b c s).gds = s.gds ∧ (sectionsCell k r b c s).plu = s.plu ∧ (sectionsCell
    k r b c s).pgt = s.pgt ∧ (sectionsCell k r b c s).gwn = s.gwn ∧ (sectionsCell k r b c s).rqh = s.rqh ∧
    (sectionsCell k r b c s).rpq = s.rpq ∧ (sectionsCell k r b c s).lanes = s.lanes ∧ (sectionsCell k r b c
    s).rts = s.rts ∧ (sectionsCell k r b c s).power = s.power ∧ (sectionsCell k r b c s).inFlight = s.inFlight ∧
    (sectionsCell k r b c s).draws = s.draws ∧ (sectionsCell k r b c s).pending = s.pending := by
  simp only [sectionsCell]
  (repeat' split) <;> simp

@[simp] theorem useCell_frame (k : Nat) (r : Route) (b : Bool) (c : Cell) :
    (useCell k r b c s).scp = s.scp ∧ (useCell k r b c s).sdr = s.sdr ∧ (useCell k r b c s).enu = s.enu ∧ (useCell
    k r b c s).gds = s.gds ∧ (useCell k r b c s).plu = s.plu ∧ (useCell k r b c s).gwn = s.gwn ∧ (useCell k r b c
    s).rts = s.rts ∧ (useCell k r b c s).power = s.power ∧ (useCell k r b c s).draws = s.draws ∧ (useCell k r b c
    s).pending = s.pending := by
  simp only [useCell]
  (repeat' split) <;> simp

@[simp] theorem takeCell_frame (k : Nat) (c : Cell) :
    (takeCell k c s).scp = s.scp ∧ (takeCell k c s).sdr = s.sdr ∧ (takeCell k c s).enu = s.enu ∧ (takeCell k c
    s).gds = s.gds ∧ (takeCell k c s).plu = s.plu ∧ (takeCell k c s).gwn = s.gwn ∧ (takeCell k c s).rts = s.rts ∧
    (takeCell k c s).power = s.power ∧ (takeCell k c s).draws = s.draws ∧ (takeCell k c s).pending = s.pending := by
  simp only [takeCell]
  (repeat' split) <;> simp

@[simp] theorem lookup_frame (p : Port) (c : Cell) :
    (lookup p c s).scp = s.scp ∧ (lookup p c s).sdr = s.sdr ∧ (lookup p c s).enu = s.enu ∧ (lookup p c s).gds =
    s.gds ∧ (lookup p c s).plu = s.plu ∧ (lookup p c s).gwn = s.gwn ∧ (lookup p c s).rts = s.rts ∧ (lookup p c
    s).power = s.power ∧ (lookup p c s).draws = s.draws ∧ (lookup p c s).pending = s.pending := by
  simp only [lookup]
  (repeat' split) <;> simp

@[simp] theorem checkHeader_frame (p : Port) (c : Cell) :
    (checkHeader p c s).scp = s.scp ∧ (checkHeader p c s).sdr = s.sdr ∧ (checkHeader p c s).enu = s.enu ∧
    (checkHeader p c s).gds = s.gds ∧ (checkHeader p c s).plu = s.plu ∧ (checkHeader p c s).gwn = s.gwn ∧
    (checkHeader p c s).rts = s.rts ∧ (checkHeader p c s).power = s.power ∧ (checkHeader p c s).draws = s.draws ∧
    (checkHeader p c s).pending = s.pending := by
  simp only [checkHeader]
  (repeat' split) <;> simp

@[simp] theorem losePort_frame (p : Port) :
    (losePort p s).queues = s.queues ∧ (losePort p s).tmb = s.tmb ∧ (losePort p s).scp = s.scp ∧ (losePort p
    s).sdr = s.sdr ∧ (losePort p s).cce = s.cce ∧ (losePort p s).dsc = s.dsc ∧ (losePort p s).enu = s.enu ∧
    (losePort p s).gds = s.gds ∧ (losePort p s).plu = s.plu ∧ (losePort p s).pgt = s.pgt ∧ (losePort p s).gwn =
    s.gwn ∧ (losePort p s).rqh = s.rqh ∧ (losePort p s).lanes = s.lanes ∧ (losePort p s).rts = s.rts ∧ (losePort
    p s).power = s.power ∧ (losePort p s).draws = s.draws ∧ (losePort p s).pending = s.pending := by
  simp only [losePort]
  (repeat' split) <;> simp

@[simp] theorem noteArrival_frame (p : Port) (q : SerialPort) :
    (noteArrival p q s).routes = s.routes ∧ (noteArrival p q s).queues = s.queues ∧ (noteArrival p q s).tmb =
    s.tmb ∧ (noteArrival p q s).scp = s.scp ∧ (noteArrival p q s).sdr = s.sdr ∧ (noteArrival p q s).cce = s.cce
    ∧ (noteArrival p q s).dsc = s.dsc ∧ (noteArrival p q s).enu = s.enu ∧ (noteArrival p q s).gds = s.gds ∧
    (noteArrival p q s).plu = s.plu ∧ (noteArrival p q s).pgt = s.pgt ∧ (noteArrival p q s).gwn = s.gwn ∧
    (noteArrival p q s).rqh = s.rqh ∧ (noteArrival p q s).lanes = s.lanes ∧ (noteArrival p q s).rts = s.rts ∧
    (noteArrival p q s).power = s.power ∧ (noteArrival p q s).inFlight = s.inFlight ∧ (noteArrival p q s).draws
    = s.draws ∧ (noteArrival p q s).pending = s.pending := by
  simp only [noteArrival]
  (repeat' split) <;> simp

@[simp] theorem frameCell_frame (p : Port) (b : List Byte) :
    (frameCell p b s).scp = s.scp ∧ (frameCell p b s).sdr = s.sdr ∧ (frameCell p b s).enu = s.enu ∧ (frameCell p b
    s).gds = s.gds ∧ (frameCell p b s).plu = s.plu ∧ (frameCell p b s).gwn = s.gwn ∧ (frameCell p b s).rts = s.rts
    ∧ (frameCell p b s).power = s.power ∧ (frameCell p b s).draws = s.draws ∧ (frameCell p b s).pending =
    s.pending := by
  simp only [frameCell]
  (repeat' split) <;> simp

@[simp] theorem takeBytes_frame (p : Port) (b : List Byte) :
    (takeBytes p b s).scp = s.scp ∧ (takeBytes p b s).sdr = s.sdr ∧ (takeBytes p b s).enu = s.enu ∧ (takeBytes p b
    s).gds = s.gds ∧ (takeBytes p b s).plu = s.plu ∧ (takeBytes p b s).gwn = s.gwn ∧ (takeBytes p b s).rts = s.rts
    ∧ (takeBytes p b s).power = s.power ∧ (takeBytes p b s).draws = s.draws ∧ (takeBytes p b s).pending =
    s.pending := by
  simp only [takeBytes]
  (repeat' split) <;> simp

@[simp] theorem frameStrobed_frame (b : List Byte) :
    (frameStrobed b s).scp = s.scp ∧ (frameStrobed b s).sdr = s.sdr ∧ (frameStrobed b s).enu = s.enu ∧
    (frameStrobed b s).gds = s.gds ∧ (frameStrobed b s).plu = s.plu ∧ (frameStrobed b s).gwn = s.gwn ∧
    (frameStrobed b s).rts = s.rts ∧ (frameStrobed b s).power = s.power ∧ (frameStrobed b s).draws = s.draws ∧
    (frameStrobed b s).pending = s.pending := by
  simp only [frameStrobed]
  (repeat' split) <;> simp

@[simp] theorem takeStrobed_frame (x : Bool) (b : List Byte) :
    (takeStrobed x b s).scp = s.scp ∧ (takeStrobed x b s).sdr = s.sdr ∧ (takeStrobed x b s).enu = s.enu ∧
    (takeStrobed x b s).gds = s.gds ∧ (takeStrobed x b s).plu = s.plu ∧ (takeStrobed x b s).gwn = s.gwn ∧
    (takeStrobed x b s).rts = s.rts ∧ (takeStrobed x b s).power = s.power ∧ (takeStrobed x b s).draws = s.draws ∧
    (takeStrobed x b s).pending = s.pending := by
  simp only [takeStrobed]
  (repeat' split) <;> simp

@[simp] theorem goIdle_frame (p : Port) :
    (goIdle p s).routes = s.routes ∧ (goIdle p s).queues = s.queues ∧ (goIdle p s).tmb = s.tmb ∧ (goIdle p
    s).scp = s.scp ∧ (goIdle p s).sdr = s.sdr ∧ (goIdle p s).cce = s.cce ∧ (goIdle p s).dsc = s.dsc ∧ (goIdle p
    s).enu = s.enu ∧ (goIdle p s).gds = s.gds ∧ (goIdle p s).plu = s.plu ∧ (goIdle p s).pgt = s.pgt ∧ (goIdle p
    s).gwn = s.gwn ∧ (goIdle p s).rqh = s.rqh ∧ (goIdle p s).lanes = s.lanes ∧ (goIdle p s).rts = s.rts ∧
    (goIdle p s).power = s.power ∧ (goIdle p s).inFlight = s.inFlight ∧ (goIdle p s).draws = s.draws ∧ (goIdle p
    s).pending = s.pending := by
  simp [goIdle]

/-! ### The guide window -/

@[simp] theorem gridSet_frame (t r c n : Nat) :
    (gridSet t r c n s).cin = s.cin ∧ (gridSet t r c n s).routes = s.routes ∧ (gridSet t r c n s).queues =
    s.queues ∧ (gridSet t r c n s).tmb = s.tmb ∧ (gridSet t r c n s).scp = s.scp ∧ (gridSet t r c n s).sdr =
    s.sdr ∧ (gridSet t r c n s).cce = s.cce ∧ (gridSet t r c n s).dsc = s.dsc ∧ (gridSet t r c n s).enu = s.enu
    ∧ (gridSet t r c n s).gds = s.gds ∧ (gridSet t r c n s).plu = s.plu ∧ (gridSet t r c n s).pgt = s.pgt ∧
    (gridSet t r c n s).lanes = s.lanes ∧ (gridSet t r c n s).rts = s.rts ∧ (gridSet t r c n s).power = s.power
    ∧ (gridSet t r c n s).inFlight = s.inFlight ∧ (gridSet t r c n s).draws = s.draws ∧ (gridSet t r c n
    s).pending = s.pending := by
  simp only [gridSet]
  (repeat' split) <;> simp

@[simp] theorem moveCursor_frame (x : Direction) :
    (moveCursor x s).cin = s.cin ∧ (moveCursor x s).routes = s.routes ∧ (moveCursor x s).queues = s.queues ∧
    (moveCursor x s).tmb = s.tmb ∧ (moveCursor x s).scp = s.scp ∧ (moveCursor x s).sdr = s.sdr ∧ (moveCursor x
    s).cce = s.cce ∧ (moveCursor x s).dsc = s.dsc ∧ (moveCursor x s).enu = s.enu ∧ (moveCursor x s).gds = s.gds
    ∧ (moveCursor x s).plu = s.plu ∧ (moveCursor x s).pgt = s.pgt ∧ (moveCursor x s).lanes = s.lanes ∧
    (moveCursor x s).rts = s.rts ∧ (moveCursor x s).power = s.power ∧ (moveCursor x s).inFlight = s.inFlight ∧
    (moveCursor x s).draws = s.draws ∧ (moveCursor x s).pending = s.pending := by
  simp [moveCursor]

@[simp] theorem cursorMove_frame (c : Nat) :
    (cursorMove c s).cin = s.cin ∧ (cursorMove c s).routes = s.routes ∧ (cursorMove c s).queues = s.queues ∧
    (cursorMove c s).tmb = s.tmb ∧ (cursorMove c s).scp = s.scp ∧ (cursorMove c s).sdr = s.sdr ∧ (cursorMove c
    s).cce = s.cce ∧ (cursorMove c s).dsc = s.dsc ∧ (cursorMove c s).enu = s.enu ∧ (cursorMove c s).gds = s.gds
    ∧ (cursorMove c s).plu = s.plu ∧ (cursorMove c s).pgt = s.pgt ∧ (cursorMove c s).lanes = s.lanes ∧
    (cursorMove c s).rts = s.rts ∧ (cursorMove c s).power = s.power ∧ (cursorMove c s).inFlight = s.inFlight ∧
    (cursorMove c s).draws = s.draws ∧ (cursorMove c s).pending = s.pending := by
  simp only [cursorMove]
  (repeat' split) <;> simp

@[simp] theorem gridRead_frame :
    (gridRead s).cin = s.cin ∧ (gridRead s).routes = s.routes ∧ (gridRead s).queues = s.queues ∧ (gridRead
    s).tmb = s.tmb ∧ (gridRead s).scp = s.scp ∧ (gridRead s).sdr = s.sdr ∧ (gridRead s).cce = s.cce ∧ (gridRead
    s).dsc = s.dsc ∧ (gridRead s).enu = s.enu ∧ (gridRead s).gds = s.gds ∧ (gridRead s).plu = s.plu ∧ (gridRead
    s).pgt = s.pgt ∧ (gridRead s).gwn = s.gwn ∧ (gridRead s).lanes = s.lanes ∧ (gridRead s).rts = s.rts ∧
    (gridRead s).power = s.power ∧ (gridRead s).inFlight = s.inFlight ∧ (gridRead s).draws = s.draws ∧ (gridRead
    s).pending = s.pending := by
  simp only [gridRead]
  (repeat' split) <;> simp

/-! ### Requests -/

@[simp] theorem takeRequest_frame (p : List Byte) (r : List (List Byte)) :
    (takeRequest p r s).cin = s.cin ∧ (takeRequest p r s).routes = s.routes ∧ (takeRequest p r s).queues =
    s.queues ∧ (takeRequest p r s).tmb = s.tmb ∧ (takeRequest p r s).scp = s.scp ∧ (takeRequest p r s).sdr =
    s.sdr ∧ (takeRequest p r s).cce = s.cce ∧ (takeRequest p r s).dsc = s.dsc ∧ (takeRequest p r s).enu = s.enu
    ∧ (takeRequest p r s).gds = s.gds ∧ (takeRequest p r s).plu = s.plu ∧ (takeRequest p r s).pgt = s.pgt ∧
    (takeRequest p r s).gwn = s.gwn ∧ (takeRequest p r s).lanes = s.lanes ∧ (takeRequest p r s).rts = s.rts ∧
    (takeRequest p r s).power = s.power ∧ (takeRequest p r s).inFlight = s.inFlight ∧ (takeRequest p r s).draws
    = s.draws ∧ (takeRequest p r s).pending = s.pending := by
  simp only [takeRequest]
  (repeat' split) <;> simp

@[simp] theorem intakeRequest_frame :
    (intakeRequest s).cin = s.cin ∧ (intakeRequest s).routes = s.routes ∧ (intakeRequest s).queues = s.queues ∧
    (intakeRequest s).tmb = s.tmb ∧ (intakeRequest s).scp = s.scp ∧ (intakeRequest s).sdr = s.sdr ∧
    (intakeRequest s).cce = s.cce ∧ (intakeRequest s).dsc = s.dsc ∧ (intakeRequest s).enu = s.enu ∧
    (intakeRequest s).gds = s.gds ∧ (intakeRequest s).plu = s.plu ∧ (intakeRequest s).pgt = s.pgt ∧
    (intakeRequest s).gwn = s.gwn ∧ (intakeRequest s).lanes = s.lanes ∧ (intakeRequest s).rts = s.rts ∧
    (intakeRequest s).power = s.power ∧ (intakeRequest s).inFlight = s.inFlight ∧ (intakeRequest s).draws =
    s.draws ∧ (intakeRequest s).pending = s.pending := by
  simp only [intakeRequest]
  (repeat' split) <;> simp

@[simp] theorem resetRequest_frame :
    (resetRequest s).cin = s.cin ∧ (resetRequest s).routes = s.routes ∧ (resetRequest s).queues = s.queues ∧
    (resetRequest s).tmb = s.tmb ∧ (resetRequest s).scp = s.scp ∧ (resetRequest s).sdr = s.sdr ∧ (resetRequest
    s).cce = s.cce ∧ (resetRequest s).dsc = s.dsc ∧ (resetRequest s).enu = s.enu ∧ (resetRequest s).gds = s.gds
    ∧ (resetRequest s).plu = s.plu ∧ (resetRequest s).pgt = s.pgt ∧ (resetRequest s).gwn = s.gwn ∧ (resetRequest
    s).lanes = s.lanes ∧ (resetRequest s).rts = s.rts ∧ (resetRequest s).power = s.power ∧ (resetRequest
    s).inFlight = s.inFlight ∧ (resetRequest s).draws = s.draws ∧ (resetRequest s).pending = s.pending := by
  simp [resetRequest]

@[simp] theorem setEventMask_frame (c e : Nat) :
    (setEventMask c e s).cin = s.cin ∧ (setEventMask c e s).routes = s.routes ∧ (setEventMask c e s).queues =
    s.queues ∧ (setEventMask c e s).tmb = s.tmb ∧ (setEventMask c e s).scp = s.scp ∧ (setEventMask c e s).sdr =
    s.sdr ∧ (setEventMask c e s).cce = s.cce ∧ (setEventMask c e s).dsc = s.dsc ∧ (setEventMask c e s).enu =
    s.enu ∧ (setEventMask c e s).gds = s.gds ∧ (setEventMask c e s).plu = s.plu ∧ (setEventMask c e s).pgt =
    s.pgt ∧ (setEventMask c e s).gwn = s.gwn ∧ (setEventMask c e s).lanes = s.lanes ∧ (setEventMask c e s).rts =
    s.rts ∧ (setEventMask c e s).power = s.power ∧ (setEventMask c e s).inFlight = s.inFlight ∧ (setEventMask c
    e s).draws = s.draws ∧ (setEventMask c e s).pending = s.pending := by
  simp only [setEventMask]
  (repeat' split) <;> simp

@[simp] theorem clearTrimLimit_frame (t f : Nat) :
    (clearTrimLimit t f s).cin = s.cin ∧ (clearTrimLimit t f s).routes = s.routes ∧ (clearTrimLimit t f
    s).queues = s.queues ∧ (clearTrimLimit t f s).scp = s.scp ∧ (clearTrimLimit t f s).sdr = s.sdr ∧
    (clearTrimLimit t f s).cce = s.cce ∧ (clearTrimLimit t f s).dsc = s.dsc ∧ (clearTrimLimit t f s).enu = s.enu
    ∧ (clearTrimLimit t f s).gds = s.gds ∧ (clearTrimLimit t f s).plu = s.plu ∧ (clearTrimLimit t f s).pgt =
    s.pgt ∧ (clearTrimLimit t f s).gwn = s.gwn ∧ (clearTrimLimit t f s).rqh = s.rqh ∧ (clearTrimLimit t f s).rpq
    = s.rpq ∧ (clearTrimLimit t f s).lanes = s.lanes ∧ (clearTrimLimit t f s).rts = s.rts ∧ (clearTrimLimit t f
    s).power = s.power ∧ (clearTrimLimit t f s).inFlight = s.inFlight ∧ (clearTrimLimit t f s).draws = s.draws ∧
    (clearTrimLimit t f s).pending = s.pending := by
  simp only [clearTrimLimit]
  (repeat' split) <;> simp

@[simp] theorem readTable_frame (t f c : Nat) :
    (readTable t f c s).cin = s.cin ∧ (readTable t f c s).routes = s.routes ∧ (readTable t f c s).queues =
    s.queues ∧ (readTable t f c s).scp = s.scp ∧ (readTable t f c s).sdr = s.sdr ∧ (readTable t f c s).cce =
    s.cce ∧ (readTable t f c s).dsc = s.dsc ∧ (readTable t f c s).enu = s.enu ∧ (readTable t f c s).gds = s.gds
    ∧ (readTable t f c s).plu = s.plu ∧ (readTable t f c s).pgt = s.pgt ∧ (readTable t f c s).gwn = s.gwn ∧
    (readTable t f c s).lanes = s.lanes ∧ (readTable t f c s).rts = s.rts ∧ (readTable t f c s).power = s.power
    ∧ (readTable t f c s).inFlight = s.inFlight ∧ (readTable t f c s).draws = s.draws ∧ (readTable t f c
    s).pending = s.pending := by
  simp only [readTable]
  (repeat' split) <;> simp

@[simp] theorem sendForwarded_frame (c : Cell) (r : List Cell) :
    (sendForwarded c r s).cin = s.cin ∧ (sendForwarded c r s).routes = s.routes ∧ (sendForwarded c r s).queues =
    s.queues ∧ (sendForwarded c r s).tmb = s.tmb ∧ (sendForwarded c r s).scp = s.scp ∧ (sendForwarded c r s).sdr
    = s.sdr ∧ (sendForwarded c r s).cce = s.cce ∧ (sendForwarded c r s).dsc = s.dsc ∧ (sendForwarded c r s).enu
    = s.enu ∧ (sendForwarded c r s).gds = s.gds ∧ (sendForwarded c r s).plu = s.plu ∧ (sendForwarded c r s).pgt
    = s.pgt ∧ (sendForwarded c r s).gwn = s.gwn ∧ (sendForwarded c r s).rqh = s.rqh ∧ (sendForwarded c r s).rpq
    = s.rpq ∧ (sendForwarded c r s).rts = s.rts ∧ (sendForwarded c r s).power = s.power ∧ (sendForwarded c r
    s).inFlight = s.inFlight ∧ (sendForwarded c r s).draws = s.draws ∧ (sendForwarded c r s).pending = s.pending := by
  simp [sendForwarded]

end Sys2Proof.Machine
end

