-- ==== Sys2Proof/Laws/Commands.lean ====
section
/-! SUPPORT. The frame of every command, and that every command answers a next state. -/

namespace Sys2Proof.Machine

variable (s : State)

/-- What a command of a running part answers. -/
theorem whenRunning_eq {s t : State} {effect : State → State} (h : whenRunning s effect = .next t) :
    t = if s.running then effect s else s := by
  simp only [whenRunning, Host.Outcome.next.injEq] at h
  exact h.symm

/-- What resetPinRelease leaves as it was. -/
theorem execResetPinRelease_frame {t : State} (h : execResetPinRelease s = .next t) :
    t.cin = s.cin ∧ t.routes = s.routes ∧ t.queues = s.queues ∧ t.tmb = s.tmb ∧ t.scp = s.scp ∧ t.sdr = s.sdr ∧
    t.cce = s.cce ∧ t.dsc = s.dsc ∧ t.enu = s.enu ∧ t.gds = s.gds ∧ t.plu = s.plu ∧ t.pgt = s.pgt ∧ t.gwn =
    s.gwn ∧ t.rqh = s.rqh ∧ t.rpq = s.rpq ∧ t.lanes = s.lanes ∧ t.rts = s.rts ∧ t.inFlight = s.inFlight ∧
    t.draws = s.draws ∧ t.pending = s.pending := by
  cases h
  exact ⟨rfl, rfl, rfl, rfl, rfl, rfl, rfl, rfl, rfl, rfl, rfl, rfl, rfl, rfl, rfl, rfl, rfl, rfl, rfl, rfl⟩

/-- What syncSearch leaves as it was. -/
theorem execSyncSearch_frame (port : Port) (byte : Byte) {t : State} (h : execSyncSearch port byte s = .next t) :
    t.routes = s.routes ∧ t.queues = s.queues ∧ t.tmb = s.tmb ∧ t.scp = s.scp ∧ t.sdr = s.sdr ∧ t.cce = s.cce ∧
    t.dsc = s.dsc ∧ t.enu = s.enu ∧ t.gds = s.gds ∧ t.plu = s.plu ∧ t.pgt = s.pgt ∧ t.gwn = s.gwn ∧ t.rqh =
    s.rqh ∧ t.lanes = s.lanes ∧ t.rts = s.rts ∧ t.power = s.power ∧ t.draws = s.draws ∧ t.pending = s.pending := by
  simp only [execSyncSearch] at h
  rw [whenRunning_eq h]
  (repeat' split) <;> simp

/-- What cellArrival leaves as it was. -/
theorem execCellArrival_frame (port : Port) (bytes : List Byte) {t : State} (h : execCellArrival port bytes s = .next t) :
    t.scp = s.scp ∧ t.sdr = s.sdr ∧ t.enu = s.enu ∧ t.gds = s.gds ∧ t.plu = s.plu ∧ t.gwn = s.gwn ∧ t.rts = s.rts
    ∧ t.power = s.power ∧ t.draws = s.draws ∧ t.pending = s.pending := by
  simp only [execCellArrival] at h
  rw [whenRunning_eq h]
  (repeat' split) <;> simp

/-- What portLCell leaves as it was. -/
theorem execPortLCell_frame (strobe : Bool) (bytes : List Byte) {t : State} (h : execPortLCell strobe bytes s = .next t) :
    t.scp = s.scp ∧ t.sdr = s.sdr ∧ t.enu = s.enu ∧ t.gds = s.gds ∧ t.plu = s.plu ∧ t.gwn = s.gwn ∧ t.rts = s.rts
    ∧ t.power = s.power ∧ t.draws = s.draws ∧ t.pending = s.pending := by
  simp only [execPortLCell] at h
  rw [whenRunning_eq h]
  (repeat' split) <;> simp

/-- What idleWatchExpiry leaves as it was. -/
theorem execIdleWatchExpiry_frame (port : Port) {t : State} (h : execIdleWatchExpiry port s = .next t) :
    t.routes = s.routes ∧ t.queues = s.queues ∧ t.tmb = s.tmb ∧ t.scp = s.scp ∧ t.sdr = s.sdr ∧ t.cce = s.cce ∧
    t.dsc = s.dsc ∧ t.enu = s.enu ∧ t.gds = s.gds ∧ t.plu = s.plu ∧ t.pgt = s.pgt ∧ t.gwn = s.gwn ∧ t.rqh =
    s.rqh ∧ t.lanes = s.lanes ∧ t.rts = s.rts ∧ t.power = s.power ∧ t.inFlight = s.inFlight ∧ t.draws = s.draws
    ∧ t.pending = s.pending := by
  simp only [execIdleWatchExpiry] at h
  rw [whenRunning_eq h]
  (repeat' split) <;> simp

/-- What holdoverWatchExpiry leaves as it was. -/
theorem execHoldoverWatchExpiry_frame {t : State} (h : execHoldoverWatchExpiry s = .next t) :
    t.cin = s.cin ∧ t.routes = s.routes ∧ t.queues = s.queues ∧ t.scp = s.scp ∧ t.sdr = s.sdr ∧ t.cce = s.cce ∧
    t.dsc = s.dsc ∧ t.enu = s.enu ∧ t.gds = s.gds ∧ t.plu = s.plu ∧ t.pgt = s.pgt ∧ t.gwn = s.gwn ∧ t.rqh =
    s.rqh ∧ t.lanes = s.lanes ∧ t.rts = s.rts ∧ t.power = s.power ∧ t.inFlight = s.inFlight ∧ t.draws = s.draws
    ∧ t.pending = s.pending := by
  simp only [execHoldoverWatchExpiry] at h
  rw [whenRunning_eq h]
  (repeat' split) <;> simp

/-- What secondAdvance leaves as it was. -/
theorem execSecondAdvance_frame {t : State} (h : execSecondAdvance s = .next t) :
    t.cin = s.cin ∧ t.routes = s.routes ∧ t.queues = s.queues ∧ t.scp = s.scp ∧ t.sdr = s.sdr ∧ t.cce = s.cce ∧
    t.dsc = s.dsc ∧ t.enu = s.enu ∧ t.gds = s.gds ∧ t.plu = s.plu ∧ t.pgt = s.pgt ∧ t.gwn = s.gwn ∧ t.rqh =
    s.rqh ∧ t.lanes = s.lanes ∧ t.rts = s.rts ∧ t.power = s.power ∧ t.draws = s.draws ∧ t.pending = s.pending := by
  simp only [execSecondAdvance] at h
  rw [whenRunning_eq h]
  (repeat' split) <;> simp

/-- What timeSection leaves as it was. -/
theorem execTimeSection_frame {t : State} (h : execTimeSection s = .next t) :
    t.cin = s.cin ∧ t.routes = s.routes ∧ t.sdr = s.sdr ∧ t.cce = s.cce ∧ t.dsc = s.dsc ∧ t.enu = s.enu ∧ t.gds
    = s.gds ∧ t.plu = s.plu ∧ t.pgt = s.pgt ∧ t.gwn = s.gwn ∧ t.rqh = s.rqh ∧ t.lanes = s.lanes ∧ t.rts = s.rts
    ∧ t.power = s.power ∧ t.draws = s.draws ∧ t.pending = s.pending := by
  simp only [execTimeSection] at h
  rw [whenRunning_eq h]
  simp only [consume]
  (repeat' split) <;> simp

/-- What offsetChangeFiring leaves as it was. -/
theorem execOffsetChangeFiring_frame {t : State} (h : execOffsetChangeFiring s = .next t) :
    t.cin = s.cin ∧ t.routes = s.routes ∧ t.queues = s.queues ∧ t.scp = s.scp ∧ t.sdr = s.sdr ∧ t.cce = s.cce ∧
    t.dsc = s.dsc ∧ t.enu = s.enu ∧ t.gds = s.gds ∧ t.plu = s.plu ∧ t.pgt = s.pgt ∧ t.gwn = s.gwn ∧ t.rqh =
    s.rqh ∧ t.rpq = s.rpq ∧ t.lanes = s.lanes ∧ t.rts = s.rts ∧ t.power = s.power ∧ t.draws = s.draws ∧
    t.pending = s.pending := by
  simp only [execOffsetChangeFiring] at h
  rw [whenRunning_eq h]
  (repeat' split) <;> simp

/-- What firingPass leaves as it was. -/
theorem execFiringPass_frame {t : State} (h : execFiringPass s = .next t) :
    t.cin = s.cin ∧ t.routes = s.routes ∧ t.queues = s.queues ∧ t.tmb = s.tmb ∧ t.sdr = s.sdr ∧ t.cce = s.cce ∧
    t.dsc = s.dsc ∧ t.enu = s.enu ∧ t.gds = s.gds ∧ t.plu = s.plu ∧ t.pgt = s.pgt ∧ t.gwn = s.gwn ∧ t.rqh =
    s.rqh ∧ t.lanes = s.lanes ∧ t.rts = s.rts ∧ t.power = s.power ∧ t.draws = s.draws ∧ t.pending = s.pending := by
  simp only [execFiringPass] at h
  rw [whenRunning_eq h]
  (repeat' split) <;> simp

/-- What scpWallSet leaves as it was. -/
theorem execScpWallSet_frame {t : State} (h : execScpWallSet s = .next t) :
    t.cin = s.cin ∧ t.routes = s.routes ∧ t.queues = s.queues ∧ t.tmb = s.tmb ∧ t.sdr = s.sdr ∧ t.cce = s.cce ∧
    t.dsc = s.dsc ∧ t.enu = s.enu ∧ t.gds = s.gds ∧ t.plu = s.plu ∧ t.pgt = s.pgt ∧ t.gwn = s.gwn ∧ t.rqh =
    s.rqh ∧ t.rpq = s.rpq ∧ t.lanes = s.lanes ∧ t.rts = s.rts ∧ t.power = s.power ∧ t.draws = s.draws ∧
    t.pending = s.pending := by
  simp only [execScpWallSet] at h
  rw [whenRunning_eq h]
  (repeat' split) <;> simp

/-- What scpRewind leaves as it was. -/
theorem execScpRewind_frame {t : State} (h : execScpRewind s = .next t) :
    t.cin = s.cin ∧ t.routes = s.routes ∧ t.queues = s.queues ∧ t.tmb = s.tmb ∧ t.sdr = s.sdr ∧ t.cce = s.cce ∧
    t.dsc = s.dsc ∧ t.enu = s.enu ∧ t.gds = s.gds ∧ t.plu = s.plu ∧ t.pgt = s.pgt ∧ t.gwn = s.gwn ∧ t.rqh =
    s.rqh ∧ t.rpq = s.rpq ∧ t.lanes = s.lanes ∧ t.rts = s.rts ∧ t.power = s.power ∧ t.draws = s.draws ∧
    t.pending = s.pending := by
  simp only [execScpRewind] at h
  rw [whenRunning_eq h]
  (repeat' split) <;> simp

/-- What scpOffsetChange leaves as it was. -/
theorem execScpOffsetChange_frame {t : State} (h : execScpOffsetChange s = .next t) :
    t.cin = s.cin ∧ t.routes = s.routes ∧ t.queues = s.queues ∧ t.tmb = s.tmb ∧ t.sdr = s.sdr ∧ t.cce = s.cce ∧
    t.dsc = s.dsc ∧ t.enu = s.enu ∧ t.gds = s.gds ∧ t.plu = s.plu ∧ t.pgt = s.pgt ∧ t.gwn = s.gwn ∧ t.rqh =
    s.rqh ∧ t.rpq = s.rpq ∧ t.lanes = s.lanes ∧ t.rts = s.rts ∧ t.power = s.power ∧ t.draws = s.draws ∧
    t.pending = s.pending := by
  simp only [execScpOffsetChange] at h
  rw [whenRunning_eq h]
  (repeat' split) <;> simp

/-- What scpProfileChange leaves as it was. -/
theorem execScpProfileChange_frame {t : State} (h : execScpProfileChange s = .next t) :
    t.cin = s.cin ∧ t.routes = s.routes ∧ t.queues = s.queues ∧ t.tmb = s.tmb ∧ t.sdr = s.sdr ∧ t.cce = s.cce ∧
    t.dsc = s.dsc ∧ t.enu = s.enu ∧ t.gds = s.gds ∧ t.plu = s.plu ∧ t.pgt = s.pgt ∧ t.gwn = s.gwn ∧ t.rqh =
    s.rqh ∧ t.rpq = s.rpq ∧ t.lanes = s.lanes ∧ t.rts = s.rts ∧ t.power = s.power ∧ t.draws = s.draws ∧
    t.pending = s.pending := by
  simp only [execScpProfileChange] at h
  rw [whenRunning_eq h]
  (repeat' split) <;> simp

/-- What addReminder leaves as it was. -/
theorem execAddReminder_frame {t : State} (h : execAddReminder s = .next t) :
    t.cin = s.cin ∧ t.routes = s.routes ∧ t.queues = s.queues ∧ t.tmb = s.tmb ∧ t.sdr = s.sdr ∧ t.cce = s.cce ∧
    t.dsc = s.dsc ∧ t.enu = s.enu ∧ t.gds = s.gds ∧ t.plu = s.plu ∧ t.pgt = s.pgt ∧ t.gwn = s.gwn ∧ t.lanes =
    s.lanes ∧ t.rts = s.rts ∧ t.power = s.power ∧ t.inFlight = s.inFlight ∧ t.draws = s.draws ∧ t.pending =
    s.pending := by
  simp only [execAddReminder] at h
  rw [whenRunning_eq h]
  (repeat' split) <;> simp

/-- What dropReminder leaves as it was. -/
theorem execDropReminder_frame {t : State} (h : execDropReminder s = .next t) :
    t.cin = s.cin ∧ t.routes = s.routes ∧ t.queues = s.queues ∧ t.tmb = s.tmb ∧ t.sdr = s.sdr ∧ t.cce = s.cce ∧
    t.dsc = s.dsc ∧ t.enu = s.enu ∧ t.gds = s.gds ∧ t.plu = s.plu ∧ t.pgt = s.pgt ∧ t.gwn = s.gwn ∧ t.lanes =
    s.lanes ∧ t.rts = s.rts ∧ t.power = s.power ∧ t.inFlight = s.inFlight ∧ t.draws = s.draws ∧ t.pending =
    s.pending := by
  simp only [execDropReminder] at h
  rw [whenRunning_eq h]
  (repeat' split) <;> simp

/-- What holdReminders leaves as it was. -/
theorem execHoldReminders_frame {t : State} (h : execHoldReminders s = .next t) :
    t.cin = s.cin ∧ t.routes = s.routes ∧ t.queues = s.queues ∧ t.tmb = s.tmb ∧ t.sdr = s.sdr ∧ t.cce = s.cce ∧
    t.dsc = s.dsc ∧ t.enu = s.enu ∧ t.gds = s.gds ∧ t.plu = s.plu ∧ t.pgt = s.pgt ∧ t.gwn = s.gwn ∧ t.lanes =
    s.lanes ∧ t.rts = s.rts ∧ t.power = s.power ∧ t.inFlight = s.inFlight ∧ t.draws = s.draws ∧ t.pending =
    s.pending := by
  simp only [execHoldReminders] at h
  rw [whenRunning_eq h]
  (repeat' split) <;> simp

/-- What releaseReminders leaves as it was. -/
theorem execReleaseReminders_frame {t : State} (h : execReleaseReminders s = .next t) :
    t.cin = s.cin ∧ t.routes = s.routes ∧ t.queues = s.queues ∧ t.tmb = s.tmb ∧ t.sdr = s.sdr ∧ t.cce = s.cce ∧
    t.dsc = s.dsc ∧ t.enu = s.enu ∧ t.gds = s.gds ∧ t.plu = s.plu ∧ t.pgt = s.pgt ∧ t.gwn = s.gwn ∧ t.lanes =
    s.lanes ∧ t.rts = s.rts ∧ t.power = s.power ∧ t.inFlight = s.inFlight ∧ t.draws = s.draws ∧ t.pending =
    s.pending := by
  simp only [execReleaseReminders] at h
  rw [whenRunning_eq h]
  (repeat' split) <;> simp

/-- What setRange leaves as it was. -/
theorem execSetRange_frame {t : State} (h : execSetRange s = .next t) :
    t.cin = s.cin ∧ t.routes = s.routes ∧ t.queues = s.queues ∧ t.tmb = s.tmb ∧ t.sdr = s.sdr ∧ t.cce = s.cce ∧
    t.dsc = s.dsc ∧ t.enu = s.enu ∧ t.gds = s.gds ∧ t.plu = s.plu ∧ t.pgt = s.pgt ∧ t.gwn = s.gwn ∧ t.lanes =
    s.lanes ∧ t.rts = s.rts ∧ t.power = s.power ∧ t.draws = s.draws ∧ t.pending = s.pending := by
  simp only [execSetRange] at h
  rw [whenRunning_eq h]
  (repeat' split) <;> simp

/-- What directorySection leaves as it was. -/
theorem execDirectorySection_frame {t : State} (h : execDirectorySection s = .next t) :
    t.cin = s.cin ∧ t.routes = s.routes ∧ t.tmb = s.tmb ∧ t.scp = s.scp ∧ t.cce = s.cce ∧ t.dsc = s.dsc ∧ t.enu
    = s.enu ∧ t.gds = s.gds ∧ t.plu = s.plu ∧ t.pgt = s.pgt ∧ t.gwn = s.gwn ∧ t.rqh = s.rqh ∧ t.lanes = s.lanes
    ∧ t.rts = s.rts ∧ t.power = s.power ∧ t.inFlight = s.inFlight ∧ t.draws = s.draws ∧ t.pending = s.pending := by
  simp only [execDirectorySection] at h
  rw [whenRunning_eq h]
  simp only [consume]
  (repeat' split) <;> simp

/-- What tune leaves as it was. -/
theorem execTune_frame {t : State} (h : execTune s = .next t) :
    t.queues = s.queues ∧ t.tmb = s.tmb ∧ t.scp = s.scp ∧ t.sdr = s.sdr ∧ t.enu = s.enu ∧ t.gds = s.gds ∧ t.plu
    = s.plu ∧ t.pgt = s.pgt ∧ t.gwn = s.gwn ∧ t.lanes = s.lanes ∧ t.rts = s.rts ∧ t.power = s.power ∧ t.draws =
    s.draws ∧ t.pending = s.pending := by
  simp only [execTune] at h
  rw [whenRunning_eq h]
  (repeat' split) <;> simp

/-- What portALockReport leaves as it was. -/
theorem execPortALockReport_frame {t : State} (h : execPortALockReport s = .next t) :
    t.cin = s.cin ∧ t.queues = s.queues ∧ t.tmb = s.tmb ∧ t.scp = s.scp ∧ t.sdr = s.sdr ∧ t.dsc = s.dsc ∧ t.enu
    = s.enu ∧ t.gds = s.gds ∧ t.plu = s.plu ∧ t.pgt = s.pgt ∧ t.gwn = s.gwn ∧ t.rqh = s.rqh ∧ t.rpq = s.rpq ∧
    t.lanes = s.lanes ∧ t.rts = s.rts ∧ t.power = s.power ∧ t.draws = s.draws ∧ t.pending = s.pending := by
  simp only [execPortALockReport] at h
  rw [whenRunning_eq h]
  (repeat' split) <;> simp

/-- What portAHuntReport leaves as it was. -/
theorem execPortAHuntReport_frame {t : State} (h : execPortAHuntReport s = .next t) :
    t.cin = s.cin ∧ t.routes = s.routes ∧ t.queues = s.queues ∧ t.tmb = s.tmb ∧ t.scp = s.scp ∧ t.sdr = s.sdr ∧
    t.dsc = s.dsc ∧ t.enu = s.enu ∧ t.gds = s.gds ∧ t.plu = s.plu ∧ t.pgt = s.pgt ∧ t.gwn = s.gwn ∧ t.rqh =
    s.rqh ∧ t.rpq = s.rpq ∧ t.lanes = s.lanes ∧ t.rts = s.rts ∧ t.power = s.power ∧ t.draws = s.draws ∧
    t.pending = s.pending := by
  simp only [execPortAHuntReport] at h
  rw [whenRunning_eq h]
  (repeat' split) <;> simp

/-- What tunerReady leaves as it was. -/
theorem execTunerReady_frame {t : State} (h : execTunerReady s = .next t) :
    t.cin = s.cin ∧ t.queues = s.queues ∧ t.tmb = s.tmb ∧ t.scp = s.scp ∧ t.sdr = s.sdr ∧ t.dsc = s.dsc ∧ t.enu
    = s.enu ∧ t.gds = s.gds ∧ t.plu = s.plu ∧ t.pgt = s.pgt ∧ t.gwn = s.gwn ∧ t.lanes = s.lanes ∧ t.rts = s.rts
    ∧ t.power = s.power ∧ t.inFlight = s.inFlight ∧ t.draws = s.draws ∧ t.pending = s.pending := by
  simp only [execTunerReady] at h
  rw [whenRunning_eq h]
  (repeat' split) <;> simp

/-- What tunerFail leaves as it was. -/
theorem execTunerFail_frame {t : State} (h : execTunerFail s = .next t) :
    t.queues = s.queues ∧ t.tmb = s.tmb ∧ t.scp = s.scp ∧ t.sdr = s.sdr ∧ t.enu = s.enu ∧ t.gds = s.gds ∧ t.plu
    = s.plu ∧ t.pgt = s.pgt ∧ t.gwn = s.gwn ∧ t.lanes = s.lanes ∧ t.rts = s.rts ∧ t.power = s.power ∧ t.draws =
    s.draws ∧ t.pending = s.pending := by
  simp only [execTunerFail] at h
  rw [whenRunning_eq h]
  (repeat' split) <;> simp

/-- What tuneTimeout leaves as it was. -/
theorem execTuneTimeout_frame {t : State} (h : execTuneTimeout s = .next t) :
    t.queues = s.queues ∧ t.tmb = s.tmb ∧ t.scp = s.scp ∧ t.sdr = s.sdr ∧ t.enu = s.enu ∧ t.gds = s.gds ∧ t.plu
    = s.plu ∧ t.pgt = s.pgt ∧ t.gwn = s.gwn ∧ t.rqh = s.rqh ∧ t.lanes = s.lanes ∧ t.rts = s.rts ∧ t.power =
    s.power ∧ t.draws = s.draws ∧ t.pending = s.pending := by
  simp only [execTuneTimeout] at h
  rw [whenRunning_eq h]
  (repeat' split) <;> simp

/-- What mapSection leaves as it was. -/
theorem execMapSection_frame {t : State} (h : execMapSection s = .next t) :
    t.tmb = s.tmb ∧ t.scp = s.scp ∧ t.sdr = s.sdr ∧ t.enu = s.enu ∧ t.gds = s.gds ∧ t.plu = s.plu ∧ t.pgt =
    s.pgt ∧ t.gwn = s.gwn ∧ t.rqh = s.rqh ∧ t.lanes = s.lanes ∧ t.rts = s.rts ∧ t.power = s.power ∧ t.draws =
    s.draws ∧ t.pending = s.pending := by
  simp only [execMapSection] at h
  rw [whenRunning_eq h]
  simp only [consume]
  (repeat' split) <;> simp

/-- What noMapTimeout leaves as it was. -/
theorem execNoMapTimeout_frame {t : State} (h : execNoMapTimeout s = .next t) :
    t.queues = s.queues ∧ t.tmb = s.tmb ∧ t.scp = s.scp ∧ t.sdr = s.sdr ∧ t.enu = s.enu ∧ t.gds = s.gds ∧ t.plu
    = s.plu ∧ t.pgt = s.pgt ∧ t.gwn = s.gwn ∧ t.rqh = s.rqh ∧ t.lanes = s.lanes ∧ t.rts = s.rts ∧ t.power =
    s.power ∧ t.draws = s.draws ∧ t.pending = s.pending := by
  simp only [execNoMapTimeout] at h
  rw [whenRunning_eq h]
  (repeat' split) <;> simp

/-- What armingReport leaves as it was. -/
theorem execArmingReport_frame {t : State} (h : execArmingReport s = .next t) :
    t.queues = s.queues ∧ t.tmb = s.tmb ∧ t.scp = s.scp ∧ t.sdr = s.sdr ∧ t.enu = s.enu ∧ t.gds = s.gds ∧ t.plu
    = s.plu ∧ t.pgt = s.pgt ∧ t.gwn = s.gwn ∧ t.rqh = s.rqh ∧ t.lanes = s.lanes ∧ t.rts = s.rts ∧ t.power =
    s.power ∧ t.draws = s.draws ∧ t.pending = s.pending := by
  simp only [execArmingReport] at h
  rw [whenRunning_eq h]
  (repeat' split) <;> simp

/-- What waitKeyTimeout leaves as it was. -/
theorem execWaitKeyTimeout_frame {t : State} (h : execWaitKeyTimeout s = .next t) :
    t.queues = s.queues ∧ t.tmb = s.tmb ∧ t.scp = s.scp ∧ t.sdr = s.sdr ∧ t.enu = s.enu ∧ t.gds = s.gds ∧ t.plu
    = s.plu ∧ t.pgt = s.pgt ∧ t.gwn = s.gwn ∧ t.rqh = s.rqh ∧ t.lanes = s.lanes ∧ t.rts = s.rts ∧ t.power =
    s.power ∧ t.draws = s.draws ∧ t.pending = s.pending := by
  simp only [execWaitKeyTimeout] at h
  rw [whenRunning_eq h]
  (repeat' split) <;> simp

/-- What forcedSplice leaves as it was. -/
theorem execForcedSplice_frame {t : State} (h : execForcedSplice s = .next t) :
    t.queues = s.queues ∧ t.tmb = s.tmb ∧ t.scp = s.scp ∧ t.sdr = s.sdr ∧ t.enu = s.enu ∧ t.gds = s.gds ∧ t.plu
    = s.plu ∧ t.pgt = s.pgt ∧ t.gwn = s.gwn ∧ t.rqh = s.rqh ∧ t.lanes = s.lanes ∧ t.rts = s.rts ∧ t.power =
    s.power ∧ t.draws = s.draws ∧ t.pending = s.pending := by
  simp only [execForcedSplice] at h
  rw [whenRunning_eq h]
  (repeat' split) <;> simp

/-- What cancel leaves as it was. -/
theorem execCancel_frame {t : State} (h : execCancel s = .next t) :
    t.queues = s.queues ∧ t.tmb = s.tmb ∧ t.scp = s.scp ∧ t.sdr = s.sdr ∧ t.enu = s.enu ∧ t.gds = s.gds ∧ t.plu
    = s.plu ∧ t.pgt = s.pgt ∧ t.gwn = s.gwn ∧ t.lanes = s.lanes ∧ t.rts = s.rts ∧ t.power = s.power ∧ t.draws =
    s.draws ∧ t.pending = s.pending := by
  simp only [execCancel] at h
  rw [whenRunning_eq h]
  (repeat' split) <;> simp

/-- What setAudio leaves as it was. -/
theorem execSetAudio_frame {t : State} (h : execSetAudio s = .next t) :
    t.cin = s.cin ∧ t.queues = s.queues ∧ t.tmb = s.tmb ∧ t.scp = s.scp ∧ t.sdr = s.sdr ∧ t.dsc = s.dsc ∧ t.enu
    = s.enu ∧ t.gds = s.gds ∧ t.plu = s.plu ∧ t.pgt = s.pgt ∧ t.gwn = s.gwn ∧ t.lanes = s.lanes ∧ t.rts = s.rts
    ∧ t.power = s.power ∧ t.inFlight = s.inFlight ∧ t.draws = s.draws ∧ t.pending = s.pending := by
  simp only [execSetAudio] at h
  rw [whenRunning_eq h]
  (repeat' split) <;> simp

/-- What standby leaves as it was. -/
theorem execStandby_frame {t : State} (h : execStandby s = .next t) :
    t.queues = s.queues ∧ t.tmb = s.tmb ∧ t.scp = s.scp ∧ t.sdr = s.sdr ∧ t.enu = s.enu ∧ t.gds = s.gds ∧ t.plu
    = s.plu ∧ t.pgt = s.pgt ∧ t.gwn = s.gwn ∧ t.lanes = s.lanes ∧ t.rts = s.rts ∧ t.power = s.power ∧ t.draws =
    s.draws ∧ t.pending = s.pending := by
  simp only [execStandby] at h
  rw [whenRunning_eq h]
  (repeat' split) <;> simp

/-- What wake leaves as it was. -/
theorem execWake_frame {t : State} (h : execWake s = .next t) :
    t.queues = s.queues ∧ t.tmb = s.tmb ∧ t.scp = s.scp ∧ t.sdr = s.sdr ∧ t.enu = s.enu ∧ t.gds = s.gds ∧ t.plu
    = s.plu ∧ t.pgt = s.pgt ∧ t.gwn = s.gwn ∧ t.lanes = s.lanes ∧ t.rts = s.rts ∧ t.power = s.power ∧ t.draws =
    s.draws ∧ t.pending = s.pending := by
  simp only [execWake] at h
  rw [whenRunning_eq h]
  (repeat' split) <;> simp

/-- What addRoute leaves as it was. -/
theorem execAddRoute_frame {t : State} (h : execAddRoute s = .next t) :
    t.cin = s.cin ∧ t.queues = s.queues ∧ t.tmb = s.tmb ∧ t.scp = s.scp ∧ t.sdr = s.sdr ∧ t.cce = s.cce ∧ t.dsc
    = s.dsc ∧ t.enu = s.enu ∧ t.gds = s.gds ∧ t.plu = s.plu ∧ t.pgt = s.pgt ∧ t.gwn = s.gwn ∧ t.lanes = s.lanes
    ∧ t.rts = s.rts ∧ t.power = s.power ∧ t.inFlight = s.inFlight ∧ t.draws = s.draws ∧ t.pending = s.pending := by
  simp only [execAddRoute] at h
  rw [whenRunning_eq h]
  (repeat' split) <;> simp

/-- What dropRoute leaves as it was. -/
theorem execDropRoute_frame {t : State} (h : execDropRoute s = .next t) :
    t.cin = s.cin ∧ t.queues = s.queues ∧ t.tmb = s.tmb ∧ t.scp = s.scp ∧ t.sdr = s.sdr ∧ t.cce = s.cce ∧ t.dsc
    = s.dsc ∧ t.enu = s.enu ∧ t.gds = s.gds ∧ t.plu = s.plu ∧ t.pgt = s.pgt ∧ t.gwn = s.gwn ∧ t.lanes = s.lanes
    ∧ t.rts = s.rts ∧ t.power = s.power ∧ t.inFlight = s.inFlight ∧ t.draws = s.draws ∧ t.pending = s.pending := by
  simp only [execDropRoute] at h
  rw [whenRunning_eq h]
  (repeat' split) <;> simp

/-- What keySection leaves as it was. -/
theorem execKeySection_frame {t : State} (h : execKeySection s = .next t) :
    t.cin = s.cin ∧ t.routes = s.routes ∧ t.tmb = s.tmb ∧ t.scp = s.scp ∧ t.sdr = s.sdr ∧ t.cce = s.cce ∧ t.enu
    = s.enu ∧ t.gds = s.gds ∧ t.plu = s.plu ∧ t.pgt = s.pgt ∧ t.gwn = s.gwn ∧ t.rqh = s.rqh ∧ t.lanes = s.lanes
    ∧ t.rts = s.rts ∧ t.power = s.power ∧ t.draws = s.draws ∧ t.pending = s.pending := by
  simp only [execKeySection] at h
  rw [whenRunning_eq h]
  simp only [consume]
  (repeat' split) <;> simp

/-- What entChangeNotice leaves as it was. -/
theorem execEntChangeNotice_frame {t : State} (h : execEntChangeNotice s = .next t) :
    t.cin = s.cin ∧ t.routes = s.routes ∧ t.queues = s.queues ∧ t.tmb = s.tmb ∧ t.scp = s.scp ∧ t.sdr = s.sdr ∧
    t.cce = s.cce ∧ t.enu = s.enu ∧ t.gds = s.gds ∧ t.plu = s.plu ∧ t.pgt = s.pgt ∧ t.gwn = s.gwn ∧ t.rqh =
    s.rqh ∧ t.rpq = s.rpq ∧ t.lanes = s.lanes ∧ t.rts = s.rts ∧ t.power = s.power ∧ t.draws = s.draws ∧
    t.pending = s.pending := by
  simp only [execEntChangeNotice] at h
  rw [whenRunning_eq h]
  (repeat' split) <;> simp

/-- What dscWallSet leaves as it was. -/
theorem execDscWallSet_frame {t : State} (h : execDscWallSet s = .next t) :
    t.cin = s.cin ∧ t.routes = s.routes ∧ t.queues = s.queues ∧ t.tmb = s.tmb ∧ t.scp = s.scp ∧ t.sdr = s.sdr ∧
    t.cce = s.cce ∧ t.enu = s.enu ∧ t.gds = s.gds ∧ t.plu = s.plu ∧ t.pgt = s.pgt ∧ t.gwn = s.gwn ∧ t.rqh =
    s.rqh ∧ t.rpq = s.rpq ∧ t.lanes = s.lanes ∧ t.rts = s.rts ∧ t.power = s.power ∧ t.draws = s.draws ∧
    t.pending = s.pending := by
  simp only [execDscWallSet] at h
  rw [whenRunning_eq h]
  (repeat' split) <;> simp

/-- What entitlementSection leaves as it was. -/
theorem execEntitlementSection_frame {t : State} (h : execEntitlementSection s = .next t) :
    t.cin = s.cin ∧ t.routes = s.routes ∧ t.tmb = s.tmb ∧ t.sdr = s.sdr ∧ t.cce = s.cce ∧ t.dsc = s.dsc ∧ t.gds
    = s.gds ∧ t.plu = s.plu ∧ t.pgt = s.pgt ∧ t.gwn = s.gwn ∧ t.rqh = s.rqh ∧ t.lanes = s.lanes ∧ t.rts = s.rts
    ∧ t.power = s.power ∧ t.draws = s.draws ∧ t.pending = s.pending := by
  simp only [execEntitlementSection] at h
  rw [whenRunning_eq h]
  simp only [consume]
  (repeat' split) <;> simp

/-- What entExpiryFiring leaves as it was. -/
theorem execEntExpiryFiring_frame {t : State} (h : execEntExpiryFiring s = .next t) :
    t.cin = s.cin ∧ t.routes = s.routes ∧ t.queues = s.queues ∧ t.tmb = s.tmb ∧ t.sdr = s.sdr ∧ t.cce = s.cce ∧
    t.dsc = s.dsc ∧ t.gds = s.gds ∧ t.plu = s.plu ∧ t.pgt = s.pgt ∧ t.gwn = s.gwn ∧ t.rqh = s.rqh ∧ t.lanes =
    s.lanes ∧ t.rts = s.rts ∧ t.power = s.power ∧ t.draws = s.draws ∧ t.pending = s.pending := by
  simp only [execEntExpiryFiring] at h
  rw [whenRunning_eq h]
  (repeat' split) <;> simp

/-- What enuWallSet leaves as it was. -/
theorem execEnuWallSet_frame {t : State} (h : execEnuWallSet s = .next t) :
    t.cin = s.cin ∧ t.routes = s.routes ∧ t.queues = s.queues ∧ t.tmb = s.tmb ∧ t.sdr = s.sdr ∧ t.cce = s.cce ∧
    t.dsc = s.dsc ∧ t.enu = s.enu ∧ t.gds = s.gds ∧ t.plu = s.plu ∧ t.pgt = s.pgt ∧ t.gwn = s.gwn ∧ t.rqh =
    s.rqh ∧ t.rpq = s.rpq ∧ t.lanes = s.lanes ∧ t.rts = s.rts ∧ t.power = s.power ∧ t.draws = s.draws ∧
    t.pending = s.pending := by
  simp only [execEnuWallSet] at h
  rw [whenRunning_eq h]
  (repeat' split) <;> simp

/-- What purchase leaves as it was. -/
theorem execPurchase_frame {t : State} (h : execPurchase s = .next t) :
    t.cin = s.cin ∧ t.routes = s.routes ∧ t.queues = s.queues ∧ t.tmb = s.tmb ∧ t.sdr = s.sdr ∧ t.cce = s.cce ∧
    t.dsc = s.dsc ∧ t.gds = s.gds ∧ t.plu = s.plu ∧ t.pgt = s.pgt ∧ t.gwn = s.gwn ∧ t.lanes = s.lanes ∧ t.rts =
    s.rts ∧ t.power = s.power ∧ t.draws = s.draws ∧ t.pending = s.pending := by
  simp only [execPurchase] at h
  rw [whenRunning_eq h]
  (repeat' split) <;> simp

/-- What guideSection leaves as it was. -/
theorem execGuideSection_frame {t : State} (h : execGuideSection s = .next t) :
    t.cin = s.cin ∧ t.routes = s.routes ∧ t.tmb = s.tmb ∧ t.sdr = s.sdr ∧ t.cce = s.cce ∧ t.dsc = s.dsc ∧ t.enu
    = s.enu ∧ t.plu = s.plu ∧ t.pgt = s.pgt ∧ t.gwn = s.gwn ∧ t.rqh = s.rqh ∧ t.lanes = s.lanes ∧ t.rts = s.rts
    ∧ t.power = s.power ∧ t.draws = s.draws ∧ t.pending = s.pending := by
  simp only [execGuideSection] at h
  rw [whenRunning_eq h]
  simp only [consume]
  (repeat' split) <;> simp

/-- What eventEndFiring leaves as it was. -/
theorem execEventEndFiring_frame {t : State} (h : execEventEndFiring s = .next t) :
    t.cin = s.cin ∧ t.routes = s.routes ∧ t.queues = s.queues ∧ t.tmb = s.tmb ∧ t.sdr = s.sdr ∧ t.cce = s.cce ∧
    t.dsc = s.dsc ∧ t.enu = s.enu ∧ t.plu = s.plu ∧ t.pgt = s.pgt ∧ t.gwn = s.gwn ∧ t.rqh = s.rqh ∧ t.rpq =
    s.rpq ∧ t.lanes = s.lanes ∧ t.rts = s.rts ∧ t.power = s.power ∧ t.draws = s.draws ∧ t.pending = s.pending := by
  simp only [execEventEndFiring] at h
  rw [whenRunning_eq h]
  (repeat' split) <;> simp

/-- What gdsContextChange leaves as it was. -/
theorem execGdsContextChange_frame {t : State} (h : execGdsContextChange s = .next t) :
    t.cin = s.cin ∧ t.routes = s.routes ∧ t.queues = s.queues ∧ t.tmb = s.tmb ∧ t.sdr = s.sdr ∧ t.cce = s.cce ∧
    t.dsc = s.dsc ∧ t.enu = s.enu ∧ t.plu = s.plu ∧ t.pgt = s.pgt ∧ t.gwn = s.gwn ∧ t.rqh = s.rqh ∧ t.rpq =
    s.rpq ∧ t.lanes = s.lanes ∧ t.rts = s.rts ∧ t.power = s.power ∧ t.draws = s.draws ∧ t.pending = s.pending := by
  simp only [execGdsContextChange] at h
  rw [whenRunning_eq h]
  (repeat' split) <;> simp

/-- What gdsRewind leaves as it was. -/
theorem execGdsRewind_frame {t : State} (h : execGdsRewind s = .next t) :
    t.cin = s.cin ∧ t.routes = s.routes ∧ t.queues = s.queues ∧ t.tmb = s.tmb ∧ t.sdr = s.sdr ∧ t.cce = s.cce ∧
    t.dsc = s.dsc ∧ t.enu = s.enu ∧ t.plu = s.plu ∧ t.pgt = s.pgt ∧ t.gwn = s.gwn ∧ t.rqh = s.rqh ∧ t.rpq =
    s.rpq ∧ t.lanes = s.lanes ∧ t.rts = s.rts ∧ t.power = s.power ∧ t.draws = s.draws ∧ t.pending = s.pending := by
  simp only [execGdsRewind] at h
  rw [whenRunning_eq h]
  (repeat' split) <;> simp

/-- What gdsWallSet leaves as it was. -/
theorem execGdsWallSet_frame {t : State} (h : execGdsWallSet s = .next t) :
    t.cin = s.cin ∧ t.routes = s.routes ∧ t.queues = s.queues ∧ t.tmb = s.tmb ∧ t.sdr = s.sdr ∧ t.cce = s.cce ∧
    t.dsc = s.dsc ∧ t.enu = s.enu ∧ t.plu = s.plu ∧ t.pgt = s.pgt ∧ t.gwn = s.gwn ∧ t.rqh = s.rqh ∧ t.rpq =
    s.rpq ∧ t.lanes = s.lanes ∧ t.rts = s.rts ∧ t.power = s.power ∧ t.draws = s.draws ∧ t.pending = s.pending := by
  simp only [execGdsWallSet] at h
  rw [whenRunning_eq h]
  (repeat' split) <;> simp

/-- What dayRollPurge leaves as it was. -/
theorem execDayRollPurge_frame {t : State} (h : execDayRollPurge s = .next t) :
    t.cin = s.cin ∧ t.routes = s.routes ∧ t.queues = s.queues ∧ t.tmb = s.tmb ∧ t.scp = s.scp ∧ t.sdr = s.sdr ∧
    t.cce = s.cce ∧ t.dsc = s.dsc ∧ t.enu = s.enu ∧ t.plu = s.plu ∧ t.pgt = s.pgt ∧ t.gwn = s.gwn ∧ t.rqh =
    s.rqh ∧ t.rpq = s.rpq ∧ t.lanes = s.lanes ∧ t.rts = s.rts ∧ t.power = s.power ∧ t.draws = s.draws ∧
    t.pending = s.pending := by
  simp only [execDayRollPurge] at h
  rw [whenRunning_eq h]
  (repeat' split) <;> simp

/-- What ratingSection leaves as it was. -/
theorem execRatingSection_frame {t : State} (h : execRatingSection s = .next t) :
    t.cin = s.cin ∧ t.routes = s.routes ∧ t.tmb = s.tmb ∧ t.scp = s.scp ∧ t.sdr = s.sdr ∧ t.cce = s.cce ∧ t.dsc
    = s.dsc ∧ t.enu = s.enu ∧ t.gds = s.gds ∧ t.pgt = s.pgt ∧ t.gwn = s.gwn ∧ t.rqh = s.rqh ∧ t.rpq = s.rpq ∧
    t.lanes = s.lanes ∧ t.rts = s.rts ∧ t.power = s.power ∧ t.draws = s.draws ∧ t.pending = s.pending := by
  simp only [execRatingSection] at h
  rw [whenRunning_eq h]
  simp only [pluEvent, consume]
  (repeat' split) <;> simp

/-- What nowEventNotice leaves as it was. -/
theorem execNowEventNotice_frame {t : State} (h : execNowEventNotice s = .next t) :
    t.cin = s.cin ∧ t.routes = s.routes ∧ t.queues = s.queues ∧ t.tmb = s.tmb ∧ t.scp = s.scp ∧ t.sdr = s.sdr ∧
    t.cce = s.cce ∧ t.dsc = s.dsc ∧ t.enu = s.enu ∧ t.gds = s.gds ∧ t.pgt = s.pgt ∧ t.gwn = s.gwn ∧ t.rqh =
    s.rqh ∧ t.rpq = s.rpq ∧ t.lanes = s.lanes ∧ t.rts = s.rts ∧ t.power = s.power ∧ t.draws = s.draws ∧
    t.pending = s.pending := by
  simp only [execNowEventNotice] at h
  rw [whenRunning_eq h]
  simp only [pluEvent]
  (repeat' split) <;> simp

/-- What pluContextChange leaves as it was. -/
theorem execPluContextChange_frame {t : State} (h : execPluContextChange s = .next t) :
    t.cin = s.cin ∧ t.routes = s.routes ∧ t.queues = s.queues ∧ t.tmb = s.tmb ∧ t.sdr = s.sdr ∧ t.cce = s.cce ∧
    t.dsc = s.dsc ∧ t.enu = s.enu ∧ t.gds = s.gds ∧ t.pgt = s.pgt ∧ t.gwn = s.gwn ∧ t.rqh = s.rqh ∧ t.lanes =
    s.lanes ∧ t.rts = s.rts ∧ t.power = s.power ∧ t.draws = s.draws ∧ t.pending = s.pending := by
  simp only [execPluContextChange] at h
  rw [whenRunning_eq h]
  simp only [pluEvent]
  (repeat' split) <;> simp

/-- What windowStatesHandover leaves as it was. -/
theorem execWindowStatesHandover_frame {t : State} (h : execWindowStatesHandover s = .next t) :
    t.cin = s.cin ∧ t.routes = s.routes ∧ t.queues = s.queues ∧ t.tmb = s.tmb ∧ t.scp = s.scp ∧ t.sdr = s.sdr ∧
    t.cce = s.cce ∧ t.dsc = s.dsc ∧ t.enu = s.enu ∧ t.gds = s.gds ∧ t.pgt = s.pgt ∧ t.gwn = s.gwn ∧ t.rqh =
    s.rqh ∧ t.rpq = s.rpq ∧ t.lanes = s.lanes ∧ t.rts = s.rts ∧ t.power = s.power ∧ t.draws = s.draws ∧
    t.pending = s.pending := by
  simp only [execWindowStatesHandover] at h
  rw [whenRunning_eq h]
  simp only [pluEvent]
  (repeat' split) <;> simp

/-- What gateStateHandover leaves as it was. -/
theorem execGateStateHandover_frame {t : State} (h : execGateStateHandover s = .next t) :
    t.cin = s.cin ∧ t.routes = s.routes ∧ t.queues = s.queues ∧ t.tmb = s.tmb ∧ t.scp = s.scp ∧ t.sdr = s.sdr ∧
    t.cce = s.cce ∧ t.dsc = s.dsc ∧ t.enu = s.enu ∧ t.gds = s.gds ∧ t.pgt = s.pgt ∧ t.gwn = s.gwn ∧ t.rqh =
    s.rqh ∧ t.rpq = s.rpq ∧ t.lanes = s.lanes ∧ t.rts = s.rts ∧ t.power = s.power ∧ t.draws = s.draws ∧
    t.pending = s.pending := by
  simp only [execGateStateHandover] at h
  rw [whenRunning_eq h]
  simp only [pluEvent]
  (repeat' split) <;> simp

/-- What budgetAccrualMinute leaves as it was. -/
theorem execBudgetAccrualMinute_frame {t : State} (h : execBudgetAccrualMinute s = .next t) :
    t.cin = s.cin ∧ t.routes = s.routes ∧ t.queues = s.queues ∧ t.tmb = s.tmb ∧ t.scp = s.scp ∧ t.sdr = s.sdr ∧
    t.cce = s.cce ∧ t.dsc = s.dsc ∧ t.enu = s.enu ∧ t.gds = s.gds ∧ t.pgt = s.pgt ∧ t.gwn = s.gwn ∧ t.rqh =
    s.rqh ∧ t.lanes = s.lanes ∧ t.rts = s.rts ∧ t.power = s.power ∧ t.draws = s.draws ∧ t.pending = s.pending := by
  simp only [execBudgetAccrualMinute] at h
  rw [whenRunning_eq h]
  simp only [pluEvent]
  (repeat' split) <;> simp

/-- What dayRollFiring leaves as it was. -/
theorem execDayRollFiring_frame {t : State} (h : execDayRollFiring s = .next t) :
    t.cin = s.cin ∧ t.routes = s.routes ∧ t.queues = s.queues ∧ t.tmb = s.tmb ∧ t.scp = s.scp ∧ t.sdr = s.sdr ∧
    t.cce = s.cce ∧ t.dsc = s.dsc ∧ t.enu = s.enu ∧ t.gds = s.gds ∧ t.pgt = s.pgt ∧ t.gwn = s.gwn ∧ t.rqh =
    s.rqh ∧ t.lanes = s.lanes ∧ t.rts = s.rts ∧ t.power = s.power ∧ t.draws = s.draws ∧ t.pending = s.pending := by
  simp only [execDayRollFiring] at h
  rw [whenRunning_eq h]
  simp only [pluEvent]
  (repeat' split) <;> simp

/-- What pluOffsetChange leaves as it was. -/
theorem execPluOffsetChange_frame {t : State} (h : execPluOffsetChange s = .next t) :
    t.cin = s.cin ∧ t.routes = s.routes ∧ t.queues = s.queues ∧ t.tmb = s.tmb ∧ t.scp = s.scp ∧ t.sdr = s.sdr ∧
    t.cce = s.cce ∧ t.dsc = s.dsc ∧ t.enu = s.enu ∧ t.gds = s.gds ∧ t.pgt = s.pgt ∧ t.gwn = s.gwn ∧ t.rqh =
    s.rqh ∧ t.lanes = s.lanes ∧ t.rts = s.rts ∧ t.power = s.power ∧ t.draws = s.draws ∧ t.pending = s.pending := by
  simp only [execPluOffsetChange] at h
  rw [whenRunning_eq h]
  simp only [pluEvent]
  (repeat' split) <;> simp

/-- What pluWallSet leaves as it was. -/
theorem execPluWallSet_frame {t : State} (h : execPluWallSet s = .next t) :
    t.cin = s.cin ∧ t.routes = s.routes ∧ t.queues = s.queues ∧ t.tmb = s.tmb ∧ t.scp = s.scp ∧ t.sdr = s.sdr ∧
    t.cce = s.cce ∧ t.dsc = s.dsc ∧ t.enu = s.enu ∧ t.gds = s.gds ∧ t.pgt = s.pgt ∧ t.gwn = s.gwn ∧ t.rqh =
    s.rqh ∧ t.lanes = s.lanes ∧ t.rts = s.rts ∧ t.power = s.power ∧ t.draws = s.draws ∧ t.pending = s.pending := by
  simp only [execPluWallSet] at h
  rw [whenRunning_eq h]
  simp only [pluEvent]
  (repeat' split) <;> simp

/-- What selectProfile leaves as it was. -/
theorem execSelectProfile_frame {t : State} (h : execSelectProfile s = .next t) :
    t.cin = s.cin ∧ t.routes = s.routes ∧ t.queues = s.queues ∧ t.tmb = s.tmb ∧ t.sdr = s.sdr ∧ t.cce = s.cce ∧
    t.dsc = s.dsc ∧ t.enu = s.enu ∧ t.gds = s.gds ∧ t.pgt = s.pgt ∧ t.gwn = s.gwn ∧ t.lanes = s.lanes ∧ t.rts =
    s.rts ∧ t.power = s.power ∧ t.draws = s.draws ∧ t.pending = s.pending := by
  simp only [execSelectProfile] at h
  rw [whenRunning_eq h]
  simp only [pluEvent]
  (repeat' split) <;> simp

/-- What setProfileLimits leaves as it was. -/
theorem execSetProfileLimits_frame {t : State} (h : execSetProfileLimits s = .next t) :
    t.cin = s.cin ∧ t.routes = s.routes ∧ t.queues = s.queues ∧ t.tmb = s.tmb ∧ t.scp = s.scp ∧ t.sdr = s.sdr ∧
    t.cce = s.cce ∧ t.dsc = s.dsc ∧ t.enu = s.enu ∧ t.gds = s.gds ∧ t.pgt = s.pgt ∧ t.gwn = s.gwn ∧ t.lanes =
    s.lanes ∧ t.rts = s.rts ∧ t.power = s.power ∧ t.draws = s.draws ∧ t.pending = s.pending := by
  simp only [execSetProfileLimits] at h
  rw [whenRunning_eq h]
  simp only [pluEvent]
  (repeat' split) <;> simp

/-- What lockService leaves as it was. -/
theorem execLockService_frame {t : State} (h : execLockService s = .next t) :
    t.cin = s.cin ∧ t.routes = s.routes ∧ t.queues = s.queues ∧ t.tmb = s.tmb ∧ t.scp = s.scp ∧ t.sdr = s.sdr ∧
    t.cce = s.cce ∧ t.dsc = s.dsc ∧ t.enu = s.enu ∧ t.gds = s.gds ∧ t.pgt = s.pgt ∧ t.gwn = s.gwn ∧ t.lanes =
    s.lanes ∧ t.rts = s.rts ∧ t.power = s.power ∧ t.draws = s.draws ∧ t.pending = s.pending := by
  simp only [execLockService] at h
  rw [whenRunning_eq h]
  simp only [pluEvent]
  (repeat' split) <;> simp

/-- What unlockService leaves as it was. -/
theorem execUnlockService_frame {t : State} (h : execUnlockService s = .next t) :
    t.cin = s.cin ∧ t.routes = s.routes ∧ t.queues = s.queues ∧ t.tmb = s.tmb ∧ t.scp = s.scp ∧ t.sdr = s.sdr ∧
    t.cce = s.cce ∧ t.dsc = s.dsc ∧ t.enu = s.enu ∧ t.gds = s.gds ∧ t.pgt = s.pgt ∧ t.gwn = s.gwn ∧ t.lanes =
    s.lanes ∧ t.rts = s.rts ∧ t.power = s.power ∧ t.draws = s.draws ∧ t.pending = s.pending := by
  simp only [execUnlockService] at h
  rw [whenRunning_eq h]
  simp only [pluEvent]
  (repeat' split) <;> simp

/-- What setBudget leaves as it was. -/
theorem execSetBudget_frame {t : State} (h : execSetBudget s = .next t) :
    t.cin = s.cin ∧ t.routes = s.routes ∧ t.queues = s.queues ∧ t.tmb = s.tmb ∧ t.scp = s.scp ∧ t.sdr = s.sdr ∧
    t.cce = s.cce ∧ t.dsc = s.dsc ∧ t.enu = s.enu ∧ t.gds = s.gds ∧ t.pgt = s.pgt ∧ t.gwn = s.gwn ∧ t.lanes =
    s.lanes ∧ t.rts = s.rts ∧ t.power = s.power ∧ t.draws = s.draws ∧ t.pending = s.pending := by
  simp only [execSetBudget] at h
  rw [whenRunning_eq h]
  simp only [pluEvent]
  (repeat' split) <;> simp

/-- What override leaves as it was. -/
theorem execOverride_frame {t : State} (h : execOverride s = .next t) :
    t.cin = s.cin ∧ t.routes = s.routes ∧ t.queues = s.queues ∧ t.tmb = s.tmb ∧ t.sdr = s.sdr ∧ t.cce = s.cce ∧
    t.dsc = s.dsc ∧ t.enu = s.enu ∧ t.gds = s.gds ∧ t.pgt = s.pgt ∧ t.gwn = s.gwn ∧ t.lanes = s.lanes ∧ t.rts =
    s.rts ∧ t.power = s.power ∧ t.draws = s.draws ∧ t.pending = s.pending := by
  simp only [execOverride] at h
  rw [whenRunning_eq h]
  simp only [pluEvent]
  (repeat' split) <;> simp

/-- What endOverride leaves as it was. -/
theorem execEndOverride_frame {t : State} (h : execEndOverride s = .next t) :
    t.cin = s.cin ∧ t.routes = s.routes ∧ t.queues = s.queues ∧ t.tmb = s.tmb ∧ t.sdr = s.sdr ∧ t.cce = s.cce ∧
    t.dsc = s.dsc ∧ t.enu = s.enu ∧ t.gds = s.gds ∧ t.pgt = s.pgt ∧ t.gwn = s.gwn ∧ t.lanes = s.lanes ∧ t.rts =
    s.rts ∧ t.power = s.power ∧ t.draws = s.draws ∧ t.pending = s.pending := by
  simp only [execEndOverride] at h
  rw [whenRunning_eq h]
  simp only [pluEvent]
  (repeat' split) <;> simp

/-- What overrideEndFiring leaves as it was. -/
theorem execOverrideEndFiring_frame {t : State} (h : execOverrideEndFiring s = .next t) :
    t.cin = s.cin ∧ t.routes = s.routes ∧ t.queues = s.queues ∧ t.tmb = s.tmb ∧ t.sdr = s.sdr ∧ t.cce = s.cce ∧
    t.dsc = s.dsc ∧ t.enu = s.enu ∧ t.gds = s.gds ∧ t.pgt = s.pgt ∧ t.gwn = s.gwn ∧ t.rqh = s.rqh ∧ t.lanes =
    s.lanes ∧ t.rts = s.rts ∧ t.power = s.power ∧ t.draws = s.draws ∧ t.pending = s.pending := by
  simp only [execOverrideEndFiring] at h
  rw [whenRunning_eq h]
  simp only [pluEvent]
  (repeat' split) <;> simp

/-- What hostMute leaves as it was. -/
theorem execHostMute_frame {t : State} (h : execHostMute s = .next t) :
    t.cin = s.cin ∧ t.routes = s.routes ∧ t.queues = s.queues ∧ t.tmb = s.tmb ∧ t.scp = s.scp ∧ t.sdr = s.sdr ∧
    t.cce = s.cce ∧ t.dsc = s.dsc ∧ t.enu = s.enu ∧ t.gds = s.gds ∧ t.pgt = s.pgt ∧ t.gwn = s.gwn ∧ t.lanes =
    s.lanes ∧ t.rts = s.rts ∧ t.power = s.power ∧ t.draws = s.draws ∧ t.pending = s.pending := by
  simp only [execHostMute] at h
  rw [whenRunning_eq h]
  simp only [pluEvent]
  (repeat' split) <;> simp

/-- What gatePosting leaves as it was. -/
theorem execGatePosting_frame (poster : Poster) {t : State} (h : execGatePosting poster s = .next t) :
    t.cin = s.cin ∧ t.routes = s.routes ∧ t.queues = s.queues ∧ t.tmb = s.tmb ∧ t.scp = s.scp ∧ t.sdr = s.sdr ∧
    t.cce = s.cce ∧ t.dsc = s.dsc ∧ t.enu = s.enu ∧ t.gds = s.gds ∧ t.plu = s.plu ∧ t.gwn = s.gwn ∧ t.rqh =
    s.rqh ∧ t.lanes = s.lanes ∧ t.rts = s.rts ∧ t.power = s.power ∧ t.draws = s.draws ∧ t.pending = s.pending := by
  cases poster <;>
    (simp only [execGatePosting] at h
     rw [whenRunning_eq h]
     split <;> simp)

/-- What pgtContextChange leaves as it was. -/
theorem execPgtContextChange_frame {t : State} (h : execPgtContextChange s = .next t) :
    t.cin = s.cin ∧ t.routes = s.routes ∧ t.queues = s.queues ∧ t.tmb = s.tmb ∧ t.scp = s.scp ∧ t.sdr = s.sdr ∧
    t.cce = s.cce ∧ t.dsc = s.dsc ∧ t.enu = s.enu ∧ t.gds = s.gds ∧ t.plu = s.plu ∧ t.gwn = s.gwn ∧ t.rqh =
    s.rqh ∧ t.lanes = s.lanes ∧ t.rts = s.rts ∧ t.power = s.power ∧ t.draws = s.draws ∧ t.pending = s.pending := by
  simp only [execPgtContextChange] at h
  rw [whenRunning_eq h]
  (repeat' split) <;> simp

/-- What gwnWallSet leaves as it was. -/
theorem execGwnWallSet_frame {t : State} (h : execGwnWallSet s = .next t) :
    t.cin = s.cin ∧ t.routes = s.routes ∧ t.queues = s.queues ∧ t.tmb = s.tmb ∧ t.scp = s.scp ∧ t.sdr = s.sdr ∧
    t.cce = s.cce ∧ t.dsc = s.dsc ∧ t.enu = s.enu ∧ t.gds = s.gds ∧ t.plu = s.plu ∧ t.pgt = s.pgt ∧ t.rqh =
    s.rqh ∧ t.rpq = s.rpq ∧ t.lanes = s.lanes ∧ t.rts = s.rts ∧ t.power = s.power ∧ t.draws = s.draws ∧
    t.pending = s.pending := by
  simp only [execGwnWallSet] at h
  rw [whenRunning_eq h]
  (repeat' split) <;> simp

/-- What gridSet leaves as it was. -/
theorem execGridSet_frame {t : State} (h : execGridSet s = .next t) :
    t.cin = s.cin ∧ t.routes = s.routes ∧ t.queues = s.queues ∧ t.tmb = s.tmb ∧ t.scp = s.scp ∧ t.sdr = s.sdr ∧
    t.cce = s.cce ∧ t.dsc = s.dsc ∧ t.enu = s.enu ∧ t.gds = s.gds ∧ t.plu = s.plu ∧ t.pgt = s.pgt ∧ t.lanes =
    s.lanes ∧ t.rts = s.rts ∧ t.power = s.power ∧ t.inFlight = s.inFlight ∧ t.draws = s.draws ∧ t.pending =
    s.pending := by
  simp only [execGridSet] at h
  rw [whenRunning_eq h]
  (repeat' split) <;> simp

/-- What cursorMove leaves as it was. -/
theorem execCursorMove_frame {t : State} (h : execCursorMove s = .next t) :
    t.cin = s.cin ∧ t.routes = s.routes ∧ t.queues = s.queues ∧ t.tmb = s.tmb ∧ t.scp = s.scp ∧ t.sdr = s.sdr ∧
    t.cce = s.cce ∧ t.dsc = s.dsc ∧ t.enu = s.enu ∧ t.gds = s.gds ∧ t.plu = s.plu ∧ t.pgt = s.pgt ∧ t.lanes =
    s.lanes ∧ t.rts = s.rts ∧ t.power = s.power ∧ t.inFlight = s.inFlight ∧ t.draws = s.draws ∧ t.pending =
    s.pending := by
  simp only [execCursorMove] at h
  rw [whenRunning_eq h]
  (repeat' split) <;> simp

/-- What gridRead leaves as it was. -/
theorem execGridRead_frame {t : State} (h : execGridRead s = .next t) :
    t.cin = s.cin ∧ t.routes = s.routes ∧ t.queues = s.queues ∧ t.tmb = s.tmb ∧ t.scp = s.scp ∧ t.sdr = s.sdr ∧
    t.cce = s.cce ∧ t.dsc = s.dsc ∧ t.enu = s.enu ∧ t.gds = s.gds ∧ t.plu = s.plu ∧ t.pgt = s.pgt ∧ t.gwn =
    s.gwn ∧ t.lanes = s.lanes ∧ t.rts = s.rts ∧ t.power = s.power ∧ t.inFlight = s.inFlight ∧ t.draws = s.draws
    ∧ t.pending = s.pending := by
  simp only [execGridRead] at h
  rw [whenRunning_eq h]
  (repeat' split) <;> simp

/-- What requestIntake leaves as it was. -/
theorem execRequestIntake_frame {t : State} (h : execRequestIntake s = .next t) :
    t.cin = s.cin ∧ t.routes = s.routes ∧ t.queues = s.queues ∧ t.tmb = s.tmb ∧ t.scp = s.scp ∧ t.sdr = s.sdr ∧
    t.cce = s.cce ∧ t.dsc = s.dsc ∧ t.enu = s.enu ∧ t.gds = s.gds ∧ t.plu = s.plu ∧ t.pgt = s.pgt ∧ t.gwn =
    s.gwn ∧ t.lanes = s.lanes ∧ t.rts = s.rts ∧ t.power = s.power ∧ t.inFlight = s.inFlight ∧ t.draws = s.draws
    ∧ t.pending = s.pending := by
  simp only [execRequestIntake] at h
  rw [whenRunning_eq h]
  (repeat' split) <;> simp

/-- What reset leaves as it was. -/
theorem execReset_frame {t : State} (h : execReset s = .next t) :
    t.cin = s.cin ∧ t.routes = s.routes ∧ t.queues = s.queues ∧ t.tmb = s.tmb ∧ t.scp = s.scp ∧ t.sdr = s.sdr ∧
    t.cce = s.cce ∧ t.dsc = s.dsc ∧ t.enu = s.enu ∧ t.gds = s.gds ∧ t.plu = s.plu ∧ t.pgt = s.pgt ∧ t.gwn =
    s.gwn ∧ t.lanes = s.lanes ∧ t.rts = s.rts ∧ t.power = s.power ∧ t.inFlight = s.inFlight ∧ t.draws = s.draws
    ∧ t.pending = s.pending := by
  simp only [execReset] at h
  rw [whenRunning_eq h]
  (repeat' split) <;> simp

/-- What readTable leaves as it was. -/
theorem execReadTable_frame {t : State} (h : execReadTable s = .next t) :
    t.cin = s.cin ∧ t.routes = s.routes ∧ t.queues = s.queues ∧ t.scp = s.scp ∧ t.sdr = s.sdr ∧ t.cce = s.cce ∧
    t.dsc = s.dsc ∧ t.enu = s.enu ∧ t.gds = s.gds ∧ t.plu = s.plu ∧ t.pgt = s.pgt ∧ t.gwn = s.gwn ∧ t.lanes =
    s.lanes ∧ t.rts = s.rts ∧ t.power = s.power ∧ t.inFlight = s.inFlight ∧ t.draws = s.draws ∧ t.pending =
    s.pending := by
  simp only [execReadTable] at h
  rw [whenRunning_eq h]
  (repeat' split) <;> simp

/-- What setEventMask leaves as it was. -/
theorem execSetEventMask_frame {t : State} (h : execSetEventMask s = .next t) :
    t.cin = s.cin ∧ t.routes = s.routes ∧ t.queues = s.queues ∧ t.tmb = s.tmb ∧ t.scp = s.scp ∧ t.sdr = s.sdr ∧
    t.cce = s.cce ∧ t.dsc = s.dsc ∧ t.enu = s.enu ∧ t.gds = s.gds ∧ t.plu = s.plu ∧ t.pgt = s.pgt ∧ t.gwn =
    s.gwn ∧ t.lanes = s.lanes ∧ t.rts = s.rts ∧ t.power = s.power ∧ t.inFlight = s.inFlight ∧ t.draws = s.draws
    ∧ t.pending = s.pending := by
  simp only [execSetEventMask] at h
  rw [whenRunning_eq h]
  (repeat' split) <;> simp

/-- What mainSupplyLoss leaves as it was. -/
theorem execMainSupplyLoss_frame {t : State} (h : execMainSupplyLoss s = .next t) :
    t.cin = s.cin ∧ t.routes = s.routes ∧ t.queues = s.queues ∧ t.tmb = s.tmb ∧ t.scp = s.scp ∧ t.sdr = s.sdr ∧
    t.cce = s.cce ∧ t.dsc = s.dsc ∧ t.enu = s.enu ∧ t.gds = s.gds ∧ t.plu = s.plu ∧ t.pgt = s.pgt ∧ t.gwn =
    s.gwn ∧ t.rqh = s.rqh ∧ t.rpq = s.rpq ∧ t.lanes = s.lanes ∧ t.rts = s.rts ∧ t.inFlight = s.inFlight ∧
    t.draws = s.draws ∧ t.pending = s.pending := by
  cases h
  exact ⟨rfl, rfl, rfl, rfl, rfl, rfl, rfl, rfl, rfl, rfl, rfl, rfl, rfl, rfl, rfl, rfl, rfl, rfl, rfl, rfl⟩

/-- What budgetAccrualSecond leaves as it was. -/
theorem execBudgetAccrualSecond_frame {t : State} (h : execBudgetAccrualSecond s = .next t) :
    t.cin = s.cin ∧ t.routes = s.routes ∧ t.queues = s.queues ∧ t.tmb = s.tmb ∧ t.scp = s.scp ∧ t.sdr = s.sdr ∧
    t.cce = s.cce ∧ t.dsc = s.dsc ∧ t.enu = s.enu ∧ t.gds = s.gds ∧ t.pgt = s.pgt ∧ t.gwn = s.gwn ∧ t.rqh =
    s.rqh ∧ t.lanes = s.lanes ∧ t.rts = s.rts ∧ t.power = s.power ∧ t.draws = s.draws ∧ t.pending = s.pending := by
  simp only [execBudgetAccrualSecond] at h
  rw [whenRunning_eq h]
  simp only [pluEvent]
  (repeat' split) <;> simp

/-- Every command answers a next state: the manual stops the part in no case. -/
theorem exec_answers_next (i : Instr) : ∃ t, exec i s = .next t := by
  cases i with
  | gatePosting poster => cases poster <;> exact ⟨_, rfl⟩
  | warmReset cause => cases cause <;> exact ⟨_, rfl⟩
  | _ => exact ⟨_, rfl⟩

/-- A cell leaving on the data lane either is the RESET reply, with which the warm reset takes place, or changes the
lanes, the reply queue and the padding draws alone. -/
theorem sendDataCell_cases :
    (∃ s1, sendDataCell s = warmResetFrom .request s1 ∧ s1.enu = s.enu ∧ s1.plu = s.plu ∧ s1.scp = s.scp
      ∧ s1.cce = s.cce ∧ s1.rpq.classes = s.rpq.classes ∧ s1.rpq.enabled = s.rpq.enabled ∧ s1.rts = s.rts
      ∧ s1.power = s.power ∧ s1.pending = s.pending)
    ∨ sendDataCell s = { s with
        lanes := (sendDataCell s).lanes, rpq := (sendDataCell s).rpq, draws := (sendDataCell s).draws } := by
  have status : ∀ r rest,
      (∃ s1, sendStatus r rest s = warmResetFrom .request s1 ∧ s1.enu = s.enu ∧ s1.plu = s.plu ∧ s1.scp = s.scp
        ∧ s1.cce = s.cce ∧ s1.rpq.classes = s.rpq.classes ∧ s1.rpq.enabled = s.rpq.enabled ∧ s1.rts = s.rts
        ∧ s1.power = s.power ∧ s1.pending = s.pending)
      ∨ sendStatus r rest s = { s with
          lanes := (sendStatus r rest s).lanes, rpq := (sendStatus r rest s).rpq
          draws := (sendStatus r rest s).draws } := by
    intro r rest
    simp only [sendStatus]
    split
    · exact .inl ⟨_, rfl, rfl, rfl, rfl, rfl, rfl, rfl, rfl, rfl, rfl⟩
    · exact .inr rfl
  simp only [sendDataCell]
  split
  · exact .inr rfl
  · exact .inr rfl
  · exact status _ _
  · split
    · exact .inr rfl
    · exact status _ _


/-- The commands that can change the account. -/
theorem exec_enu_cases {i : Instr} {t : State} (h : exec i s = .next t) :
    t.enu = s.enu ∨ (∃ cause, i = .warmReset cause) ∨ i = .coldStart ∨ i = .entitlementSection ∨ i =
    .entExpiryFiring ∨ i = .purchase ∨ i = .dataLaneCellSent := by
  cases i with
  | resetPinRelease => exact .inl (by simp [execResetPinRelease_frame s h])
  | syncSearch port byte => exact .inl (by simp [execSyncSearch_frame s port byte h])
  | cellArrival port bytes => exact .inl (by simp [execCellArrival_frame s port bytes h])
  | portLCell strobe bytes => exact .inl (by simp [execPortLCell_frame s strobe bytes h])
  | idleWatchExpiry port => exact .inl (by simp [execIdleWatchExpiry_frame s port h])
  | holdoverWatchExpiry => exact .inl (by simp [execHoldoverWatchExpiry_frame s h])
  | secondAdvance => exact .inl (by simp [execSecondAdvance_frame s h])
  | timeSection => exact .inl (by simp [execTimeSection_frame s h])
  | offsetChangeFiring => exact .inl (by simp [execOffsetChangeFiring_frame s h])
  | firingPass => exact .inl (by simp [execFiringPass_frame s h])
  | scpWallSet => exact .inl (by simp [execScpWallSet_frame s h])
  | scpRewind => exact .inl (by simp [execScpRewind_frame s h])
  | scpOffsetChange => exact .inl (by simp [execScpOffsetChange_frame s h])
  | scpProfileChange => exact .inl (by simp [execScpProfileChange_frame s h])
  | addReminder => exact .inl (by simp [execAddReminder_frame s h])
  | dropReminder => exact .inl (by simp [execDropReminder_frame s h])
  | holdReminders => exact .inl (by simp [execHoldReminders_frame s h])
  | releaseReminders => exact .inl (by simp [execReleaseReminders_frame s h])
  | setRange => exact .inl (by simp [execSetRange_frame s h])
  | directorySection => exact .inl (by simp [execDirectorySection_frame s h])
  | tune => exact .inl (by simp [execTune_frame s h])
  | portALockReport => exact .inl (by simp [execPortALockReport_frame s h])
  | portAHuntReport => exact .inl (by simp [execPortAHuntReport_frame s h])
  | tunerReady => exact .inl (by simp [execTunerReady_frame s h])
  | tunerFail => exact .inl (by simp [execTunerFail_frame s h])
  | tuneTimeout => exact .inl (by simp [execTuneTimeout_frame s h])
  | mapSection => exact .inl (by simp [execMapSection_frame s h])
  | noMapTimeout => exact .inl (by simp [execNoMapTimeout_frame s h])
  | armingReport => exact .inl (by simp [execArmingReport_frame s h])
  | waitKeyTimeout => exact .inl (by simp [execWaitKeyTimeout_frame s h])
  | forcedSplice => exact .inl (by simp [execForcedSplice_frame s h])
  | cancel => exact .inl (by simp [execCancel_frame s h])
  | setAudio => exact .inl (by simp [execSetAudio_frame s h])
  | standby => exact .inl (by simp [execStandby_frame s h])
  | wake => exact .inl (by simp [execWake_frame s h])
  | addRoute => exact .inl (by simp [execAddRoute_frame s h])
  | dropRoute => exact .inl (by simp [execDropRoute_frame s h])
  | keySection => exact .inl (by simp [execKeySection_frame s h])
  | entChangeNotice => exact .inl (by simp [execEntChangeNotice_frame s h])
  | dscWallSet => exact .inl (by simp [execDscWallSet_frame s h])
  | enuWallSet => exact .inl (by simp [execEnuWallSet_frame s h])
  | guideSection => exact .inl (by simp [execGuideSection_frame s h])
  | eventEndFiring => exact .inl (by simp [execEventEndFiring_frame s h])
  | gdsContextChange => exact .inl (by simp [execGdsContextChange_frame s h])
  | gdsRewind => exact .inl (by simp [execGdsRewind_frame s h])
  | gdsWallSet => exact .inl (by simp [execGdsWallSet_frame s h])
  | dayRollPurge => exact .inl (by simp [execDayRollPurge_frame s h])
  | ratingSection => exact .inl (by simp [execRatingSection_frame s h])
  | nowEventNotice => exact .inl (by simp [execNowEventNotice_frame s h])
  | pluContextChange => exact .inl (by simp [execPluContextChange_frame s h])
  | windowStatesHandover => exact .inl (by simp [execWindowStatesHandover_frame s h])
  | gateStateHandover => exact .inl (by simp [execGateStateHandover_frame s h])
  | budgetAccrualMinute => exact .inl (by simp [execBudgetAccrualMinute_frame s h])
  | dayRollFiring => exact .inl (by simp [execDayRollFiring_frame s h])
  | pluOffsetChange => exact .inl (by simp [execPluOffsetChange_frame s h])
  | pluWallSet => exact .inl (by simp [execPluWallSet_frame s h])
  | selectProfile => exact .inl (by simp [execSelectProfile_frame s h])
  | setProfileLimits => exact .inl (by simp [execSetProfileLimits_frame s h])
  | lockService => exact .inl (by simp [execLockService_frame s h])
  | unlockService => exact .inl (by simp [execUnlockService_frame s h])
  | setBudget => exact .inl (by simp [execSetBudget_frame s h])
  | override => exact .inl (by simp [execOverride_frame s h])
  | endOverride => exact .inl (by simp [execEndOverride_frame s h])
  | overrideEndFiring => exact .inl (by simp [execOverrideEndFiring_frame s h])
  | hostMute => exact .inl (by simp [execHostMute_frame s h])
  | gatePosting poster => exact .inl (by simp [execGatePosting_frame s poster h])
  | pgtContextChange => exact .inl (by simp [execPgtContextChange_frame s h])
  | gwnWallSet => exact .inl (by simp [execGwnWallSet_frame s h])
  | gridSet => exact .inl (by simp [execGridSet_frame s h])
  | cursorMove => exact .inl (by simp [execCursorMove_frame s h])
  | gridRead => exact .inl (by simp [execGridRead_frame s h])
  | requestIntake => exact .inl (by simp [execRequestIntake_frame s h])
  | reset => exact .inl (by simp [execReset_frame s h])
  | readTable => exact .inl (by simp [execReadTable_frame s h])
  | setEventMask => exact .inl (by simp [execSetEventMask_frame s h])
  | mainSupplyLoss => exact .inl (by simp [execMainSupplyLoss_frame s h])
  | budgetAccrualSecond => exact .inl (by simp [execBudgetAccrualSecond_frame s h])
  | _ => simp

/-- The commands that can change the guide store. -/
theorem exec_gds_cases {i : Instr} {t : State} (h : exec i s = .next t) :
    t.gds = s.gds ∨ (∃ cause, i = .warmReset cause) ∨ i = .coldStart ∨ i = .guideSection ∨ i = .eventEndFiring ∨
    i = .gdsContextChange ∨ i = .gdsRewind ∨ i = .gdsWallSet ∨ i = .dayRollPurge ∨ i = .dataLaneCellSent := by
  cases i with
  | resetPinRelease => exact .inl (by simp [execResetPinRelease_frame s h])
  | syncSearch port byte => exact .inl (by simp [execSyncSearch_frame s port byte h])
  | cellArrival port bytes => exact .inl (by simp [execCellArrival_frame s port bytes h])
  | portLCell strobe bytes => exact .inl (by simp [execPortLCell_frame s strobe bytes h])
  | idleWatchExpiry port => exact .inl (by simp [execIdleWatchExpiry_frame s port h])
  | holdoverWatchExpiry => exact .inl (by simp [execHoldoverWatchExpiry_frame s h])
  | secondAdvance => exact .inl (by simp [execSecondAdvance_frame s h])
  | timeSection => exact .inl (by simp [execTimeSection_frame s h])
  | offsetChangeFiring => exact .inl (by simp [execOffsetChangeFiring_frame s h])
  | firingPass => exact .inl (by simp [execFiringPass_frame s h])
  | scpWallSet => exact .inl (by simp [execScpWallSet_frame s h])
  | scpRewind => exact .inl (by simp [execScpRewind_frame s h])
  | scpOffsetChange => exact .inl (by simp [execScpOffsetChange_frame s h])
  | scpProfileChange => exact .inl (by simp [execScpProfileChange_frame s h])
  | addReminder => exact .inl (by simp [execAddReminder_frame s h])
  | dropReminder => exact .inl (by simp [execDropReminder_frame s h])
  | holdReminders => exact .inl (by simp [execHoldReminders_frame s h])
  | releaseReminders => exact .inl (by simp [execReleaseReminders_frame s h])
  | setRange => exact .inl (by simp [execSetRange_frame s h])
  | directorySection => exact .inl (by simp [execDirectorySection_frame s h])
  | tune => exact .inl (by simp [execTune_frame s h])
  | portALockReport => exact .inl (by simp [execPortALockReport_frame s h])
  | portAHuntReport => exact .inl (by simp [execPortAHuntReport_frame s h])
  | tunerReady => exact .inl (by simp [execTunerReady_frame s h])
  | tunerFail => exact .inl (by simp [execTunerFail_frame s h])
  | tuneTimeout => exact .inl (by simp [execTuneTimeout_frame s h])
  | mapSection => exact .inl (by simp [execMapSection_frame s h])
  | noMapTimeout => exact .inl (by simp [execNoMapTimeout_frame s h])
  | armingReport => exact .inl (by simp [execArmingReport_frame s h])
  | waitKeyTimeout => exact .inl (by simp [execWaitKeyTimeout_frame s h])
  | forcedSplice => exact .inl (by simp [execForcedSplice_frame s h])
  | cancel => exact .inl (by simp [execCancel_frame s h])
  | setAudio => exact .inl (by simp [execSetAudio_frame s h])
  | standby => exact .inl (by simp [execStandby_frame s h])
  | wake => exact .inl (by simp [execWake_frame s h])
  | addRoute => exact .inl (by simp [execAddRoute_frame s h])
  | dropRoute => exact .inl (by simp [execDropRoute_frame s h])
  | keySection => exact .inl (by simp [execKeySection_frame s h])
  | entChangeNotice => exact .inl (by simp [execEntChangeNotice_frame s h])
  | dscWallSet => exact .inl (by simp [execDscWallSet_frame s h])
  | entitlementSection => exact .inl (by simp [execEntitlementSection_frame s h])
  | entExpiryFiring => exact .inl (by simp [execEntExpiryFiring_frame s h])
  | enuWallSet => exact .inl (by simp [execEnuWallSet_frame s h])
  | purchase => exact .inl (by simp [execPurchase_frame s h])
  | ratingSection => exact .inl (by simp [execRatingSection_frame s h])
  | nowEventNotice => exact .inl (by simp [execNowEventNotice_frame s h])
  | pluContextChange => exact .inl (by simp [execPluContextChange_frame s h])
  | windowStatesHandover => exact .inl (by simp [execWindowStatesHandover_frame s h])
  | gateStateHandover => exact .inl (by simp [execGateStateHandover_frame s h])
  | budgetAccrualMinute => exact .inl (by simp [execBudgetAccrualMinute_frame s h])
  | dayRollFiring => exact .inl (by simp [execDayRollFiring_frame s h])
  | pluOffsetChange => exact .inl (by simp [execPluOffsetChange_frame s h])
  | pluWallSet => exact .inl (by simp [execPluWallSet_frame s h])
  | selectProfile => exact .inl (by simp [execSelectProfile_frame s h])
  | setProfileLimits => exact .inl (by simp [execSetProfileLimits_frame s h])
  | lockService => exact .inl (by simp [execLockService_frame s h])
  | unlockService => exact .inl (by simp [execUnlockService_frame s h])
  | setBudget => exact .inl (by simp [execSetBudget_frame s h])
  | override => exact .inl (by simp [execOverride_frame s h])
  | endOverride => exact .inl (by simp [execEndOverride_frame s h])
  | overrideEndFiring => exact .inl (by simp [execOverrideEndFiring_frame s h])
  | hostMute => exact .inl (by simp [execHostMute_frame s h])
  | gatePosting poster => exact .inl (by simp [execGatePosting_frame s poster h])
  | pgtContextChange => exact .inl (by simp [execPgtContextChange_frame s h])
  | gwnWallSet => exact .inl (by simp [execGwnWallSet_frame s h])
  | gridSet => exact .inl (by simp [execGridSet_frame s h])
  | cursorMove => exact .inl (by simp [execCursorMove_frame s h])
  | gridRead => exact .inl (by simp [execGridRead_frame s h])
  | requestIntake => exact .inl (by simp [execRequestIntake_frame s h])
  | reset => exact .inl (by simp [execReset_frame s h])
  | readTable => exact .inl (by simp [execReadTable_frame s h])
  | setEventMask => exact .inl (by simp [execSetEventMask_frame s h])
  | mainSupplyLoss => exact .inl (by simp [execMainSupplyLoss_frame s h])
  | budgetAccrualSecond => exact .inl (by simp [execBudgetAccrualSecond_frame s h])
  | _ => simp

/-- The commands that can change the gate record. -/
theorem exec_pgt_cases {i : Instr} {t : State} (h : exec i s = .next t) :
    t.pgt = s.pgt ∨ (∃ cause, i = .warmReset cause) ∨ i = .coldStart ∨ (∃ poster, i = .gatePosting poster) ∨ i =
    .pgtContextChange ∨ (∃ port bytes, i = .cellArrival port bytes) ∨ (∃ strobe bytes, i = .portLCell strobe bytes)
    ∨ i = .dataLaneCellSent := by
  cases i with
  | resetPinRelease => exact .inl (by simp [execResetPinRelease_frame s h])
  | syncSearch port byte => exact .inl (by simp [execSyncSearch_frame s port byte h])
  | idleWatchExpiry port => exact .inl (by simp [execIdleWatchExpiry_frame s port h])
  | holdoverWatchExpiry => exact .inl (by simp [execHoldoverWatchExpiry_frame s h])
  | secondAdvance => exact .inl (by simp [execSecondAdvance_frame s h])
  | timeSection => exact .inl (by simp [execTimeSection_frame s h])
  | offsetChangeFiring => exact .inl (by simp [execOffsetChangeFiring_frame s h])
  | firingPass => exact .inl (by simp [execFiringPass_frame s h])
  | scpWallSet => exact .inl (by simp [execScpWallSet_frame s h])
  | scpRewind => exact .inl (by simp [execScpRewind_frame s h])
  | scpOffsetChange => exact .inl (by simp [execScpOffsetChange_frame s h])
  | scpProfileChange => exact .inl (by simp [execScpProfileChange_frame s h])
  | addReminder => exact .inl (by simp [execAddReminder_frame s h])
  | dropReminder => exact .inl (by simp [execDropReminder_frame s h])
  | holdReminders => exact .inl (by simp [execHoldReminders_frame s h])
  | releaseReminders => exact .inl (by simp [execReleaseReminders_frame s h])
  | setRange => exact .inl (by simp [execSetRange_frame s h])
  | directorySection => exact .inl (by simp [execDirectorySection_frame s h])
  | tune => exact .inl (by simp [execTune_frame s h])
  | portALockReport => exact .inl (by simp [execPortALockReport_frame s h])
  | portAHuntReport => exact .inl (by simp [execPortAHuntReport_frame s h])
  | tunerReady => exact .inl (by simp [execTunerReady_frame s h])
  | tunerFail => exact .inl (by simp [execTunerFail_frame s h])
  | tuneTimeout => exact .inl (by simp [execTuneTimeout_frame s h])
  | mapSection => exact .inl (by simp [execMapSection_frame s h])
  | noMapTimeout => exact .inl (by simp [execNoMapTimeout_frame s h])
  | armingReport => exact .inl (by simp [execArmingReport_frame s h])
  | waitKeyTimeout => exact .inl (by simp [execWaitKeyTimeout_frame s h])
  | forcedSplice => exact .inl (by simp [execForcedSplice_frame s h])
  | cancel => exact .inl (by simp [execCancel_frame s h])
  | setAudio => exact .inl (by simp [execSetAudio_frame s h])
  | standby => exact .inl (by simp [execStandby_frame s h])
  | wake => exact .inl (by simp [execWake_frame s h])
  | addRoute => exact .inl (by simp [execAddRoute_frame s h])
  | dropRoute => exact .inl (by simp [execDropRoute_frame s h])
  | keySection => exact .inl (by simp [execKeySection_frame s h])
  | entChangeNotice => exact .inl (by simp [execEntChangeNotice_frame s h])
  | dscWallSet => exact .inl (by simp [execDscWallSet_frame s h])
  | entitlementSection => exact .inl (by simp [execEntitlementSection_frame s h])
  | entExpiryFiring => exact .inl (by simp [execEntExpiryFiring_frame s h])
  | enuWallSet => exact .inl (by simp [execEnuWallSet_frame s h])
  | purchase => exact .inl (by simp [execPurchase_frame s h])
  | guideSection => exact .inl (by simp [execGuideSection_frame s h])
  | eventEndFiring => exact .inl (by simp [execEventEndFiring_frame s h])
  | gdsContextChange => exact .inl (by simp [execGdsContextChange_frame s h])
  | gdsRewind => exact .inl (by simp [execGdsRewind_frame s h])
  | gdsWallSet => exact .inl (by simp [execGdsWallSet_frame s h])
  | dayRollPurge => exact .inl (by simp [execDayRollPurge_frame s h])
  | ratingSection => exact .inl (by simp [execRatingSection_frame s h])
  | nowEventNotice => exact .inl (by simp [execNowEventNotice_frame s h])
  | pluContextChange => exact .inl (by simp [execPluContextChange_frame s h])
  | windowStatesHandover => exact .inl (by simp [execWindowStatesHandover_frame s h])
  | gateStateHandover => exact .inl (by simp [execGateStateHandover_frame s h])
  | budgetAccrualMinute => exact .inl (by simp [execBudgetAccrualMinute_frame s h])
  | dayRollFiring => exact .inl (by simp [execDayRollFiring_frame s h])
  | pluOffsetChange => exact .inl (by simp [execPluOffsetChange_frame s h])
  | pluWallSet => exact .inl (by simp [execPluWallSet_frame s h])
  | selectProfile => exact .inl (by simp [execSelectProfile_frame s h])
  | setProfileLimits => exact .inl (by simp [execSetProfileLimits_frame s h])
  | lockService => exact .inl (by simp [execLockService_frame s h])
  | unlockService => exact .inl (by simp [execUnlockService_frame s h])
  | setBudget => exact .inl (by simp [execSetBudget_frame s h])
  | override => exact .inl (by simp [execOverride_frame s h])
  | endOverride => exact .inl (by simp [execEndOverride_frame s h])
  | overrideEndFiring => exact .inl (by simp [execOverrideEndFiring_frame s h])
  | hostMute => exact .inl (by simp [execHostMute_frame s h])
  | gwnWallSet => exact .inl (by simp [execGwnWallSet_frame s h])
  | gridSet => exact .inl (by simp [execGridSet_frame s h])
  | cursorMove => exact .inl (by simp [execCursorMove_frame s h])
  | gridRead => exact .inl (by simp [execGridRead_frame s h])
  | requestIntake => exact .inl (by simp [execRequestIntake_frame s h])
  | reset => exact .inl (by simp [execReset_frame s h])
  | readTable => exact .inl (by simp [execReadTable_frame s h])
  | setEventMask => exact .inl (by simp [execSetEventMask_frame s h])
  | mainSupplyLoss => exact .inl (by simp [execMainSupplyLoss_frame s h])
  | budgetAccrualSecond => exact .inl (by simp [execBudgetAccrualSecond_frame s h])
  | _ => simp

/-- The commands that can change the parental limits. -/
theorem exec_plu_cases {i : Instr} {t : State} (h : exec i s = .next t) :
    t.plu = s.plu ∨ (∃ cause, i = .warmReset cause) ∨ i = .coldStart ∨ i = .ratingSection ∨ i = .nowEventNotice
    ∨ i = .pluContextChange ∨ i = .windowStatesHandover ∨ i = .gateStateHandover ∨ i = .budgetAccrualMinute ∨ i
    = .dayRollFiring ∨ i = .pluOffsetChange ∨ i = .pluWallSet ∨ i = .selectProfile ∨ i = .setProfileLimits ∨ i =
    .lockService ∨ i = .unlockService ∨ i = .setBudget ∨ i = .override ∨ i = .endOverride ∨ i =
    .overrideEndFiring ∨ i = .hostMute ∨ i = .dataLaneCellSent ∨ i = .budgetAccrualSecond := by
  cases i with
  | resetPinRelease => exact .inl (by simp [execResetPinRelease_frame s h])
  | syncSearch port byte => exact .inl (by simp [execSyncSearch_frame s port byte h])
  | cellArrival port bytes => exact .inl (by simp [execCellArrival_frame s port bytes h])
  | portLCell strobe bytes => exact .inl (by simp [execPortLCell_frame s strobe bytes h])
  | idleWatchExpiry port => exact .inl (by simp [execIdleWatchExpiry_frame s port h])
  | holdoverWatchExpiry => exact .inl (by simp [execHoldoverWatchExpiry_frame s h])
  | secondAdvance => exact .inl (by simp [execSecondAdvance_frame s h])
  | timeSection => exact .inl (by simp [execTimeSection_frame s h])
  | offsetChangeFiring => exact .inl (by simp [execOffsetChangeFiring_frame s h])
  | firingPass => exact .inl (by simp [execFiringPass_frame s h])
  | scpWallSet => exact .inl (by simp [execScpWallSet_frame s h])
  | scpRewind => exact .inl (by simp [execScpRewind_frame s h])
  | scpOffsetChange => exact .inl (by simp [execScpOffsetChange_frame s h])
  | scpProfileChange => exact .inl (by simp [execScpProfileChange_frame s h])
  | addReminder => exact .inl (by simp [execAddReminder_frame s h])
  | dropReminder => exact .inl (by simp [execDropReminder_frame s h])
  | holdReminders => exact .inl (by simp [execHoldReminders_frame s h])
  | releaseReminders => exact .inl (by simp [execReleaseReminders_frame s h])
  | setRange => exact .inl (by simp [execSetRange_frame s h])
  | directorySection => exact .inl (by simp [execDirectorySection_frame s h])
  | tune => exact .inl (by simp [execTune_frame s h])
  | portALockReport => exact .inl (by simp [execPortALockReport_frame s h])
  | portAHuntReport => exact .inl (by simp [execPortAHuntReport_frame s h])
  | tunerReady => exact .inl (by simp [execTunerReady_frame s h])
  | tunerFail => exact .inl (by simp [execTunerFail_frame s h])
  | tuneTimeout => exact .inl (by simp [execTuneTimeout_frame s h])
  | mapSection => exact .inl (by simp [execMapSection_frame s h])
  | noMapTimeout => exact .inl (by simp [execNoMapTimeout_frame s h])
  | armingReport => exact .inl (by simp [execArmingReport_frame s h])
  | waitKeyTimeout => exact .inl (by simp [execWaitKeyTimeout_frame s h])
  | forcedSplice => exact .inl (by simp [execForcedSplice_frame s h])
  | cancel => exact .inl (by simp [execCancel_frame s h])
  | setAudio => exact .inl (by simp [execSetAudio_frame s h])
  | standby => exact .inl (by simp [execStandby_frame s h])
  | wake => exact .inl (by simp [execWake_frame s h])
  | addRoute => exact .inl (by simp [execAddRoute_frame s h])
  | dropRoute => exact .inl (by simp [execDropRoute_frame s h])
  | keySection => exact .inl (by simp [execKeySection_frame s h])
  | entChangeNotice => exact .inl (by simp [execEntChangeNotice_frame s h])
  | dscWallSet => exact .inl (by simp [execDscWallSet_frame s h])
  | entitlementSection => exact .inl (by simp [execEntitlementSection_frame s h])
  | entExpiryFiring => exact .inl (by simp [execEntExpiryFiring_frame s h])
  | enuWallSet => exact .inl (by simp [execEnuWallSet_frame s h])
  | purchase => exact .inl (by simp [execPurchase_frame s h])
  | guideSection => exact .inl (by simp [execGuideSection_frame s h])
  | eventEndFiring => exact .inl (by simp [execEventEndFiring_frame s h])
  | gdsContextChange => exact .inl (by simp [execGdsContextChange_frame s h])
  | gdsRewind => exact .inl (by simp [execGdsRewind_frame s h])
  | gdsWallSet => exact .inl (by simp [execGdsWallSet_frame s h])
  | dayRollPurge => exact .inl (by simp [execDayRollPurge_frame s h])
  | gatePosting poster => exact .inl (by simp [execGatePosting_frame s poster h])
  | pgtContextChange => exact .inl (by simp [execPgtContextChange_frame s h])
  | gwnWallSet => exact .inl (by simp [execGwnWallSet_frame s h])
  | gridSet => exact .inl (by simp [execGridSet_frame s h])
  | cursorMove => exact .inl (by simp [execCursorMove_frame s h])
  | gridRead => exact .inl (by simp [execGridRead_frame s h])
  | requestIntake => exact .inl (by simp [execRequestIntake_frame s h])
  | reset => exact .inl (by simp [execReset_frame s h])
  | readTable => exact .inl (by simp [execReadTable_frame s h])
  | setEventMask => exact .inl (by simp [execSetEventMask_frame s h])
  | mainSupplyLoss => exact .inl (by simp [execMainSupplyLoss_frame s h])
  | _ => simp

/-- The commands that can change the window record. -/
theorem exec_gwn_cases {i : Instr} {t : State} (h : exec i s = .next t) :
    t.gwn = s.gwn ∨ (∃ cause, i = .warmReset cause) ∨ i = .coldStart ∨ i = .gwnWallSet ∨ i = .gridSet ∨ i =
    .cursorMove ∨ i = .dataLaneCellSent := by
  cases i with
  | resetPinRelease => exact .inl (by simp [execResetPinRelease_frame s h])
  | syncSearch port byte => exact .inl (by simp [execSyncSearch_frame s port byte h])
  | cellArrival port bytes => exact .inl (by simp [execCellArrival_frame s port bytes h])
  | portLCell strobe bytes => exact .inl (by simp [execPortLCell_frame s strobe bytes h])
  | idleWatchExpiry port => exact .inl (by simp [execIdleWatchExpiry_frame s port h])
  | holdoverWatchExpiry => exact .inl (by simp [execHoldoverWatchExpiry_frame s h])
  | secondAdvance => exact .inl (by simp [execSecondAdvance_frame s h])
  | timeSection => exact .inl (by simp [execTimeSection_frame s h])
  | offsetChangeFiring => exact .inl (by simp [execOffsetChangeFiring_frame s h])
  | firingPass => exact .inl (by simp [execFiringPass_frame s h])
  | scpWallSet => exact .inl (by simp [execScpWallSet_frame s h])
  | scpRewind => exact .inl (by simp [execScpRewind_frame s h])
  | scpOffsetChange => exact .inl (by simp [execScpOffsetChange_frame s h])
  | scpProfileChange => exact .inl (by simp [execScpProfileChange_frame s h])
  | addReminder => exact .inl (by simp [execAddReminder_frame s h])
  | dropReminder => exact .inl (by simp [execDropReminder_frame s h])
  | holdReminders => exact .inl (by simp [execHoldReminders_frame s h])
  | releaseReminders => exact .inl (by simp [execReleaseReminders_frame s h])
  | setRange => exact .inl (by simp [execSetRange_frame s h])
  | directorySection => exact .inl (by simp [execDirectorySection_frame s h])
  | tune => exact .inl (by simp [execTune_frame s h])
  | portALockReport => exact .inl (by simp [execPortALockReport_frame s h])
  | portAHuntReport => exact .inl (by simp [execPortAHuntReport_frame s h])
  | tunerReady => exact .inl (by simp [execTunerReady_frame s h])
  | tunerFail => exact .inl (by simp [execTunerFail_frame s h])
  | tuneTimeout => exact .inl (by simp [execTuneTimeout_frame s h])
  | mapSection => exact .inl (by simp [execMapSection_frame s h])
  | noMapTimeout => exact .inl (by simp [execNoMapTimeout_frame s h])
  | armingReport => exact .inl (by simp [execArmingReport_frame s h])
  | waitKeyTimeout => exact .inl (by simp [execWaitKeyTimeout_frame s h])
  | forcedSplice => exact .inl (by simp [execForcedSplice_frame s h])
  | cancel => exact .inl (by simp [execCancel_frame s h])
  | setAudio => exact .inl (by simp [execSetAudio_frame s h])
  | standby => exact .inl (by simp [execStandby_frame s h])
  | wake => exact .inl (by simp [execWake_frame s h])
  | addRoute => exact .inl (by simp [execAddRoute_frame s h])
  | dropRoute => exact .inl (by simp [execDropRoute_frame s h])
  | keySection => exact .inl (by simp [execKeySection_frame s h])
  | entChangeNotice => exact .inl (by simp [execEntChangeNotice_frame s h])
  | dscWallSet => exact .inl (by simp [execDscWallSet_frame s h])
  | entitlementSection => exact .inl (by simp [execEntitlementSection_frame s h])
  | entExpiryFiring => exact .inl (by simp [execEntExpiryFiring_frame s h])
  | enuWallSet => exact .inl (by simp [execEnuWallSet_frame s h])
  | purchase => exact .inl (by simp [execPurchase_frame s h])
  | guideSection => exact .inl (by simp [execGuideSection_frame s h])
  | eventEndFiring => exact .inl (by simp [execEventEndFiring_frame s h])
  | gdsContextChange => exact .inl (by simp [execGdsContextChange_frame s h])
  | gdsRewind => exact .inl (by simp [execGdsRewind_frame s h])
  | gdsWallSet => exact .inl (by simp [execGdsWallSet_frame s h])
  | dayRollPurge => exact .inl (by simp [execDayRollPurge_frame s h])
  | ratingSection => exact .inl (by simp [execRatingSection_frame s h])
  | nowEventNotice => exact .inl (by simp [execNowEventNotice_frame s h])
  | pluContextChange => exact .inl (by simp [execPluContextChange_frame s h])
  | windowStatesHandover => exact .inl (by simp [execWindowStatesHandover_frame s h])
  | gateStateHandover => exact .inl (by simp [execGateStateHandover_frame s h])
  | budgetAccrualMinute => exact .inl (by simp [execBudgetAccrualMinute_frame s h])
  | dayRollFiring => exact .inl (by simp [execDayRollFiring_frame s h])
  | pluOffsetChange => exact .inl (by simp [execPluOffsetChange_frame s h])
  | pluWallSet => exact .inl (by simp [execPluWallSet_frame s h])
  | selectProfile => exact .inl (by simp [execSelectProfile_frame s h])
  | setProfileLimits => exact .inl (by simp [execSetProfileLimits_frame s h])
  | lockService => exact .inl (by simp [execLockService_frame s h])
  | unlockService => exact .inl (by simp [execUnlockService_frame s h])
  | setBudget => exact .inl (by simp [execSetBudget_frame s h])
  | override => exact .inl (by simp [execOverride_frame s h])
  | endOverride => exact .inl (by simp [execEndOverride_frame s h])
  | overrideEndFiring => exact .inl (by simp [execOverrideEndFiring_frame s h])
  | hostMute => exact .inl (by simp [execHostMute_frame s h])
  | gatePosting poster => exact .inl (by simp [execGatePosting_frame s poster h])
  | pgtContextChange => exact .inl (by simp [execPgtContextChange_frame s h])
  | gridRead => exact .inl (by simp [execGridRead_frame s h])
  | requestIntake => exact .inl (by simp [execRequestIntake_frame s h])
  | reset => exact .inl (by simp [execReset_frame s h])
  | readTable => exact .inl (by simp [execReadTable_frame s h])
  | setEventMask => exact .inl (by simp [execSetEventMask_frame s h])
  | mainSupplyLoss => exact .inl (by simp [execMainSupplyLoss_frame s h])
  | budgetAccrualSecond => exact .inl (by simp [execBudgetAccrualSecond_frame s h])
  | _ => simp

/-- The commands that can change the schedule. -/
theorem exec_scp_cases {i : Instr} {t : State} (h : exec i s = .next t) :
    t.scp = s.scp ∨ (∃ cause, i = .warmReset cause) ∨ i = .coldStart ∨ i = .timeSection ∨ i = .firingPass ∨ i =
    .scpWallSet ∨ i = .scpRewind ∨ i = .scpOffsetChange ∨ i = .scpProfileChange ∨ i = .addReminder ∨ i =
    .dropReminder ∨ i = .holdReminders ∨ i = .releaseReminders ∨ i = .setRange ∨ i = .entitlementSection ∨ i =
    .entExpiryFiring ∨ i = .enuWallSet ∨ i = .purchase ∨ i = .guideSection ∨ i = .eventEndFiring ∨ i =
    .gdsContextChange ∨ i = .gdsRewind ∨ i = .gdsWallSet ∨ i = .pluContextChange ∨ i = .selectProfile ∨ i =
    .override ∨ i = .endOverride ∨ i = .overrideEndFiring ∨ i = .dataLaneCellSent := by
  cases i with
  | resetPinRelease => exact .inl (by simp [execResetPinRelease_frame s h])
  | syncSearch port byte => exact .inl (by simp [execSyncSearch_frame s port byte h])
  | cellArrival port bytes => exact .inl (by simp [execCellArrival_frame s port bytes h])
  | portLCell strobe bytes => exact .inl (by simp [execPortLCell_frame s strobe bytes h])
  | idleWatchExpiry port => exact .inl (by simp [execIdleWatchExpiry_frame s port h])
  | holdoverWatchExpiry => exact .inl (by simp [execHoldoverWatchExpiry_frame s h])
  | secondAdvance => exact .inl (by simp [execSecondAdvance_frame s h])
  | offsetChangeFiring => exact .inl (by simp [execOffsetChangeFiring_frame s h])
  | directorySection => exact .inl (by simp [execDirectorySection_frame s h])
  | tune => exact .inl (by simp [execTune_frame s h])
  | portALockReport => exact .inl (by simp [execPortALockReport_frame s h])
  | portAHuntReport => exact .inl (by simp [execPortAHuntReport_frame s h])
  | tunerReady => exact .inl (by simp [execTunerReady_frame s h])
  | tunerFail => exact .inl (by simp [execTunerFail_frame s h])
  | tuneTimeout => exact .inl (by simp [execTuneTimeout_frame s h])
  | mapSection => exact .inl (by simp [execMapSection_frame s h])
  | noMapTimeout => exact .inl (by simp [execNoMapTimeout_frame s h])
  | armingReport => exact .inl (by simp [execArmingReport_frame s h])
  | waitKeyTimeout => exact .inl (by simp [execWaitKeyTimeout_frame s h])
  | forcedSplice => exact .inl (by simp [execForcedSplice_frame s h])
  | cancel => exact .inl (by simp [execCancel_frame s h])
  | setAudio => exact .inl (by simp [execSetAudio_frame s h])
  | standby => exact .inl (by simp [execStandby_frame s h])
  | wake => exact .inl (by simp [execWake_frame s h])
  | addRoute => exact .inl (by simp [execAddRoute_frame s h])
  | dropRoute => exact .inl (by simp [execDropRoute_frame s h])
  | keySection => exact .inl (by simp [execKeySection_frame s h])
  | entChangeNotice => exact .inl (by simp [execEntChangeNotice_frame s h])
  | dscWallSet => exact .inl (by simp [execDscWallSet_frame s h])
  | dayRollPurge => exact .inl (by simp [execDayRollPurge_frame s h])
  | ratingSection => exact .inl (by simp [execRatingSection_frame s h])
  | nowEventNotice => exact .inl (by simp [execNowEventNotice_frame s h])
  | windowStatesHandover => exact .inl (by simp [execWindowStatesHandover_frame s h])
  | gateStateHandover => exact .inl (by simp [execGateStateHandover_frame s h])
  | budgetAccrualMinute => exact .inl (by simp [execBudgetAccrualMinute_frame s h])
  | dayRollFiring => exact .inl (by simp [execDayRollFiring_frame s h])
  | pluOffsetChange => exact .inl (by simp [execPluOffsetChange_frame s h])
  | pluWallSet => exact .inl (by simp [execPluWallSet_frame s h])
  | setProfileLimits => exact .inl (by simp [execSetProfileLimits_frame s h])
  | lockService => exact .inl (by simp [execLockService_frame s h])
  | unlockService => exact .inl (by simp [execUnlockService_frame s h])
  | setBudget => exact .inl (by simp [execSetBudget_frame s h])
  | hostMute => exact .inl (by simp [execHostMute_frame s h])
  | gatePosting poster => exact .inl (by simp [execGatePosting_frame s poster h])
  | pgtContextChange => exact .inl (by simp [execPgtContextChange_frame s h])
  | gwnWallSet => exact .inl (by simp [execGwnWallSet_frame s h])
  | gridSet => exact .inl (by simp [execGridSet_frame s h])
  | cursorMove => exact .inl (by simp [execCursorMove_frame s h])
  | gridRead => exact .inl (by simp [execGridRead_frame s h])
  | requestIntake => exact .inl (by simp [execRequestIntake_frame s h])
  | reset => exact .inl (by simp [execReset_frame s h])
  | readTable => exact .inl (by simp [execReadTable_frame s h])
  | setEventMask => exact .inl (by simp [execSetEventMask_frame s h])
  | mainSupplyLoss => exact .inl (by simp [execMainSupplyLoss_frame s h])
  | budgetAccrualSecond => exact .inl (by simp [execBudgetAccrualSecond_frame s h])
  | _ => simp

/-- The commands that can change the key records. -/
theorem exec_dsc_cases {i : Instr} {t : State} (h : exec i s = .next t) :
    t.dsc = s.dsc ∨ (∃ cause, i = .warmReset cause) ∨ i = .coldStart ∨ (∃ port bytes, i = .cellArrival port
    bytes) ∨ (∃ strobe bytes, i = .portLCell strobe bytes) ∨ i = .tune ∨ i = .tunerFail ∨ i = .tuneTimeout ∨ i =
    .mapSection ∨ i = .noMapTimeout ∨ i = .armingReport ∨ i = .waitKeyTimeout ∨ i = .forcedSplice ∨ i = .cancel
    ∨ i = .standby ∨ i = .wake ∨ i = .keySection ∨ i = .entChangeNotice ∨ i = .dscWallSet ∨ i =
    .dataLaneCellSent := by
  cases i with
  | resetPinRelease => exact .inl (by simp [execResetPinRelease_frame s h])
  | syncSearch port byte => exact .inl (by simp [execSyncSearch_frame s port byte h])
  | idleWatchExpiry port => exact .inl (by simp [execIdleWatchExpiry_frame s port h])
  | holdoverWatchExpiry => exact .inl (by simp [execHoldoverWatchExpiry_frame s h])
  | secondAdvance => exact .inl (by simp [execSecondAdvance_frame s h])
  | timeSection => exact .inl (by simp [execTimeSection_frame s h])
  | offsetChangeFiring => exact .inl (by simp [execOffsetChangeFiring_frame s h])
  | firingPass => exact .inl (by simp [execFiringPass_frame s h])
  | scpWallSet => exact .inl (by simp [execScpWallSet_frame s h])
  | scpRewind => exact .inl (by simp [execScpRewind_frame s h])
  | scpOffsetChange => exact .inl (by simp [execScpOffsetChange_frame s h])
  | scpProfileChange => exact .inl (by simp [execScpProfileChange_frame s h])
  | addReminder => exact .inl (by simp [execAddReminder_frame s h])
  | dropReminder => exact .inl (by simp [execDropReminder_frame s h])
  | holdReminders => exact .inl (by simp [execHoldReminders_frame s h])
  | releaseReminders => exact .inl (by simp [execReleaseReminders_frame s h])
  | setRange => exact .inl (by simp [execSetRange_frame s h])
  | directorySection => exact .inl (by simp [execDirectorySection_frame s h])
  | portALockReport => exact .inl (by simp [execPortALockReport_frame s h])
  | portAHuntReport => exact .inl (by simp [execPortAHuntReport_frame s h])
  | tunerReady => exact .inl (by simp [execTunerReady_frame s h])
  | setAudio => exact .inl (by simp [execSetAudio_frame s h])
  | addRoute => exact .inl (by simp [execAddRoute_frame s h])
  | dropRoute => exact .inl (by simp [execDropRoute_frame s h])
  | entitlementSection => exact .inl (by simp [execEntitlementSection_frame s h])
  | entExpiryFiring => exact .inl (by simp [execEntExpiryFiring_frame s h])
  | enuWallSet => exact .inl (by simp [execEnuWallSet_frame s h])
  | purchase => exact .inl (by simp [execPurchase_frame s h])
  | guideSection => exact .inl (by simp [execGuideSection_frame s h])
  | eventEndFiring => exact .inl (by simp [execEventEndFiring_frame s h])
  | gdsContextChange => exact .inl (by simp [execGdsContextChange_frame s h])
  | gdsRewind => exact .inl (by simp [execGdsRewind_frame s h])
  | gdsWallSet => exact .inl (by simp [execGdsWallSet_frame s h])
  | dayRollPurge => exact .inl (by simp [execDayRollPurge_frame s h])
  | ratingSection => exact .inl (by simp [execRatingSection_frame s h])
  | nowEventNotice => exact .inl (by simp [execNowEventNotice_frame s h])
  | pluContextChange => exact .inl (by simp [execPluContextChange_frame s h])
  | windowStatesHandover => exact .inl (by simp [execWindowStatesHandover_frame s h])
  | gateStateHandover => exact .inl (by simp [execGateStateHandover_frame s h])
  | budgetAccrualMinute => exact .inl (by simp [execBudgetAccrualMinute_frame s h])
  | dayRollFiring => exact .inl (by simp [execDayRollFiring_frame s h])
  | pluOffsetChange => exact .inl (by simp [execPluOffsetChange_frame s h])
  | pluWallSet => exact .inl (by simp [execPluWallSet_frame s h])
  | selectProfile => exact .inl (by simp [execSelectProfile_frame s h])
  | setProfileLimits => exact .inl (by simp [execSetProfileLimits_frame s h])
  | lockService => exact .inl (by simp [execLockService_frame s h])
  | unlockService => exact .inl (by simp [execUnlockService_frame s h])
  | setBudget => exact .inl (by simp [execSetBudget_frame s h])
  | override => exact .inl (by simp [execOverride_frame s h])
  | endOverride => exact .inl (by simp [execEndOverride_frame s h])
  | overrideEndFiring => exact .inl (by simp [execOverrideEndFiring_frame s h])
  | hostMute => exact .inl (by simp [execHostMute_frame s h])
  | gatePosting poster => exact .inl (by simp [execGatePosting_frame s poster h])
  | pgtContextChange => exact .inl (by simp [execPgtContextChange_frame s h])
  | gwnWallSet => exact .inl (by simp [execGwnWallSet_frame s h])
  | gridSet => exact .inl (by simp [execGridSet_frame s h])
  | cursorMove => exact .inl (by simp [execCursorMove_frame s h])
  | gridRead => exact .inl (by simp [execGridRead_frame s h])
  | requestIntake => exact .inl (by simp [execRequestIntake_frame s h])
  | reset => exact .inl (by simp [execReset_frame s h])
  | readTable => exact .inl (by simp [execReadTable_frame s h])
  | setEventMask => exact .inl (by simp [execSetEventMask_frame s h])
  | mainSupplyLoss => exact .inl (by simp [execMainSupplyLoss_frame s h])
  | budgetAccrualSecond => exact .inl (by simp [execBudgetAccrualSecond_frame s h])
  | _ => simp

/-- The commands that can change the directory. -/
theorem exec_sdr_cases {i : Instr} {t : State} (h : exec i s = .next t) :
    t.sdr = s.sdr ∨ (∃ cause, i = .warmReset cause) ∨ i = .coldStart ∨ i = .directorySection ∨ i =
    .dataLaneCellSent := by
  cases i with
  | resetPinRelease => exact .inl (by simp [execResetPinRelease_frame s h])
  | syncSearch port byte => exact .inl (by simp [execSyncSearch_frame s port byte h])
  | cellArrival port bytes => exact .inl (by simp [execCellArrival_frame s port bytes h])
  | portLCell strobe bytes => exact .inl (by simp [execPortLCell_frame s strobe bytes h])
  | idleWatchExpiry port => exact .inl (by simp [execIdleWatchExpiry_frame s port h])
  | holdoverWatchExpiry => exact .inl (by simp [execHoldoverWatchExpiry_frame s h])
  | secondAdvance => exact .inl (by simp [execSecondAdvance_frame s h])
  | timeSection => exact .inl (by simp [execTimeSection_frame s h])
  | offsetChangeFiring => exact .inl (by simp [execOffsetChangeFiring_frame s h])
  | firingPass => exact .inl (by simp [execFiringPass_frame s h])
  | scpWallSet => exact .inl (by simp [execScpWallSet_frame s h])
  | scpRewind => exact .inl (by simp [execScpRewind_frame s h])
  | scpOffsetChange => exact .inl (by simp [execScpOffsetChange_frame s h])
  | scpProfileChange => exact .inl (by simp [execScpProfileChange_frame s h])
  | addReminder => exact .inl (by simp [execAddReminder_frame s h])
  | dropReminder => exact .inl (by simp [execDropReminder_frame s h])
  | holdReminders => exact .inl (by simp [execHoldReminders_frame s h])
  | releaseReminders => exact .inl (by simp [execReleaseReminders_frame s h])
  | setRange => exact .inl (by simp [execSetRange_frame s h])
  | tune => exact .inl (by simp [execTune_frame s h])
  | portALockReport => exact .inl (by simp [execPortALockReport_frame s h])
  | portAHuntReport => exact .inl (by simp [execPortAHuntReport_frame s h])
  | tunerReady => exact .inl (by simp [execTunerReady_frame s h])
  | tunerFail => exact .inl (by simp [execTunerFail_frame s h])
  | tuneTimeout => exact .inl (by simp [execTuneTimeout_frame s h])
  | mapSection => exact .inl (by simp [execMapSection_frame s h])
  | noMapTimeout => exact .inl (by simp [execNoMapTimeout_frame s h])
  | armingReport => exact .inl (by simp [execArmingReport_frame s h])
  | waitKeyTimeout => exact .inl (by simp [execWaitKeyTimeout_frame s h])
  | forcedSplice => exact .inl (by simp [execForcedSplice_frame s h])
  | cancel => exact .inl (by simp [execCancel_frame s h])
  | setAudio => exact .inl (by simp [execSetAudio_frame s h])
  | standby => exact .inl (by simp [execStandby_frame s h])
  | wake => exact .inl (by simp [execWake_frame s h])
  | addRoute => exact .inl (by simp [execAddRoute_frame s h])
  | dropRoute => exact .inl (by simp [execDropRoute_frame s h])
  | keySection => exact .inl (by simp [execKeySection_frame s h])
  | entChangeNotice => exact .inl (by simp [execEntChangeNotice_frame s h])
  | dscWallSet => exact .inl (by simp [execDscWallSet_frame s h])
  | entitlementSection => exact .inl (by simp [execEntitlementSection_frame s h])
  | entExpiryFiring => exact .inl (by simp [execEntExpiryFiring_frame s h])
  | enuWallSet => exact .inl (by simp [execEnuWallSet_frame s h])
  | purchase => exact .inl (by simp [execPurchase_frame s h])
  | guideSection => exact .inl (by simp [execGuideSection_frame s h])
  | eventEndFiring => exact .inl (by simp [execEventEndFiring_frame s h])
  | gdsContextChange => exact .inl (by simp [execGdsContextChange_frame s h])
  | gdsRewind => exact .inl (by simp [execGdsRewind_frame s h])
  | gdsWallSet => exact .inl (by simp [execGdsWallSet_frame s h])
  | dayRollPurge => exact .inl (by simp [execDayRollPurge_frame s h])
  | ratingSection => exact .inl (by simp [execRatingSection_frame s h])
  | nowEventNotice => exact .inl (by simp [execNowEventNotice_frame s h])
  | pluContextChange => exact .inl (by simp [execPluContextChange_frame s h])
  | windowStatesHandover => exact .inl (by simp [execWindowStatesHandover_frame s h])
  | gateStateHandover => exact .inl (by simp [execGateStateHandover_frame s h])
  | budgetAccrualMinute => exact .inl (by simp [execBudgetAccrualMinute_frame s h])
  | dayRollFiring => exact .inl (by simp [execDayRollFiring_frame s h])
  | pluOffsetChange => exact .inl (by simp [execPluOffsetChange_frame s h])
  | pluWallSet => exact .inl (by simp [execPluWallSet_frame s h])
  | selectProfile => exact .inl (by simp [execSelectProfile_frame s h])
  | setProfileLimits => exact .inl (by simp [execSetProfileLimits_frame s h])
  | lockService => exact .inl (by simp [execLockService_frame s h])
  | unlockService => exact .inl (by simp [execUnlockService_frame s h])
  | setBudget => exact .inl (by simp [execSetBudget_frame s h])
  | override => exact .inl (by simp [execOverride_frame s h])
  | endOverride => exact .inl (by simp [execEndOverride_frame s h])
  | overrideEndFiring => exact .inl (by simp [execOverrideEndFiring_frame s h])
  | hostMute => exact .inl (by simp [execHostMute_frame s h])
  | gatePosting poster => exact .inl (by simp [execGatePosting_frame s poster h])
  | pgtContextChange => exact .inl (by simp [execPgtContextChange_frame s h])
  | gwnWallSet => exact .inl (by simp [execGwnWallSet_frame s h])
  | gridSet => exact .inl (by simp [execGridSet_frame s h])
  | cursorMove => exact .inl (by simp [execCursorMove_frame s h])
  | gridRead => exact .inl (by simp [execGridRead_frame s h])
  | requestIntake => exact .inl (by simp [execRequestIntake_frame s h])
  | reset => exact .inl (by simp [execReset_frame s h])
  | readTable => exact .inl (by simp [execReadTable_frame s h])
  | setEventMask => exact .inl (by simp [execSetEventMask_frame s h])
  | mainSupplyLoss => exact .inl (by simp [execMainSupplyLoss_frame s h])
  | budgetAccrualSecond => exact .inl (by simp [execBudgetAccrualSecond_frame s h])
  | _ => simp

/-- The commands that can change the time base. -/
theorem exec_tmb_cases {i : Instr} {t : State} (h : exec i s = .next t) :
    t.tmb = s.tmb ∨ (∃ cause, i = .warmReset cause) ∨ i = .coldStart ∨ (∃ port bytes, i = .cellArrival port
    bytes) ∨ (∃ strobe bytes, i = .portLCell strobe bytes) ∨ i = .holdoverWatchExpiry ∨ i = .secondAdvance ∨ i =
    .timeSection ∨ i = .offsetChangeFiring ∨ i = .readTable ∨ i = .dataLaneCellSent := by
  cases i with
  | resetPinRelease => exact .inl (by simp [execResetPinRelease_frame s h])
  | syncSearch port byte => exact .inl (by simp [execSyncSearch_frame s port byte h])
  | idleWatchExpiry port => exact .inl (by simp [execIdleWatchExpiry_frame s port h])
  | firingPass => exact .inl (by simp [execFiringPass_frame s h])
  | scpWallSet => exact .inl (by simp [execScpWallSet_frame s h])
  | scpRewind => exact .inl (by simp [execScpRewind_frame s h])
  | scpOffsetChange => exact .inl (by simp [execScpOffsetChange_frame s h])
  | scpProfileChange => exact .inl (by simp [execScpProfileChange_frame s h])
  | addReminder => exact .inl (by simp [execAddReminder_frame s h])
  | dropReminder => exact .inl (by simp [execDropReminder_frame s h])
  | holdReminders => exact .inl (by simp [execHoldReminders_frame s h])
  | releaseReminders => exact .inl (by simp [execReleaseReminders_frame s h])
  | setRange => exact .inl (by simp [execSetRange_frame s h])
  | directorySection => exact .inl (by simp [execDirectorySection_frame s h])
  | tune => exact .inl (by simp [execTune_frame s h])
  | portALockReport => exact .inl (by simp [execPortALockReport_frame s h])
  | portAHuntReport => exact .inl (by simp [execPortAHuntReport_frame s h])
  | tunerReady => exact .inl (by simp [execTunerReady_frame s h])
  | tunerFail => exact .inl (by simp [execTunerFail_frame s h])
  | tuneTimeout => exact .inl (by simp [execTuneTimeout_frame s h])
  | mapSection => exact .inl (by simp [execMapSection_frame s h])
  | noMapTimeout => exact .inl (by simp [execNoMapTimeout_frame s h])
  | armingReport => exact .inl (by simp [execArmingReport_frame s h])
  | waitKeyTimeout => exact .inl (by simp [execWaitKeyTimeout_frame s h])
  | forcedSplice => exact .inl (by simp [execForcedSplice_frame s h])
  | cancel => exact .inl (by simp [execCancel_frame s h])
  | setAudio => exact .inl (by simp [execSetAudio_frame s h])
  | standby => exact .inl (by simp [execStandby_frame s h])
  | wake => exact .inl (by simp [execWake_frame s h])
  | addRoute => exact .inl (by simp [execAddRoute_frame s h])
  | dropRoute => exact .inl (by simp [execDropRoute_frame s h])
  | keySection => exact .inl (by simp [execKeySection_frame s h])
  | entChangeNotice => exact .inl (by simp [execEntChangeNotice_frame s h])
  | dscWallSet => exact .inl (by simp [execDscWallSet_frame s h])
  | entitlementSection => exact .inl (by simp [execEntitlementSection_frame s h])
  | entExpiryFiring => exact .inl (by simp [execEntExpiryFiring_frame s h])
  | enuWallSet => exact .inl (by simp [execEnuWallSet_frame s h])
  | purchase => exact .inl (by simp [execPurchase_frame s h])
  | guideSection => exact .inl (by simp [execGuideSection_frame s h])
  | eventEndFiring => exact .inl (by simp [execEventEndFiring_frame s h])
  | gdsContextChange => exact .inl (by simp [execGdsContextChange_frame s h])
  | gdsRewind => exact .inl (by simp [execGdsRewind_frame s h])
  | gdsWallSet => exact .inl (by simp [execGdsWallSet_frame s h])
  | dayRollPurge => exact .inl (by simp [execDayRollPurge_frame s h])
  | ratingSection => exact .inl (by simp [execRatingSection_frame s h])
  | nowEventNotice => exact .inl (by simp [execNowEventNotice_frame s h])
  | pluContextChange => exact .inl (by simp [execPluContextChange_frame s h])
  | windowStatesHandover => exact .inl (by simp [execWindowStatesHandover_frame s h])
  | gateStateHandover => exact .inl (by simp [execGateStateHandover_frame s h])
  | budgetAccrualMinute => exact .inl (by simp [execBudgetAccrualMinute_frame s h])
  | dayRollFiring => exact .inl (by simp [execDayRollFiring_frame s h])
  | pluOffsetChange => exact .inl (by simp [execPluOffsetChange_frame s h])
  | pluWallSet => exact .inl (by simp [execPluWallSet_frame s h])
  | selectProfile => exact .inl (by simp [execSelectProfile_frame s h])
  | setProfileLimits => exact .inl (by simp [execSetProfileLimits_frame s h])
  | lockService => exact .inl (by simp [execLockService_frame s h])
  | unlockService => exact .inl (by simp [execUnlockService_frame s h])
  | setBudget => exact .inl (by simp [execSetBudget_frame s h])
  | override => exact .inl (by simp [execOverride_frame s h])
  | endOverride => exact .inl (by simp [execEndOverride_frame s h])
  | overrideEndFiring => exact .inl (by simp [execOverrideEndFiring_frame s h])
  | hostMute => exact .inl (by simp [execHostMute_frame s h])
  | gatePosting poster => exact .inl (by simp [execGatePosting_frame s poster h])
  | pgtContextChange => exact .inl (by simp [execPgtContextChange_frame s h])
  | gwnWallSet => exact .inl (by simp [execGwnWallSet_frame s h])
  | gridSet => exact .inl (by simp [execGridSet_frame s h])
  | cursorMove => exact .inl (by simp [execCursorMove_frame s h])
  | gridRead => exact .inl (by simp [execGridRead_frame s h])
  | requestIntake => exact .inl (by simp [execRequestIntake_frame s h])
  | reset => exact .inl (by simp [execReset_frame s h])
  | setEventMask => exact .inl (by simp [execSetEventMask_frame s h])
  | mainSupplyLoss => exact .inl (by simp [execMainSupplyLoss_frame s h])
  | budgetAccrualSecond => exact .inl (by simp [execBudgetAccrualSecond_frame s h])
  | _ => simp

/-- The commands that can change the route table. -/
theorem exec_routes_cases {i : Instr} {t : State} (h : exec i s = .next t) :
    t.routes = s.routes ∨ (∃ cause, i = .warmReset cause) ∨ i = .coldStart ∨ (∃ port bytes, i = .cellArrival
    port bytes) ∨ (∃ strobe bytes, i = .portLCell strobe bytes) ∨ i = .tune ∨ i = .portALockReport ∨ i =
    .tunerReady ∨ i = .tunerFail ∨ i = .tuneTimeout ∨ i = .mapSection ∨ i = .noMapTimeout ∨ i = .armingReport ∨
    i = .waitKeyTimeout ∨ i = .forcedSplice ∨ i = .cancel ∨ i = .setAudio ∨ i = .standby ∨ i = .wake ∨ i =
    .addRoute ∨ i = .dropRoute ∨ i = .dataLaneCellSent := by
  cases i with
  | resetPinRelease => exact .inl (by simp [execResetPinRelease_frame s h])
  | syncSearch port byte => exact .inl (by simp [execSyncSearch_frame s port byte h])
  | idleWatchExpiry port => exact .inl (by simp [execIdleWatchExpiry_frame s port h])
  | holdoverWatchExpiry => exact .inl (by simp [execHoldoverWatchExpiry_frame s h])
  | secondAdvance => exact .inl (by simp [execSecondAdvance_frame s h])
  | timeSection => exact .inl (by simp [execTimeSection_frame s h])
  | offsetChangeFiring => exact .inl (by simp [execOffsetChangeFiring_frame s h])
  | firingPass => exact .inl (by simp [execFiringPass_frame s h])
  | scpWallSet => exact .inl (by simp [execScpWallSet_frame s h])
  | scpRewind => exact .inl (by simp [execScpRewind_frame s h])
  | scpOffsetChange => exact .inl (by simp [execScpOffsetChange_frame s h])
  | scpProfileChange => exact .inl (by simp [execScpProfileChange_frame s h])
  | addReminder => exact .inl (by simp [execAddReminder_frame s h])
  | dropReminder => exact .inl (by simp [execDropReminder_frame s h])
  | holdReminders => exact .inl (by simp [execHoldReminders_frame s h])
  | releaseReminders => exact .inl (by simp [execReleaseReminders_frame s h])
  | setRange => exact .inl (by simp [execSetRange_frame s h])
  | directorySection => exact .inl (by simp [execDirectorySection_frame s h])
  | portAHuntReport => exact .inl (by simp [execPortAHuntReport_frame s h])
  | keySection => exact .inl (by simp [execKeySection_frame s h])
  | entChangeNotice => exact .inl (by simp [execEntChangeNotice_frame s h])
  | dscWallSet => exact .inl (by simp [execDscWallSet_frame s h])
  | entitlementSection => exact .inl (by simp [execEntitlementSection_frame s h])
  | entExpiryFiring => exact .inl (by simp [execEntExpiryFiring_frame s h])
  | enuWallSet => exact .inl (by simp [execEnuWallSet_frame s h])
  | purchase => exact .inl (by simp [execPurchase_frame s h])
  | guideSection => exact .inl (by simp [execGuideSection_frame s h])
  | eventEndFiring => exact .inl (by simp [execEventEndFiring_frame s h])
  | gdsContextChange => exact .inl (by simp [execGdsContextChange_frame s h])
  | gdsRewind => exact .inl (by simp [execGdsRewind_frame s h])
  | gdsWallSet => exact .inl (by simp [execGdsWallSet_frame s h])
  | dayRollPurge => exact .inl (by simp [execDayRollPurge_frame s h])
  | ratingSection => exact .inl (by simp [execRatingSection_frame s h])
  | nowEventNotice => exact .inl (by simp [execNowEventNotice_frame s h])
  | pluContextChange => exact .inl (by simp [execPluContextChange_frame s h])
  | windowStatesHandover => exact .inl (by simp [execWindowStatesHandover_frame s h])
  | gateStateHandover => exact .inl (by simp [execGateStateHandover_frame s h])
  | budgetAccrualMinute => exact .inl (by simp [execBudgetAccrualMinute_frame s h])
  | dayRollFiring => exact .inl (by simp [execDayRollFiring_frame s h])
  | pluOffsetChange => exact .inl (by simp [execPluOffsetChange_frame s h])
  | pluWallSet => exact .inl (by simp [execPluWallSet_frame s h])
  | selectProfile => exact .inl (by simp [execSelectProfile_frame s h])
  | setProfileLimits => exact .inl (by simp [execSetProfileLimits_frame s h])
  | lockService => exact .inl (by simp [execLockService_frame s h])
  | unlockService => exact .inl (by simp [execUnlockService_frame s h])
  | setBudget => exact .inl (by simp [execSetBudget_frame s h])
  | override => exact .inl (by simp [execOverride_frame s h])
  | endOverride => exact .inl (by simp [execEndOverride_frame s h])
  | overrideEndFiring => exact .inl (by simp [execOverrideEndFiring_frame s h])
  | hostMute => exact .inl (by simp [execHostMute_frame s h])
  | gatePosting poster => exact .inl (by simp [execGatePosting_frame s poster h])
  | pgtContextChange => exact .inl (by simp [execPgtContextChange_frame s h])
  | gwnWallSet => exact .inl (by simp [execGwnWallSet_frame s h])
  | gridSet => exact .inl (by simp [execGridSet_frame s h])
  | cursorMove => exact .inl (by simp [execCursorMove_frame s h])
  | gridRead => exact .inl (by simp [execGridRead_frame s h])
  | requestIntake => exact .inl (by simp [execRequestIntake_frame s h])
  | reset => exact .inl (by simp [execReset_frame s h])
  | readTable => exact .inl (by simp [execReadTable_frame s h])
  | setEventMask => exact .inl (by simp [execSetEventMask_frame s h])
  | mainSupplyLoss => exact .inl (by simp [execMainSupplyLoss_frame s h])
  | budgetAccrualSecond => exact .inl (by simp [execBudgetAccrualSecond_frame s h])
  | _ => simp

/-- The commands that can change the request handler. -/
theorem exec_rqh_cases {i : Instr} {t : State} (h : exec i s = .next t) :
    t.rqh = s.rqh ∨ (∃ cause, i = .warmReset cause) ∨ i = .coldStart ∨ (∃ port bytes, i = .cellArrival port
    bytes) ∨ (∃ strobe bytes, i = .portLCell strobe bytes) ∨ i = .addReminder ∨ i = .dropReminder ∨ i =
    .holdReminders ∨ i = .releaseReminders ∨ i = .setRange ∨ i = .tune ∨ i = .tunerReady ∨ i = .tunerFail ∨ i =
    .cancel ∨ i = .setAudio ∨ i = .standby ∨ i = .wake ∨ i = .addRoute ∨ i = .dropRoute ∨ i = .purchase ∨ i =
    .selectProfile ∨ i = .setProfileLimits ∨ i = .lockService ∨ i = .unlockService ∨ i = .setBudget ∨ i =
    .override ∨ i = .endOverride ∨ i = .hostMute ∨ i = .gridSet ∨ i = .cursorMove ∨ i = .gridRead ∨ i =
    .requestIntake ∨ i = .reset ∨ i = .readTable ∨ i = .setEventMask ∨ i = .dataLaneCellSent := by
  cases i with
  | resetPinRelease => exact .inl (by simp [execResetPinRelease_frame s h])
  | syncSearch port byte => exact .inl (by simp [execSyncSearch_frame s port byte h])
  | idleWatchExpiry port => exact .inl (by simp [execIdleWatchExpiry_frame s port h])
  | holdoverWatchExpiry => exact .inl (by simp [execHoldoverWatchExpiry_frame s h])
  | secondAdvance => exact .inl (by simp [execSecondAdvance_frame s h])
  | timeSection => exact .inl (by simp [execTimeSection_frame s h])
  | offsetChangeFiring => exact .inl (by simp [execOffsetChangeFiring_frame s h])
  | firingPass => exact .inl (by simp [execFiringPass_frame s h])
  | scpWallSet => exact .inl (by simp [execScpWallSet_frame s h])
  | scpRewind => exact .inl (by simp [execScpRewind_frame s h])
  | scpOffsetChange => exact .inl (by simp [execScpOffsetChange_frame s h])
  | scpProfileChange => exact .inl (by simp [execScpProfileChange_frame s h])
  | directorySection => exact .inl (by simp [execDirectorySection_frame s h])
  | portALockReport => exact .inl (by simp [execPortALockReport_frame s h])
  | portAHuntReport => exact .inl (by simp [execPortAHuntReport_frame s h])
  | tuneTimeout => exact .inl (by simp [execTuneTimeout_frame s h])
  | mapSection => exact .inl (by simp [execMapSection_frame s h])
  | noMapTimeout => exact .inl (by simp [execNoMapTimeout_frame s h])
  | armingReport => exact .inl (by simp [execArmingReport_frame s h])
  | waitKeyTimeout => exact .inl (by simp [execWaitKeyTimeout_frame s h])
  | forcedSplice => exact .inl (by simp [execForcedSplice_frame s h])
  | keySection => exact .inl (by simp [execKeySection_frame s h])
  | entChangeNotice => exact .inl (by simp [execEntChangeNotice_frame s h])
  | dscWallSet => exact .inl (by simp [execDscWallSet_frame s h])
  | entitlementSection => exact .inl (by simp [execEntitlementSection_frame s h])
  | entExpiryFiring => exact .inl (by simp [execEntExpiryFiring_frame s h])
  | enuWallSet => exact .inl (by simp [execEnuWallSet_frame s h])
  | guideSection => exact .inl (by simp [execGuideSection_frame s h])
  | eventEndFiring => exact .inl (by simp [execEventEndFiring_frame s h])
  | gdsContextChange => exact .inl (by simp [execGdsContextChange_frame s h])
  | gdsRewind => exact .inl (by simp [execGdsRewind_frame s h])
  | gdsWallSet => exact .inl (by simp [execGdsWallSet_frame s h])
  | dayRollPurge => exact .inl (by simp [execDayRollPurge_frame s h])
  | ratingSection => exact .inl (by simp [execRatingSection_frame s h])
  | nowEventNotice => exact .inl (by simp [execNowEventNotice_frame s h])
  | pluContextChange => exact .inl (by simp [execPluContextChange_frame s h])
  | windowStatesHandover => exact .inl (by simp [execWindowStatesHandover_frame s h])
  | gateStateHandover => exact .inl (by simp [execGateStateHandover_frame s h])
  | budgetAccrualMinute => exact .inl (by simp [execBudgetAccrualMinute_frame s h])
  | dayRollFiring => exact .inl (by simp [execDayRollFiring_frame s h])
  | pluOffsetChange => exact .inl (by simp [execPluOffsetChange_frame s h])
  | pluWallSet => exact .inl (by simp [execPluWallSet_frame s h])
  | overrideEndFiring => exact .inl (by simp [execOverrideEndFiring_frame s h])
  | gatePosting poster => exact .inl (by simp [execGatePosting_frame s poster h])
  | pgtContextChange => exact .inl (by simp [execPgtContextChange_frame s h])
  | gwnWallSet => exact .inl (by simp [execGwnWallSet_frame s h])
  | mainSupplyLoss => exact .inl (by simp [execMainSupplyLoss_frame s h])
  | budgetAccrualSecond => exact .inl (by simp [execBudgetAccrualSecond_frame s h])
  | _ => simp

/-- The commands that can change the engine. -/
theorem exec_cce_cases {i : Instr} {t : State} (h : exec i s = .next t) :
    t.cce = s.cce ∨ (∃ cause, i = .warmReset cause) ∨ i = .coldStart ∨ (∃ port bytes, i = .cellArrival port
    bytes) ∨ (∃ strobe bytes, i = .portLCell strobe bytes) ∨ i = .tune ∨ i = .portALockReport ∨ i =
    .portAHuntReport ∨ i = .tunerReady ∨ i = .tunerFail ∨ i = .tuneTimeout ∨ i = .mapSection ∨ i = .noMapTimeout
    ∨ i = .armingReport ∨ i = .waitKeyTimeout ∨ i = .forcedSplice ∨ i = .cancel ∨ i = .setAudio ∨ i = .standby ∨
    i = .wake ∨ i = .dataLaneCellSent := by
  cases i with
  | resetPinRelease => exact .inl (by simp [execResetPinRelease_frame s h])
  | syncSearch port byte => exact .inl (by simp [execSyncSearch_frame s port byte h])
  | idleWatchExpiry port => exact .inl (by simp [execIdleWatchExpiry_frame s port h])
  | holdoverWatchExpiry => exact .inl (by simp [execHoldoverWatchExpiry_frame s h])
  | secondAdvance => exact .inl (by simp [execSecondAdvance_frame s h])
  | timeSection => exact .inl (by simp [execTimeSection_frame s h])
  | offsetChangeFiring => exact .inl (by simp [execOffsetChangeFiring_frame s h])
  | firingPass => exact .inl (by simp [execFiringPass_frame s h])
  | scpWallSet => exact .inl (by simp [execScpWallSet_frame s h])
  | scpRewind => exact .inl (by simp [execScpRewind_frame s h])
  | scpOffsetChange => exact .inl (by simp [execScpOffsetChange_frame s h])
  | scpProfileChange => exact .inl (by simp [execScpProfileChange_frame s h])
  | addReminder => exact .inl (by simp [execAddReminder_frame s h])
  | dropReminder => exact .inl (by simp [execDropReminder_frame s h])
  | holdReminders => exact .inl (by simp [execHoldReminders_frame s h])
  | releaseReminders => exact .inl (by simp [execReleaseReminders_frame s h])
  | setRange => exact .inl (by simp [execSetRange_frame s h])
  | directorySection => exact .inl (by simp [execDirectorySection_frame s h])
  | addRoute => exact .inl (by simp [execAddRoute_frame s h])
  | dropRoute => exact .inl (by simp [execDropRoute_frame s h])
  | keySection => exact .inl (by simp [execKeySection_frame s h])
  | entChangeNotice => exact .inl (by simp [execEntChangeNotice_frame s h])
  | dscWallSet => exact .inl (by simp [execDscWallSet_frame s h])
  | entitlementSection => exact .inl (by simp [execEntitlementSection_frame s h])
  | entExpiryFiring => exact .inl (by simp [execEntExpiryFiring_frame s h])
  | enuWallSet => exact .inl (by simp [execEnuWallSet_frame s h])
  | purchase => exact .inl (by simp [execPurchase_frame s h])
  | guideSection => exact .inl (by simp [execGuideSection_frame s h])
  | eventEndFiring => exact .inl (by simp [execEventEndFiring_frame s h])
  | gdsContextChange => exact .inl (by simp [execGdsContextChange_frame s h])
  | gdsRewind => exact .inl (by simp [execGdsRewind_frame s h])
  | gdsWallSet => exact .inl (by simp [execGdsWallSet_frame s h])
  | dayRollPurge => exact .inl (by simp [execDayRollPurge_frame s h])
  | ratingSection => exact .inl (by simp [execRatingSection_frame s h])
  | nowEventNotice => exact .inl (by simp [execNowEventNotice_frame s h])
  | pluContextChange => exact .inl (by simp [execPluContextChange_frame s h])
  | windowStatesHandover => exact .inl (by simp [execWindowStatesHandover_frame s h])
  | gateStateHandover => exact .inl (by simp [execGateStateHandover_frame s h])
  | budgetAccrualMinute => exact .inl (by simp [execBudgetAccrualMinute_frame s h])
  | dayRollFiring => exact .inl (by simp [execDayRollFiring_frame s h])
  | pluOffsetChange => exact .inl (by simp [execPluOffsetChange_frame s h])
  | pluWallSet => exact .inl (by simp [execPluWallSet_frame s h])
  | selectProfile => exact .inl (by simp [execSelectProfile_frame s h])
  | setProfileLimits => exact .inl (by simp [execSetProfileLimits_frame s h])
  | lockService => exact .inl (by simp [execLockService_frame s h])
  | unlockService => exact .inl (by simp [execUnlockService_frame s h])
  | setBudget => exact .inl (by simp [execSetBudget_frame s h])
  | override => exact .inl (by simp [execOverride_frame s h])
  | endOverride => exact .inl (by simp [execEndOverride_frame s h])
  | overrideEndFiring => exact .inl (by simp [execOverrideEndFiring_frame s h])
  | hostMute => exact .inl (by simp [execHostMute_frame s h])
  | gatePosting poster => exact .inl (by simp [execGatePosting_frame s poster h])
  | pgtContextChange => exact .inl (by simp [execPgtContextChange_frame s h])
  | gwnWallSet => exact .inl (by simp [execGwnWallSet_frame s h])
  | gridSet => exact .inl (by simp [execGridSet_frame s h])
  | cursorMove => exact .inl (by simp [execCursorMove_frame s h])
  | gridRead => exact .inl (by simp [execGridRead_frame s h])
  | requestIntake => exact .inl (by simp [execRequestIntake_frame s h])
  | reset => exact .inl (by simp [execReset_frame s h])
  | readTable => exact .inl (by simp [execReadTable_frame s h])
  | setEventMask => exact .inl (by simp [execSetEventMask_frame s h])
  | mainSupplyLoss => exact .inl (by simp [execMainSupplyLoss_frame s h])
  | budgetAccrualSecond => exact .inl (by simp [execBudgetAccrualSecond_frame s h])
  | _ => simp

/-- The commands that can change the port records. -/
theorem exec_cin_cases {i : Instr} {t : State} (h : exec i s = .next t) :
    t.cin = s.cin ∨ (∃ cause, i = .warmReset cause) ∨ i = .coldStart ∨ (∃ port byte, i = .syncSearch port byte)
    ∨ (∃ port bytes, i = .cellArrival port bytes) ∨ (∃ strobe bytes, i = .portLCell strobe bytes) ∨ (∃ port, i =
    .idleWatchExpiry port) ∨ i = .tune ∨ i = .tunerFail ∨ i = .tuneTimeout ∨ i = .mapSection ∨ i = .noMapTimeout
    ∨ i = .armingReport ∨ i = .waitKeyTimeout ∨ i = .forcedSplice ∨ i = .cancel ∨ i = .standby ∨ i = .wake ∨ i =
    .dataLaneCellSent := by
  cases i with
  | resetPinRelease => exact .inl (by simp [execResetPinRelease_frame s h])
  | holdoverWatchExpiry => exact .inl (by simp [execHoldoverWatchExpiry_frame s h])
  | secondAdvance => exact .inl (by simp [execSecondAdvance_frame s h])
  | timeSection => exact .inl (by simp [execTimeSection_frame s h])
  | offsetChangeFiring => exact .inl (by simp [execOffsetChangeFiring_frame s h])
  | firingPass => exact .inl (by simp [execFiringPass_frame s h])
  | scpWallSet => exact .inl (by simp [execScpWallSet_frame s h])
  | scpRewind => exact .inl (by simp [execScpRewind_frame s h])
  | scpOffsetChange => exact .inl (by simp [execScpOffsetChange_frame s h])
  | scpProfileChange => exact .inl (by simp [execScpProfileChange_frame s h])
  | addReminder => exact .inl (by simp [execAddReminder_frame s h])
  | dropReminder => exact .inl (by simp [execDropReminder_frame s h])
  | holdReminders => exact .inl (by simp [execHoldReminders_frame s h])
  | releaseReminders => exact .inl (by simp [execReleaseReminders_frame s h])
  | setRange => exact .inl (by simp [execSetRange_frame s h])
  | directorySection => exact .inl (by simp [execDirectorySection_frame s h])
  | portALockReport => exact .inl (by simp [execPortALockReport_frame s h])
  | portAHuntReport => exact .inl (by simp [execPortAHuntReport_frame s h])
  | tunerReady => exact .inl (by simp [execTunerReady_frame s h])
  | setAudio => exact .inl (by simp [execSetAudio_frame s h])
  | addRoute => exact .inl (by simp [execAddRoute_frame s h])
  | dropRoute => exact .inl (by simp [execDropRoute_frame s h])
  | keySection => exact .inl (by simp [execKeySection_frame s h])
  | entChangeNotice => exact .inl (by simp [execEntChangeNotice_frame s h])
  | dscWallSet => exact .inl (by simp [execDscWallSet_frame s h])
  | entitlementSection => exact .inl (by simp [execEntitlementSection_frame s h])
  | entExpiryFiring => exact .inl (by simp [execEntExpiryFiring_frame s h])
  | enuWallSet => exact .inl (by simp [execEnuWallSet_frame s h])
  | purchase => exact .inl (by simp [execPurchase_frame s h])
  | guideSection => exact .inl (by simp [execGuideSection_frame s h])
  | eventEndFiring => exact .inl (by simp [execEventEndFiring_frame s h])
  | gdsContextChange => exact .inl (by simp [execGdsContextChange_frame s h])
  | gdsRewind => exact .inl (by simp [execGdsRewind_frame s h])
  | gdsWallSet => exact .inl (by simp [execGdsWallSet_frame s h])
  | dayRollPurge => exact .inl (by simp [execDayRollPurge_frame s h])
  | ratingSection => exact .inl (by simp [execRatingSection_frame s h])
  | nowEventNotice => exact .inl (by simp [execNowEventNotice_frame s h])
  | pluContextChange => exact .inl (by simp [execPluContextChange_frame s h])
  | windowStatesHandover => exact .inl (by simp [execWindowStatesHandover_frame s h])
  | gateStateHandover => exact .inl (by simp [execGateStateHandover_frame s h])
  | budgetAccrualMinute => exact .inl (by simp [execBudgetAccrualMinute_frame s h])
  | dayRollFiring => exact .inl (by simp [execDayRollFiring_frame s h])
  | pluOffsetChange => exact .inl (by simp [execPluOffsetChange_frame s h])
  | pluWallSet => exact .inl (by simp [execPluWallSet_frame s h])
  | selectProfile => exact .inl (by simp [execSelectProfile_frame s h])
  | setProfileLimits => exact .inl (by simp [execSetProfileLimits_frame s h])
  | lockService => exact .inl (by simp [execLockService_frame s h])
  | unlockService => exact .inl (by simp [execUnlockService_frame s h])
  | setBudget => exact .inl (by simp [execSetBudget_frame s h])
  | override => exact .inl (by simp [execOverride_frame s h])
  | endOverride => exact .inl (by simp [execEndOverride_frame s h])
  | overrideEndFiring => exact .inl (by simp [execOverrideEndFiring_frame s h])
  | hostMute => exact .inl (by simp [execHostMute_frame s h])
  | gatePosting poster => exact .inl (by simp [execGatePosting_frame s poster h])
  | pgtContextChange => exact .inl (by simp [execPgtContextChange_frame s h])
  | gwnWallSet => exact .inl (by simp [execGwnWallSet_frame s h])
  | gridSet => exact .inl (by simp [execGridSet_frame s h])
  | cursorMove => exact .inl (by simp [execCursorMove_frame s h])
  | gridRead => exact .inl (by simp [execGridRead_frame s h])
  | requestIntake => exact .inl (by simp [execRequestIntake_frame s h])
  | reset => exact .inl (by simp [execReset_frame s h])
  | readTable => exact .inl (by simp [execReadTable_frame s h])
  | setEventMask => exact .inl (by simp [execSetEventMask_frame s h])
  | mainSupplyLoss => exact .inl (by simp [execMainSupplyLoss_frame s h])
  | budgetAccrualSecond => exact .inl (by simp [execBudgetAccrualSecond_frame s h])
  | _ => simp

/-- The commands that can change the cause and the count of resets. -/
theorem exec_rts_cases {i : Instr} {t : State} (h : exec i s = .next t) :
    t.rts = s.rts ∨ (∃ cause, i = .warmReset cause) ∨ i = .coldStart ∨ i = .dataLaneCellSent := by
  cases i with
  | resetPinRelease => exact .inl (by simp [execResetPinRelease_frame s h])
  | syncSearch port byte => exact .inl (by simp [execSyncSearch_frame s port byte h])
  | cellArrival port bytes => exact .inl (by simp [execCellArrival_frame s port bytes h])
  | portLCell strobe bytes => exact .inl (by simp [execPortLCell_frame s strobe bytes h])
  | idleWatchExpiry port => exact .inl (by simp [execIdleWatchExpiry_frame s port h])
  | holdoverWatchExpiry => exact .inl (by simp [execHoldoverWatchExpiry_frame s h])
  | secondAdvance => exact .inl (by simp [execSecondAdvance_frame s h])
  | timeSection => exact .inl (by simp [execTimeSection_frame s h])
  | offsetChangeFiring => exact .inl (by simp [execOffsetChangeFiring_frame s h])
  | firingPass => exact .inl (by simp [execFiringPass_frame s h])
  | scpWallSet => exact .inl (by simp [execScpWallSet_frame s h])
  | scpRewind => exact .inl (by simp [execScpRewind_frame s h])
  | scpOffsetChange => exact .inl (by simp [execScpOffsetChange_frame s h])
  | scpProfileChange => exact .inl (by simp [execScpProfileChange_frame s h])
  | addReminder => exact .inl (by simp [execAddReminder_frame s h])
  | dropReminder => exact .inl (by simp [execDropReminder_frame s h])
  | holdReminders => exact .inl (by simp [execHoldReminders_frame s h])
  | releaseReminders => exact .inl (by simp [execReleaseReminders_frame s h])
  | setRange => exact .inl (by simp [execSetRange_frame s h])
  | directorySection => exact .inl (by simp [execDirectorySection_frame s h])
  | tune => exact .inl (by simp [execTune_frame s h])
  | portALockReport => exact .inl (by simp [execPortALockReport_frame s h])
  | portAHuntReport => exact .inl (by simp [execPortAHuntReport_frame s h])
  | tunerReady => exact .inl (by simp [execTunerReady_frame s h])
  | tunerFail => exact .inl (by simp [execTunerFail_frame s h])
  | tuneTimeout => exact .inl (by simp [execTuneTimeout_frame s h])
  | mapSection => exact .inl (by simp [execMapSection_frame s h])
  | noMapTimeout => exact .inl (by simp [execNoMapTimeout_frame s h])
  | armingReport => exact .inl (by simp [execArmingReport_frame s h])
  | waitKeyTimeout => exact .inl (by simp [execWaitKeyTimeout_frame s h])
  | forcedSplice => exact .inl (by simp [execForcedSplice_frame s h])
  | cancel => exact .inl (by simp [execCancel_frame s h])
  | setAudio => exact .inl (by simp [execSetAudio_frame s h])
  | standby => exact .inl (by simp [execStandby_frame s h])
  | wake => exact .inl (by simp [execWake_frame s h])
  | addRoute => exact .inl (by simp [execAddRoute_frame s h])
  | dropRoute => exact .inl (by simp [execDropRoute_frame s h])
  | keySection => exact .inl (by simp [execKeySection_frame s h])
  | entChangeNotice => exact .inl (by simp [execEntChangeNotice_frame s h])
  | dscWallSet => exact .inl (by simp [execDscWallSet_frame s h])
  | entitlementSection => exact .inl (by simp [execEntitlementSection_frame s h])
  | entExpiryFiring => exact .inl (by simp [execEntExpiryFiring_frame s h])
  | enuWallSet => exact .inl (by simp [execEnuWallSet_frame s h])
  | purchase => exact .inl (by simp [execPurchase_frame s h])
  | guideSection => exact .inl (by simp [execGuideSection_frame s h])
  | eventEndFiring => exact .inl (by simp [execEventEndFiring_frame s h])
  | gdsContextChange => exact .inl (by simp [execGdsContextChange_frame s h])
  | gdsRewind => exact .inl (by simp [execGdsRewind_frame s h])
  | gdsWallSet => exact .inl (by simp [execGdsWallSet_frame s h])
  | dayRollPurge => exact .inl (by simp [execDayRollPurge_frame s h])
  | ratingSection => exact .inl (by simp [execRatingSection_frame s h])
  | nowEventNotice => exact .inl (by simp [execNowEventNotice_frame s h])
  | pluContextChange => exact .inl (by simp [execPluContextChange_frame s h])
  | windowStatesHandover => exact .inl (by simp [execWindowStatesHandover_frame s h])
  | gateStateHandover => exact .inl (by simp [execGateStateHandover_frame s h])
  | budgetAccrualMinute => exact .inl (by simp [execBudgetAccrualMinute_frame s h])
  | dayRollFiring => exact .inl (by simp [execDayRollFiring_frame s h])
  | pluOffsetChange => exact .inl (by simp [execPluOffsetChange_frame s h])
  | pluWallSet => exact .inl (by simp [execPluWallSet_frame s h])
  | selectProfile => exact .inl (by simp [execSelectProfile_frame s h])
  | setProfileLimits => exact .inl (by simp [execSetProfileLimits_frame s h])
  | lockService => exact .inl (by simp [execLockService_frame s h])
  | unlockService => exact .inl (by simp [execUnlockService_frame s h])
  | setBudget => exact .inl (by simp [execSetBudget_frame s h])
  | override => exact .inl (by simp [execOverride_frame s h])
  | endOverride => exact .inl (by simp [execEndOverride_frame s h])
  | overrideEndFiring => exact .inl (by simp [execOverrideEndFiring_frame s h])
  | hostMute => exact .inl (by simp [execHostMute_frame s h])
  | gatePosting poster => exact .inl (by simp [execGatePosting_frame s poster h])
  | pgtContextChange => exact .inl (by simp [execPgtContextChange_frame s h])
  | gwnWallSet => exact .inl (by simp [execGwnWallSet_frame s h])
  | gridSet => exact .inl (by simp [execGridSet_frame s h])
  | cursorMove => exact .inl (by simp [execCursorMove_frame s h])
  | gridRead => exact .inl (by simp [execGridRead_frame s h])
  | requestIntake => exact .inl (by simp [execRequestIntake_frame s h])
  | reset => exact .inl (by simp [execReset_frame s h])
  | readTable => exact .inl (by simp [execReadTable_frame s h])
  | setEventMask => exact .inl (by simp [execSetEventMask_frame s h])
  | mainSupplyLoss => exact .inl (by simp [execMainSupplyLoss_frame s h])
  | budgetAccrualSecond => exact .inl (by simp [execBudgetAccrualSecond_frame s h])
  | _ => simp

end Sys2Proof.Machine
end

