-- ==== Sys2Proof/WellFormed.lean ====
section
/-! DEFINITION. Which commands can come to the part at all. -/

namespace Sys2Proof

/-- Ports A and B are byte-serial, without a strobe (R1). -/
def Port.serial : Port → Bool
  | .a => true
  | .b => true
  | .l => false

/-- A burst of bytes is 1 to 160 bytes: at most one cell completes in a step (R3, R4). -/
def burstOk (bytes : List Byte) : Bool := 1 ≤ bytes.length && bytes.length ≤ 160

/-- A command is well formed when its operands are ones its row can have: Port L neither searches for sync nor
keeps an idle watch (R4), a burst holds 1 to 160 bytes, and a cold start is no warm reset (R185, R186). -/
def Instr.wf : Instr → Bool
  | .warmReset cause => cause != .cold
  | .syncSearch port _ => port.serial
  | .cellArrival port bytes => port.serial && burstOk bytes
  | .portLCell _ bytes => burstOk bytes
  | .idleWatchExpiry port => port.serial
  | _ => true

end Sys2Proof
end

