-- ==== Sys2Proof/Laws/PerInstr.lean ====
section
/-! SUPPORT. A law of every command as syntax, one lemma for each constructor of Instr. -/

namespace Sys2Proof

/-- A command is well formed exactly when it is not a cold start given as a warm reset (R185, R186), when Port L neither
searches for sync, nor takes serial bytes, nor keeps an idle watch (R1, R4), and when a burst of bytes holds 1 to 160 of
them. -/
def Laws.OperandForms.Statement (i : Instr) : Prop :=
  i.wf = true ↔ i ≠ .warmReset .cold ∧ i ≠ .idleWatchExpiry .l ∧ (∀ byte, i ≠ .syncSearch .l byte)
    ∧ (∀ bytes, i ≠ .cellArrival .l bytes)
    ∧ (∀ port bytes, i = .cellArrival port bytes → 1 ≤ bytes.length ∧ bytes.length ≤ 160)
    ∧ ∀ strobe bytes, i = .portLCell strobe bytes → 1 ≤ bytes.length ∧ bytes.length ≤ 160

theorem Laws.OperandForms.warmReset (cause : ResetCause) : Laws.OperandForms.Statement (.warmReset cause) := by
  cases cause <;> simp [Laws.OperandForms.Statement, Instr.wf]
theorem Laws.OperandForms.resetPinRelease : Laws.OperandForms.Statement .resetPinRelease := by
  simp [Laws.OperandForms.Statement, Instr.wf]
theorem Laws.OperandForms.coldStart : Laws.OperandForms.Statement .coldStart := by
  simp [Laws.OperandForms.Statement, Instr.wf]
theorem Laws.OperandForms.syncSearch (port : Port) (byte : Byte) : Laws.OperandForms.Statement (.syncSearch port byte) := by
  cases port <;> simp [Laws.OperandForms.Statement, Instr.wf, Port.serial]
theorem Laws.OperandForms.cellArrival (port : Port) (bytes : List Byte) : Laws.OperandForms.Statement (.cellArrival port bytes) := by
  cases port <;> simp [Laws.OperandForms.Statement, Instr.wf, Port.serial, burstOk]
theorem Laws.OperandForms.portLCell (strobe : Bool) (bytes : List Byte) : Laws.OperandForms.Statement (.portLCell strobe bytes) := by
  simp [Laws.OperandForms.Statement, Instr.wf, burstOk]
theorem Laws.OperandForms.idleWatchExpiry (port : Port) : Laws.OperandForms.Statement (.idleWatchExpiry port) := by
  cases port <;> simp [Laws.OperandForms.Statement, Instr.wf, Port.serial]
theorem Laws.OperandForms.holdoverWatchExpiry : Laws.OperandForms.Statement .holdoverWatchExpiry := by
  simp [Laws.OperandForms.Statement, Instr.wf]
theorem Laws.OperandForms.secondAdvance : Laws.OperandForms.Statement .secondAdvance := by
  simp [Laws.OperandForms.Statement, Instr.wf]
theorem Laws.OperandForms.timeSection : Laws.OperandForms.Statement .timeSection := by
  simp [Laws.OperandForms.Statement, Instr.wf]
theorem Laws.OperandForms.offsetChangeFiring : Laws.OperandForms.Statement .offsetChangeFiring := by
  simp [Laws.OperandForms.Statement, Instr.wf]
theorem Laws.OperandForms.firingPass : Laws.OperandForms.Statement .firingPass := by
  simp [Laws.OperandForms.Statement, Instr.wf]
theorem Laws.OperandForms.scpWallSet : Laws.OperandForms.Statement .scpWallSet := by
  simp [Laws.OperandForms.Statement, Instr.wf]
theorem Laws.OperandForms.scpRewind : Laws.OperandForms.Statement .scpRewind := by
  simp [Laws.OperandForms.Statement, Instr.wf]
theorem Laws.OperandForms.scpOffsetChange : Laws.OperandForms.Statement .scpOffsetChange := by
  simp [Laws.OperandForms.Statement, Instr.wf]
theorem Laws.OperandForms.scpProfileChange : Laws.OperandForms.Statement .scpProfileChange := by
  simp [Laws.OperandForms.Statement, Instr.wf]
theorem Laws.OperandForms.addReminder : Laws.OperandForms.Statement .addReminder := by
  simp [Laws.OperandForms.Statement, Instr.wf]
theorem Laws.OperandForms.dropReminder : Laws.OperandForms.Statement .dropReminder := by
  simp [Laws.OperandForms.Statement, Instr.wf]
theorem Laws.OperandForms.holdReminders : Laws.OperandForms.Statement .holdReminders := by
  simp [Laws.OperandForms.Statement, Instr.wf]
theorem Laws.OperandForms.releaseReminders : Laws.OperandForms.Statement .releaseReminders := by
  simp [Laws.OperandForms.Statement, Instr.wf]
theorem Laws.OperandForms.setRange : Laws.OperandForms.Statement .setRange := by
  simp [Laws.OperandForms.Statement, Instr.wf]
theorem Laws.OperandForms.directorySection : Laws.OperandForms.Statement .directorySection := by
  simp [Laws.OperandForms.Statement, Instr.wf]
theorem Laws.OperandForms.tune : Laws.OperandForms.Statement .tune := by
  simp [Laws.OperandForms.Statement, Instr.wf]
theorem Laws.OperandForms.portALockReport : Laws.OperandForms.Statement .portALockReport := by
  simp [Laws.OperandForms.Statement, Instr.wf]
theorem Laws.OperandForms.portAHuntReport : Laws.OperandForms.Statement .portAHuntReport := by
  simp [Laws.OperandForms.Statement, Instr.wf]
theorem Laws.OperandForms.tunerReady : Laws.OperandForms.Statement .tunerReady := by
  simp [Laws.OperandForms.Statement, Instr.wf]
theorem Laws.OperandForms.tunerFail : Laws.OperandForms.Statement .tunerFail := by
  simp [Laws.OperandForms.Statement, Instr.wf]
theorem Laws.OperandForms.tuneTimeout : Laws.OperandForms.Statement .tuneTimeout := by
  simp [Laws.OperandForms.Statement, Instr.wf]
theorem Laws.OperandForms.mapSection : Laws.OperandForms.Statement .mapSection := by
  simp [Laws.OperandForms.Statement, Instr.wf]
theorem Laws.OperandForms.noMapTimeout : Laws.OperandForms.Statement .noMapTimeout := by
  simp [Laws.OperandForms.Statement, Instr.wf]
theorem Laws.OperandForms.armingReport : Laws.OperandForms.Statement .armingReport := by
  simp [Laws.OperandForms.Statement, Instr.wf]
theorem Laws.OperandForms.waitKeyTimeout : Laws.OperandForms.Statement .waitKeyTimeout := by
  simp [Laws.OperandForms.Statement, Instr.wf]
theorem Laws.OperandForms.forcedSplice : Laws.OperandForms.Statement .forcedSplice := by
  simp [Laws.OperandForms.Statement, Instr.wf]
theorem Laws.OperandForms.cancel : Laws.OperandForms.Statement .cancel := by
  simp [Laws.OperandForms.Statement, Instr.wf]
theorem Laws.OperandForms.setAudio : Laws.OperandForms.Statement .setAudio := by
  simp [Laws.OperandForms.Statement, Instr.wf]
theorem Laws.OperandForms.standby : Laws.OperandForms.Statement .standby := by
  simp [Laws.OperandForms.Statement, Instr.wf]
theorem Laws.OperandForms.wake : Laws.OperandForms.Statement .wake := by
  simp [Laws.OperandForms.Statement, Instr.wf]
theorem Laws.OperandForms.addRoute : Laws.OperandForms.Statement .addRoute := by
  simp [Laws.OperandForms.Statement, Instr.wf]
theorem Laws.OperandForms.dropRoute : Laws.OperandForms.Statement .dropRoute := by
  simp [Laws.OperandForms.Statement, Instr.wf]
theorem Laws.OperandForms.keySection : Laws.OperandForms.Statement .keySection := by
  simp [Laws.OperandForms.Statement, Instr.wf]
theorem Laws.OperandForms.entChangeNotice : Laws.OperandForms.Statement .entChangeNotice := by
  simp [Laws.OperandForms.Statement, Instr.wf]
theorem Laws.OperandForms.dscWallSet : Laws.OperandForms.Statement .dscWallSet := by
  simp [Laws.OperandForms.Statement, Instr.wf]
theorem Laws.OperandForms.entitlementSection : Laws.OperandForms.Statement .entitlementSection := by
  simp [Laws.OperandForms.Statement, Instr.wf]
theorem Laws.OperandForms.entExpiryFiring : Laws.OperandForms.Statement .entExpiryFiring := by
  simp [Laws.OperandForms.Statement, Instr.wf]
theorem Laws.OperandForms.enuWallSet : Laws.OperandForms.Statement .enuWallSet := by
  simp [Laws.OperandForms.Statement, Instr.wf]
theorem Laws.OperandForms.purchase : Laws.OperandForms.Statement .purchase := by
  simp [Laws.OperandForms.Statement, Instr.wf]
theorem Laws.OperandForms.guideSection : Laws.OperandForms.Statement .guideSection := by
  simp [Laws.OperandForms.Statement, Instr.wf]
theorem Laws.OperandForms.eventEndFiring : Laws.OperandForms.Statement .eventEndFiring := by
  simp [Laws.OperandForms.Statement, Instr.wf]
theorem Laws.OperandForms.gdsContextChange : Laws.OperandForms.Statement .gdsContextChange := by
  simp [Laws.OperandForms.Statement, Instr.wf]
theorem Laws.OperandForms.gdsRewind : Laws.OperandForms.Statement .gdsRewind := by
  simp [Laws.OperandForms.Statement, Instr.wf]
theorem Laws.OperandForms.gdsWallSet : Laws.OperandForms.Statement .gdsWallSet := by
  simp [Laws.OperandForms.Statement, Instr.wf]
theorem Laws.OperandForms.dayRollPurge : Laws.OperandForms.Statement .dayRollPurge := by
  simp [Laws.OperandForms.Statement, Instr.wf]
theorem Laws.OperandForms.ratingSection : Laws.OperandForms.Statement .ratingSection := by
  simp [Laws.OperandForms.Statement, Instr.wf]
theorem Laws.OperandForms.nowEventNotice : Laws.OperandForms.Statement .nowEventNotice := by
  simp [Laws.OperandForms.Statement, Instr.wf]
theorem Laws.OperandForms.pluContextChange : Laws.OperandForms.Statement .pluContextChange := by
  simp [Laws.OperandForms.Statement, Instr.wf]
theorem Laws.OperandForms.windowStatesHandover : Laws.OperandForms.Statement .windowStatesHandover := by
  simp [Laws.OperandForms.Statement, Instr.wf]
theorem Laws.OperandForms.gateStateHandover : Laws.OperandForms.Statement .gateStateHandover := by
  simp [Laws.OperandForms.Statement, Instr.wf]
theorem Laws.OperandForms.budgetAccrualMinute : Laws.OperandForms.Statement .budgetAccrualMinute := by
  simp [Laws.OperandForms.Statement, Instr.wf]
theorem Laws.OperandForms.dayRollFiring : Laws.OperandForms.Statement .dayRollFiring := by
  simp [Laws.OperandForms.Statement, Instr.wf]
theorem Laws.OperandForms.pluOffsetChange : Laws.OperandForms.Statement .pluOffsetChange := by
  simp [Laws.OperandForms.Statement, Instr.wf]
theorem Laws.OperandForms.pluWallSet : Laws.OperandForms.Statement .pluWallSet := by
  simp [Laws.OperandForms.Statement, Instr.wf]
theorem Laws.OperandForms.selectProfile : Laws.OperandForms.Statement .selectProfile := by
  simp [Laws.OperandForms.Statement, Instr.wf]
theorem Laws.OperandForms.setProfileLimits : Laws.OperandForms.Statement .setProfileLimits := by
  simp [Laws.OperandForms.Statement, Instr.wf]
theorem Laws.OperandForms.lockService : Laws.OperandForms.Statement .lockService := by
  simp [Laws.OperandForms.Statement, Instr.wf]
theorem Laws.OperandForms.unlockService : Laws.OperandForms.Statement .unlockService := by
  simp [Laws.OperandForms.Statement, Instr.wf]
theorem Laws.OperandForms.setBudget : Laws.OperandForms.Statement .setBudget := by
  simp [Laws.OperandForms.Statement, Instr.wf]
theorem Laws.OperandForms.override : Laws.OperandForms.Statement .override := by
  simp [Laws.OperandForms.Statement, Instr.wf]
theorem Laws.OperandForms.endOverride : Laws.OperandForms.Statement .endOverride := by
  simp [Laws.OperandForms.Statement, Instr.wf]
theorem Laws.OperandForms.overrideEndFiring : Laws.OperandForms.Statement .overrideEndFiring := by
  simp [Laws.OperandForms.Statement, Instr.wf]
theorem Laws.OperandForms.hostMute : Laws.OperandForms.Statement .hostMute := by
  simp [Laws.OperandForms.Statement, Instr.wf]
theorem Laws.OperandForms.gatePosting (poster : Poster) : Laws.OperandForms.Statement (.gatePosting poster) := by
  simp [Laws.OperandForms.Statement, Instr.wf]
theorem Laws.OperandForms.pgtContextChange : Laws.OperandForms.Statement .pgtContextChange := by
  simp [Laws.OperandForms.Statement, Instr.wf]
theorem Laws.OperandForms.gwnWallSet : Laws.OperandForms.Statement .gwnWallSet := by
  simp [Laws.OperandForms.Statement, Instr.wf]
theorem Laws.OperandForms.gridSet : Laws.OperandForms.Statement .gridSet := by
  simp [Laws.OperandForms.Statement, Instr.wf]
theorem Laws.OperandForms.cursorMove : Laws.OperandForms.Statement .cursorMove := by
  simp [Laws.OperandForms.Statement, Instr.wf]
theorem Laws.OperandForms.gridRead : Laws.OperandForms.Statement .gridRead := by
  simp [Laws.OperandForms.Statement, Instr.wf]
theorem Laws.OperandForms.requestIntake : Laws.OperandForms.Statement .requestIntake := by
  simp [Laws.OperandForms.Statement, Instr.wf]
theorem Laws.OperandForms.reset : Laws.OperandForms.Statement .reset := by
  simp [Laws.OperandForms.Statement, Instr.wf]
theorem Laws.OperandForms.readTable : Laws.OperandForms.Statement .readTable := by
  simp [Laws.OperandForms.Statement, Instr.wf]
theorem Laws.OperandForms.setEventMask : Laws.OperandForms.Statement .setEventMask := by
  simp [Laws.OperandForms.Statement, Instr.wf]
theorem Laws.OperandForms.dataLaneCellSent : Laws.OperandForms.Statement .dataLaneCellSent := by
  simp [Laws.OperandForms.Statement, Instr.wf]
theorem Laws.OperandForms.mainSupplyLoss : Laws.OperandForms.Statement .mainSupplyLoss := by
  simp [Laws.OperandForms.Statement, Instr.wf]
theorem Laws.OperandForms.budgetAccrualSecond : Laws.OperandForms.Statement .budgetAccrualSecond := by
  simp [Laws.OperandForms.Statement, Instr.wf]

end Sys2Proof
end

