-- ==== Sys2Proof/Laws/Steps.lean ====
section
/-! SUPPORT. What one step can be, and what a tick leaves as it was. -/

namespace Sys2Proof.Machine

variable (s : State)

/-- A step is a command carried out on the state with some queue of waiting commands, or one LOCAL millisecond. -/
theorem step_cases {t : State} (h : step s = .next t) :
    (∃ c rest, exec c (s.withPending rest) = .next t) ∨ t = tick s := by
  simp only [step, idleStep] at h
  split at h
  · exact .inl ⟨_, _, h⟩
  · split at h
    · exact .inl ⟨_, s.pending, h⟩
    · simp only [Host.Outcome.next.injEq] at h
      exact .inr h.symm

/-- A tick runs the clocks and the accrual's remainder, and queues a second that it completes. -/
@[simp] theorem tick_frame :
    (tick s).cin = s.cin ∧ (tick s).routes = s.routes ∧ (tick s).queues = s.queues ∧ (tick s).scp = s.scp
    ∧ (tick s).sdr = s.sdr ∧ (tick s).cce = s.cce ∧ (tick s).dsc = s.dsc ∧ (tick s).enu = s.enu
    ∧ (tick s).gds = s.gds ∧ (tick s).pgt = s.pgt ∧ (tick s).gwn = s.gwn ∧ (tick s).rqh = s.rqh
    ∧ (tick s).rpq = s.rpq ∧ (tick s).lanes = s.lanes ∧ (tick s).rts = s.rts ∧ (tick s).power = s.power
    ∧ (tick s).inFlight = s.inFlight ∧ (tick s).draws = s.draws := by
  simp only [tick]
  split <;> simp

/-- A tick leaves the profiles and the active profile as they were. -/
theorem tick_profiles : (tick s).plu.profiles = s.plu.profiles ∧ (tick s).plu.active = s.plu.active := by
  simp only [tick]
  (repeat' split) <;> simp

end Sys2Proof.Machine
end

