-- ==== Sys2Proof/Laws/Shared.lean ====
section
/-! SUPPORT. What each shared operation does, said once: one equation per operation, for proofs to cite in place of the
operation's definition. -/

namespace Sys2Proof.Machine

variable (s t : State)

/-! ### Event records and replies -/

/-- The reply queue after an event record has been offered to it, with so many records reserved (R182). -/
def admitted (e : Event) (q : Rpq) (reserved : Nat) : Rpq :=
  if !(q.enabled && q.classes.contains e.cls) then q
  else if q.queue.length + reserved < 28 then { q with queue := q.queue ++ [.event e q.lost], lost := 0 }
  else { q with lost := satInc 255 q.lost }

/-- Offering an event record changes the reply queue alone, and depends on it and on the reservation alone. -/
theorem emit_eq (e : Event) : emit e s = { s with rpq := admitted e s.rpq s.rqh.reserved } := by
  simp only [emit, admitted]
  by_cases h1 : (!(s.rpq.enabled && s.rpq.classes.contains e.cls)) = true
  · rw [if_pos h1, if_pos h1]
  · rw [if_neg h1, if_neg h1]
    by_cases h2 : s.held < 28
    · rw [if_pos h2, if_pos (show s.rpq.queue.length + s.rqh.reserved < 28 from h2)]
    · rw [if_neg h2, if_neg (show ¬s.rpq.queue.length + s.rqh.reserved < 28 from h2)]

/-- An admitted record joins the tail with the lost count. -/
theorem emit_admitted (e : Event) (he : s.rpq.enabled = true) (hc : e.cls ∈ s.rpq.classes) (hh : s.held < 28) :
    emit e s = { s with rpq := { s.rpq with queue := s.rpq.queue ++ [.event e s.rpq.lost], lost := 0 } } := by
  simp [emit, he, hc, hh]

/-- What is queued stays queued when an event record is offered, and at most one record joins it. -/
theorem emit_queue (e : Event) :
    (emit e s).rpq.queue = s.rpq.queue ∨ (emit e s).rpq.queue = s.rpq.queue ++ [.event e s.rpq.lost] := by
  simp only [emit]; (repeat' split) <;> simp

/-- A reply to a request in progress is the one record of `State.replied`. -/
theorem answer_eq {tag : Byte} {request : Request} {n : Nat} (result : Result) (data : List Byte)
    (h : s.rqh.inProgress = some { tag, request, reserved := n }) :
    answer result data s = s.replied tag request result data := by
  simp [answer, answerRecords, h, State.replied]

/-- A reply without data. -/
theorem reply_eq {tag : Byte} {request : Request} {n : Nat} (result : Result)
    (h : s.rqh.inProgress = some { tag, request, reserved := n }) :
    reply result s = s.replied tag request result [] := answer_eq s result [] h

/-- With no request in progress a reply changes nothing. -/
theorem reply_none (result : Result) (h : s.rqh.inProgress = none) : reply result s = s := by
  simp [reply, answer, answerRecords, h]

/-- A request in progress is what its owner finds asked. -/
theorem asked_eq {tag : Byte} {request : Request} {n : Nat}
    (h : s.rqh.inProgress = some { tag, request, reserved := n }) : s.asked = some request := by
  simp [State.asked, h]

/-! ### Hand-overs -/

/-- A hand-over that is next in its channel is taken from it. -/
theorem taking_eq (h : Handover) : s.taking h.channel = { s with inFlight := s.others h } := rfl

/-- What is offered is what the channel gives next. -/
theorem offered_next {s : State} {h : Handover} (ho : s.offered h) : s.nextIn h.channel = some h := ho.2

/-- A posting of the descrambler: nothing where neither source changes, and both sources with their hand-over
otherwise. -/
theorem postDsc_eq (noKey notEntitled : Bool) : postDsc noKey notEntitled s =
    { s with
      dsc := { s.dsc with noKey, notEntitled }
      inFlight := s.inFlight ++
        (if s.dsc.noKey = noKey ∧ s.dsc.notEntitled = notEntitled then [] else [.dscPosting noKey notEntitled]) } := by
  simp only [postDsc]
  split
  · rename_i h; obtain ⟨rfl, rfl⟩ := h; simp
  · simp [send]

/-- Freeing the ACTIVE record: it is gone, both sources are clear where it was claimed, and that is posted where one was
set. -/
theorem freeActive_eq : freeActive s =
    { s with
      dsc := { s.dsc with
        active := none
        noKey := if s.dsc.active.isSome then false else s.dsc.noKey
        notEntitled := if s.dsc.active.isSome then false else s.dsc.notEntitled }
      inFlight := s.inFlight ++ s.postsFreed } := by
  simp only [freeActive, State.postsFreed]
  rcases h : s.dsc.active with _ | r
  · cases s with | mk _ _ _ _ _ _ _ dsc => cases dsc; simp_all
  · simp only [postDsc_eq]
    rcases s.dsc.noKey <;> rcases s.dsc.notEntitled <;> simp

/-! ### The schedule table -/

/-- An entry takes its place after every entry due no later and before the first entry due later. -/
theorem insertEntry_split (e : Entry) (table : List Entry) : ∃ before after, table = before ++ after
    ∧ insertEntry e table = before ++ e :: after ∧ (∀ x ∈ before, x.due ≤ e.due)
    ∧ ∀ x ∈ after.head?, e.due < x.due := by
  induction table with
  | nil => exact ⟨[], [], by simp [insertEntry]⟩
  | cons x xs ih =>
    by_cases h : x.due ≤ e.due
    · obtain ⟨b, a, rfl, hi, hb, ha⟩ := ih
      refine ⟨x :: b, a, by simp, by simp [insertEntry, h, hi], ?_, ha⟩
      simpa [h] using hb
    · exact ⟨[], x :: xs, by simp, by simp [insertEntry, h], by simp, by simpa using h⟩

/-- An insertion adds its entry and nothing else. -/
theorem mem_insertEntry (e x : Entry) (table : List Entry) :
    x ∈ insertEntry e table ↔ x = e ∨ x ∈ table := by
  obtain ⟨b, a, rfl, h, -, -⟩ := insertEntry_split e table
  rw [h]; simp; tauto

/-- The key request: the kind's entry is set at its due time while the wall is valid. -/
theorem keyEntry_eq (k : DeviceKind) (due : Nat) (service event : Option Nat) : keyEntry k due service event s =
    { s with scp := { s.scp with
        target := if s.tmb.wallValid then deviceAt k due service event s.scp.target else s.scp.target } } := by
  simp only [keyEntry]; split <;> rfl

/-! ### Events at the PLU and the PGT -/

/-- An event at the PLU: its effect, the accrual settled, and the posting. -/
theorem pluEvent_eq (effect : State → State) : pluEvent effect s =
    { effect s with
      plu := { (effect s).plu with accruing := (effect s).plu.accrues }
      inFlight := (effect s).inFlight ++ s.posts (effect s) } := by
  simp only [pluEvent, flushPosting, settleAccrual, State.posts]
  split <;> simp_all [send]

/-- After an event at the PLU the accrual runs exactly on its conditions. -/
theorem pluEvent_settled (effect : State → State) : (pluEvent effect s).plu.settled := by
  rw [pluEvent_eq]; rfl

/-- An event at the PGT: the changed record with its gate state recomputed, GATE_CHANGE where the sources or the state
changed, and the new state for the PLU where it changed. -/
theorem gateEvent_gate (change : Pgt → Pgt) :
    (gateEvent change s).pgt.isOpen = gateIsOpen (change s.pgt).sources (change s.pgt).mask (change s.pgt).presented.isSome
    ∧ (gateEvent change s).pgt.sources = (change s.pgt).sources
    ∧ (gateEvent change s).pgt.mask = (change s.pgt).mask
    ∧ (gateEvent change s).pgt.presented = (change s.pgt).presented := by
  simp only [gateEvent, Pgt.stampChange]
  (repeat' split) <;> simp [Pgt.recompute, emit_eq]

/-- An event at the PGT leaves the gate composed, whatever it was before. -/
theorem gateEvent_gateOk (change : Pgt → Pgt) : (gateEvent change s).GateOk := by
  obtain ⟨h, h1, h2, h3⟩ := gateEvent_gate s change
  rw [State.GateOk, h1, h2, h3, h]

/-- The PGT catching up keeps the gate composed. -/
theorem gateCatchUp_gateOk (cs : List Channel) (h : s.GateOk) : (gateCatchUp cs s).GateOk := by
  unfold gateCatchUp
  generalize s.inFlight = hs
  induction hs generalizing s with
  | nil => exact h
  | cons x hs ih =>
    rw [List.foldl_cons]
    apply ih
    simp only [takeAtGate, takeDscPosting, takeGateContext]
    (repeat' split) <;> first | exact gateEvent_gateOk _ _ | exact h

/-- A state with the same gate record is composed with it. -/
theorem gateOk_of_pgt {s t : State} (e : t.pgt = s.pgt) (h : s.GateOk) : t.GateOk := by
  rw [State.GateOk, e]
  exact h

/-- A forwarded cell keeps the gate composed: the PGT acts in it where the cell clears NO_KEY alone. -/
theorem forward_gateOk (r : Route) (b : Bool) (c : Cell) (h : s.GateOk) : (forward r b c s).GateOk := by
  have cleared : (clearCell r c s).2.GateOk := by
    simp only [clearCell, scrambledCell]
    (repeat' split) <;> first
      | exact h
      | exact gateCatchUp_gateOk _ _ (gateOk_of_pgt (by simp) h)
      | exact gateOk_of_pgt (by simp) h
  exact gateOk_of_pgt (by simp [forward]) cleared

/-- A cell taken by a route keeps the gate composed: the PGT acts in it as a descrambled cell is forwarded and at a splice point. -/
theorem useCell_gateOk (k : Nat) (r : Route) (b : Bool) (c : Cell) (h : s.GateOk) : (useCell k r b c s).GateOk := by
  have splicing (u : State) (e : u.pgt = s.pgt) : (spliceOn k c u).GateOk := by
    have h1 : (splice .ok u).GateOk := gateOk_of_pgt (by simp [e]) h
    simp only [spliceOn]
    (repeat' split) <;> first | exact h1 | exact forward_gateOk _ _ _ _ (gateCatchUp_gateOk _ _ h1)
  simp only [useCell, observe]
  (repeat' split) <;> first
    | exact splicing _ (by simp)
    | exact forward_gateOk _ _ _ _ h
    | exact gateOk_of_pgt (by simp) h

/-- So do the cell's lookup and its header checks. -/
theorem checkHeader_gateOk (port : Port) (c : Cell) (h : s.GateOk) : (checkHeader port c s).GateOk := by
  have taken (k : Nat) (u : State) (hu : u.GateOk) : (takeCell k c u).GateOk := by
    simp only [takeCell]
    split
    · exact hu
    · exact useCell_gateOk _ _ _ _ _ (gateOk_of_pgt rfl hu)
  have h1 : (countReceived port s).GateOk := gateOk_of_pgt (by simp) h
  simp only [checkHeader, lookup]
  (repeat' split) <;> first
    | exact taken _ _ (taken _ _ h1)
    | exact taken _ _ h1
    | exact h1
    | exact gateOk_of_pgt (by simp) h1

/-! ### Delivery queues -/

/-- The consumer of a class with a section waiting takes the head of its queue. -/
theorem consume_cons {c : SectionClass} {x : Section} {rest : List Section} (apply : Section → State → State)
    (h : s.queues.of c = x :: rest) :
    consume c apply s = apply x { s with queues := s.queues.with c rest } := by
  simp [consume, h]

end Sys2Proof.Machine
end

