-- ==== Sys2Proof/Tests/Slice0.lean ====
section
/-! SUPPORT. Tests: ill-formed commands, the manual's worked sequences with the figures that it gives, and for each
statement of Obligations.lean a state and operands that meet its hypotheses. -/

namespace Sys2Proof.Tests

open Machine

/-! ### Small states -/

/-- The state after a command. -/
def after (c : Instr) (s : State) : State :=
  match exec c s with
  | .next t => t
  | _ => s

/-- The events queued, in order. -/
def events (s : State) : List Event :=
  s.rpq.queue.filterMap fun r => match r with
    | .event e _ => some e
    | _ => none

/-- The results queued, in order. -/
def results (s : State) : List Result :=
  s.rpq.queue.filterMap fun r => match r with
    | .reply _ _ result _ _ _ => some result
    | _ => none

/-- The data of the replies queued, in order. -/
def replies (s : State) : List (List Byte) :=
  s.rpq.queue.filterMap fun r => match r with
    | .reply _ _ _ _ _ data => some data
    | _ => none

/-- A state with a request in progress. -/
def asks (r : Request) (s : State) : State :=
  { s with rqh := { s.rqh with inProgress := some { tag := 7#8, request := r, reserved := 1 } } }

/-- A state with one hand-over in flight. -/
def given (h : Handover) (s : State) : State := { s with inFlight := [h] }

/-- A state with a valid wall. -/
def walled (w : Nat) (offset : Int) (s : State) : State :=
  { s with tmb := { s.tmb with wallValid := true, w, offset } }

/-- The state right after a reset. -/
abbrev fresh : State := State.reset

/-- A state that asks meets the hypothesis of the request statements. -/
theorem witness_asking (r : Request) : (asks r fresh).asking 7#8 r 1 := ⟨rfl, rfl⟩

/-! ### Ill-formed commands are refused -/

theorem test_wf_cold_is_no_warm_reset : (Instr.warmReset .cold).wf = false := by decide
theorem test_wf_port_l_has_no_search : (Instr.syncSearch .l syncByte).wf = false := by decide
theorem test_wf_empty_burst : (Instr.cellArrival .a []).wf = false := by decide
theorem test_wf_long_burst : (Instr.portLCell true (List.replicate 161 0#8)).wf = false := by decide +kernel
theorem test_wf_full_burst : (Instr.portLCell true (List.replicate 160 0#8)).wf = true := by decide +kernel
theorem test_wf_port_l_has_no_cell_arrival : (Instr.cellArrival .l [0#8]).wf = false := by decide
theorem test_wf_port_l_has_no_idle_watch : (Instr.idleWatchExpiry .l).wf = false := by decide

/-! ### Time: the worked cases of chapter 3 -/

/-- A locked time base at NT with trim T. -/
def lockedAt (nt : NetTime) (trim : Int) : Tmb := { Tmb.reset with recovery := .locked, nt, trim }

/-- The worked case of one stamp: E = +350 corrects NT to 5,000,000,088 and T to 580. -/
theorem test_stamp_correction :
    let t := ((lockedAt 5000000000#40 (-120)).stamp 5000000350#40 false).1
    (t.nt, t.trim, t.trimLimit) = (5000000088#40, 580, false) := by decide

/-- The next stamp, E = +1,900: P = 475, and T is clamped to 4,096 with TRIM_LIMIT. -/
theorem test_stamp_clamps_trim :
    let t := ((lockedAt 0#40 580).stamp 1900#40 false).1
    (t.nt, t.trim, t.trimLimit) = (475#40, 4096, true) := by decide

/-- A later stamp, E = −13,000, is a step. -/
theorem test_stamp_steps :
    let out := (lockedAt 13000#40 4096).stamp 0#40 false
    (out.1.nt, out.1.trim, out.1.recovery, out.1.steps, out.2) = (0#40, 4096, .acquire, 1, true) := by decide

/-- The two rounding checks: −1.5 rounds to −2 and 0.5 to 1. -/
theorem test_quarter_rounds_away_from_zero : (quarter (-6), quarter 2) = (-2, 1) := by decide

/-- The wall of the worked case after the stamp: k = 1, W = 1,000,001, N_s = 5,000,000,000. -/
theorem test_second_advance :
    let t := ({ Tmb.reset with
      wallValid := true, w := 1000000, ns := 4992000000#40, nt := 5000000088#40 } : Tmb).check.1
    (t.w, t.ns) = (1000001, 5000000000#40) := by decide

/-- Its local quantities: M = 526, day 11, next midnight 1,054,800. -/
theorem test_local_time :
    let t := (walled 1000001 (-300) fresh).tmb
    (t.minute, t.day, t.midnight) = (526, 11, 1054800) := by decide

/-- The wall of the three anchors. -/
def anchored : State := { fresh with tmb := { Tmb.reset with
  recovery := .locked, wallValid := true, w := 1000001, ns := 5000000000#40, nt := 5004000000#40 } }

/-- An anchor 99 seconds ahead is one advance to 1,000,100. -/
theorem test_anchor_ahead :
    let t := realign { w0 := 1000050, n0 := 4600000000#40, offset := 0, next := none } anchored
    (t.tmb.w, t.tmb.ns, t.inFlight) = (1000100, 5000000000#40, [.advance 1000100]) := by decide

/-- An anchor 120 seconds behind is held. -/
theorem test_anchor_held :
    let t := realign { w0 := 999881, n0 := 5000000000#40, offset := 0, next := none } anchored
    (t.tmb.w, t.tmb.ns, t.inFlight) = (1000001, 5960000000#40, []) := by decide

/-- An anchor 400 seconds behind rewinds to 999,601. -/
theorem test_anchor_rewinds :
    let t := realign { w0 := 999601, n0 := 5000000000#40, offset := 0, next := none } anchored
    (t.tmb.w, t.tmb.ns, t.inFlight, events t)
      = (999601, 5000000000#40, [.rewind .scp, .rewind .gds], [.wallRewound 1000001 999601]) := by decide

/-! ### The schedule: the worked sequence of section 4.8 -/

def reminder (id due period : Nat) (about : Option (Nat × Nat)) : Entry :=
  { kind := .reminder id period false, due, service := about.map Prod.fst, event := about.map Prod.snd }

def device (k : DeviceKind) (due : Nat) (about : Option (Nat × Nat)) : Entry :=
  { kind := .device k, due, service := about.map Prod.fst, event := about.map Prod.snd }

def scheduled : State :=
  let s := walled 1000100 (-300) (given (.advance 1000100) fresh)
  { s with scp := { s.scp with
      target := [reminder 9 1000010 60 none, reminder 7 1000030 0 (some (201, 4410)),
        device .eventEnd 1000050 (some (201, 4410)), reminder 12 1000100 0 (some (512, 880)),
        device .entExpiry 1000200 none, device .dayRoll 1054800 none]
      ranges := [{ profile := some 2, lower := 1200, upper := 420, contains := false },
        { profile := some 2, lower := 510, upper := 527, contains := true }]
      lastMinute := some 526 } }

/-- The table that the pass leaves, and its events. -/
theorem test_firing_pass :
    let t := after .firingPass scheduled
    (t.scp.target, events t)
      = ([reminder 9 1000130 60 none, device .entExpiry 1000200 none, device .dayRoll 1054800 none],
         [.reminderDue 9 1000010 2 1000100 none none, .reminderDue 7 1000030 1 1000100 (some 201) (some 4410),
          .reminderDue 12 1000100 1 1000100 (some 512) (some 880)]) := by decide

/-- The firing and the window states that it hands on: profile 2's window is closed at minute 528. -/
theorem test_firing_pass_hands_on :
    (after .firingPass scheduled).inFlight
      = [.firing .eventEnd 1000050 (some 201) (some 4410), .windowStates [true, true, false, true]] := by decide

/-- Released at 1,000,140 after a pass under the hold, reminder 9 covers 3 periods and moves to 1,000,190. -/
theorem test_release_reminders :
    let held := after .firingPass { scheduled with scp := { scheduled.scp with hold := true } }
    let t := after .releaseReminders (asks .releaseReminders (walled 1000140 (-300) held))
    (t.scp.target.head?, (events t).head?)
      = (some (reminder 9 1000190 60 none), some (.reminderDue 9 1000010 3 1000140 none none)) := by decide

/-! ### The account: section 7.8 -/

def account : State :=
  let s := walled 1000500 (-300) fresh
  let key := { KeyRecord.claim 212 330 with criteria := some (.event 7720 300), verdict := .notEntitled }
  { s with
    enu := { s.enu with
      table := [{ tier := 12, expiry := 1054800 }, { tier := 40, expiry := 4294967295 }]
      grants := [{ service := 201, event := 4410, expiry := 1003000 }]
      granted := 5000, spent := 1200, nextSeq := some 9
      log := [{ seq := 7, service := 201, event := 4410, price := 500, wall := 0 },
        { seq := 8, service := 188, event := 910, price := 700, wall := 0 }] }
    dsc := { s.dsc with active := some key }
    gds := { s.gds with events :=
      [{ service := 212, segment := 0, id := 7720, start := 1000800, duration := 7200, age := 0, flags := 0#4
         category := 0, price := none, title := [] }] } }

/-- PURCHASE(212, 7720): record 9, spent 1,500, a grant to 1,008,600. -/
theorem test_purchase :
    let t := after .purchase (asks (.purchase 212 7720) account)
    (t.enu.spent, t.enu.nextSeq, t.enu.grants.getLast?, replies t)
      = (1500, some 10, some { service := 212, event := 7720, expiry := 1008600 },
         [[0#8, 0#8, 0#8, 9#8, 0#8, 15#8, 99#8, 216#8]]) := by decide

/-- Its two events, and ENT_EXPIRY at 1,003,000. -/
theorem test_purchase_reports :
    let t := after .purchase (asks (.purchase 212 7720) account)
    (events t, t.scp.dueOf .entExpiry)
      = ([.entChanged .purchase 2 2 (some 1003000), .creditChanged .purchase 5000 1500 3 (some 7)],
         some 1003000) := by decide

/-- CREDIT granted 6,000, collected through 8. -/
theorem test_credit :
    let bought := after .purchase (asks (.purchase 212 7720) account)
    let t := credit 6000 8 { bought with rpq := Rpq.reset }
    (t.enu.spent, t.enu.remaining, events t)
      = (300, 5700, [.creditChanged .credit 6000 300 1 (some 9)]) := by decide

/-- At 1,003,000 the firing removes the grant for (201, 4410). -/
theorem test_expiry :
    let t := after .entExpiryFiring (given (.firing .entExpiry 1003000 none none) (walled 1003000 (-300) account))
    (t.enu.grants, t.enu.table.length, events t, t.inFlight)
      = ([], 2, [.entChanged .expiry 2 0 (some 1054800)], [.entNotice]) := by decide

/-! ### The pool: section 2.12 -/

/-- A section of 20 bytes with this class code and body of 8 bytes, its CRC as R188 gives it. -/
def framed (code : Byte) (body : List Byte) : List Byte :=
  let head := [code, 0x01#8, 0x40#8, 0#8, 0#8, 205#8, 0#8, 0#8] ++ body
  head ++ beBytes 4 (crc32 head).toNat

/-- The GUIDE section of the example. -/
def guideFrame : List Byte := framed 3#8 (List.replicate 8 0#8)

/-- Any section of a class. -/
def anySection (cls : SectionClass) : Section :=
  { port := .b, stream := 4067, cls, total := 20, version := 0, key := 205, bits := 0, body := [] }

/-- The guide store applies g1 while g2 to g7 wait, less those already applied, and a further section is in assembly. -/
def outrun (held : Nat) : State :=
  { fresh with
    queues := { Queues.reset with guide := List.replicate held (anySection .guide) }
    routes := fresh.routes.set 3 (some { Route.fixed .b 4067 (.sections [.guide]) with
      ctx := some { Context.fresh with asm := .assembling .guide 20 (guideFrame.take 10) } }) }

/-- The continuation cell that completes it. -/
def lastCell (s : State) : State :=
  assemble 3 { Cell.ofBytes [] with start := false, payload := guideFrame.drop 10 ++ List.replicate 146 0#8 } s

/-- 16 − 1 − 6 − 1 buffers are free while g8 is in assembly, and 9 once it met the full queue. -/
theorem test_guide_outrun : (outrun 7).freeBuffers = 8 ∧ (lastCell (outrun 7)).freeBuffers = 9
    ∧ ((lastCell (outrun 7)).routes[3]?.join.bind Route.ctx).map (fun c => c.counts.overrun) = some 1 := by decide +kernel

/-- Once the store has finished g1 and taken g2, g9 joins the queue. -/
theorem test_guide_catches_up : (outrun 6).freeBuffers = 9 ∧ (lastCell (outrun 6)).queues.guide.length = 7
    ∧ ((lastCell (outrun 6)).routes[3]?.join.bind Route.ctx).map (fun c => c.counts.delivered) = some 1 := by decide +kernel

/-! ### The guide: section 8.8 -/

def guideEvent (segment id start duration : Nat) : GuideEvent :=
  { service := 205, segment, id, start, duration, age := 3, flags := 0#4, category := 0, price := none, title := [] }

def guided : State :=
  let s := walled 1000500 0 fresh
  { s with gds := { s.gds with
      followed := some 205
      services := [{ number := 205, versions := (List.replicate 56 none).set 3 (some 4) }]
      events := [guideEvent 3 100 999000 2700, guideEvent 3 101 1001700 3600, guideEvent 3 102 1005300 4500,
        guideEvent 4 103 1009800 3600] } }

/-- One event of a GUIDE body, as chapter 12 lays it out: an event without a title. -/
def guideBytes (id start duration : Nat) : List Byte :=
  beBytes 2 id ++ beBytes 4 start ++ beBytes 4 duration ++ [0x30#8, 0#8, 0#8, 0#8, 0#8]

def segmentThree : Section :=
  { port := .b, stream := 4067, cls := .guide, total := 0, version := 5, key := 205, bits := 3
    body := beBytes 4 999000 ++ [4#8] ++ guideBytes 100 999000 3600 ++ guideBytes 111 1002600 3600
      ++ guideBytes 112 1006200 5400 ++ guideBytes 113 1006000 600 }

/-- Version 5 over the running programme: 100, 111 and 112 stay, one is displaced and one overlaps in the section. -/
theorem test_guide_section :
    let t := after .guideSection { guided with queues := { Queues.reset with guide := [segmentThree] } }
    (t.gds.events.map GuideEvent.id, t.gds.counts.displaced, t.gds.counts.overlapping, t.scp.dueOf .eventEnd, events t)
      = ([100, 111, 112], 1, 1, some 1002600, [.guideChanged 205 3 5 3 3 false]) := by decide

/-! ### Budgets: section 9.8 -/

def budgeted (w : Nat) (p : Profile) : State :=
  let s := walled w (-300) fresh
  { s with plu := { s.plu with
      profiles := [.cold, p, .cold, .cold], active := 1, dayNumber := some 11, gateOpen := true, accruing := true
      remainder := 1000 } }

def evening : Profile :=
  { Profile.cold with mode := .daily, budget := 90, latch := 90, used := 84, seconds := 59 }

/-- The 85th minute warns with 5 minutes left. -/
theorem test_budget_warns :
    let t := after .budgetAccrualSecond (budgeted 1050030 evening)
    (t.plu.activeProfile.used, t.plu.activeProfile.seconds, events t) = (85, 0, [.budgetWarn 1 5]) := by decide

/-- The 90th minute spends the budget and posts BUDGET. -/
theorem test_budget_spent :
    let t := after .budgetAccrualMinute (budgeted 1050330 { evening with used := 89, warned := true })
    (events t, t.inFlight) = ([.budgetSpent 1 90 90], [.pluPosting { PluPosting.clear with budget := true }]) := by
  decide

/-- The roll at 1,054,800 renews the profile from its latch of 120. -/
theorem test_day_roll :
    let s := budgeted 1054800 { evening with used := 90, latch := 120, warned := true }
    let t := after .dayRollFiring (given (.firing .dayRoll 1054800 none none) s)
    (t.plu.activeProfile.budget, t.plu.activeProfile.used, t.plu.dayNumber, events t)
      = (120, 0, some 12, [.dayRoll 12 11]) := by decide

/-! ### The grid: section 10.6 -/

def gridService (number : Nat) (hidden : Bool) (tiers : List Nat) : Service :=
  { number, frequency := 1, modulation := 0, mapStream := 1, tiers, hidden, name := [], segment := 0 }

def gridEvent (service id start stop age : Nat) : GuideEvent :=
  { service, segment := 0, id, start, duration := stop - start, age, flags := 0#4, category := 0, price := none
    title := [] }

def grid : State :=
  let s := walled 1000500 0 fresh
  { s with
    sdr := { s.sdr with services := [gridService 201 false [], gridService 205 false [12], gridService 207 true [],
      gridService 212 false [80], gridService 300 false [55], gridService 512 false []] }
    enu := { s.enu with
      table := [{ tier := 12, expiry := 4294967295 }]
      grants := [{ service := 212, event := 7720, expiry := 2000000 }] }
    scp := { s.scp with target := [reminder 1 1005000 0 (some (300, 42))] }
    plu := { s.plu with profiles := [{ Profile.cold with ceiling := 5 }, .cold, .cold, .cold] }
    gds := { s.gds with
      services := [201, 205, 212, 300].map fun number => { number, versions := [] }
      events := [gridEvent 205 100 999000 1002600 3, gridEvent 205 111 1002600 1006200 3,
        gridEvent 205 112 1006200 1011600 3, gridEvent 212 7719 996300 1000800 2,
        gridEvent 212 7720 1000800 1008000 6, gridEvent 300 40 999030 1001730 0, gridEvent 300 41 1001730 1004400 0,
        gridEvent 300 42 1005000 1009000 0] }
    gwn := { s.gwn with start := some 999000, cursorTime := some 1000500 } }

def placed : State := after .gridSet (asks (.gridSet 205 3 4 1000000) grid)

def press (code : Nat) (s : State) : State := after .cursorMove (asks (.cursorMove code) s)

/-- Top row, cursor row, cursor time and start. -/
def view (s : State) : Nat × Nat × Option Nat × Option Nat :=
  (s.gwn.top, s.gwn.cursorRow, s.gwn.cursorTime, s.gwn.start)

theorem test_grid_set : view placed = (1, 0, some 1000500, some 999000) := by decide

theorem test_cursor_right : view (press 3 placed) = (1, 0, some 1002600, some 999000)
    ∧ view (press 3 (press 3 placed)) = (1, 0, some 1006200, some 1000800) := by decide

/-- Three times DOWN, then PAGE_DOWN, then LEFT. -/
theorem test_cursor_down_page_left :
    let s := press 3 (press 3 placed)
    let s3 := press 1 (press 1 (press 1 s))
    view s3 = (2, 2, some 1006200, some 1000800) ∧ view (press 5 s3) = (0, 2, some 1006200, some 1000800)
      ∧ view (press 2 (press 5 s3)) = (0, 2, some 999000, some 999000) := by decide

/-- The spans of the row of 212: event 7719 with NOW, UNOFFERED and CONT_LEFT, event 7720 with BLOCKED, UNOFFERED, PURCHASED
and CONT_RIGHT. -/
theorem test_grid_row :
    (rowRecord placed 999000 1).drop 15
      = [2#8, 0x1E#8, 0x27#8, 0#8, 30#8, 0x52#8, 0x1E#8, 0x28#8, 30#8, 90#8, 0xB8#8] := by decide

/-! ### The hypotheses of the statements can be met

One theorem for each statement with hypotheses: a state and operands for each of its clauses, at the ends of a range
where a clause has one. -/

/-- A locked Port A with these consecutive failures and these bytes taken. -/
def onPortA (sync : SyncState) (failures : Nat) (taken : List Byte) : State :=
  { fresh with cin := { fresh.cin with a := { SerialPort.reset with sync, failures, taken, idleSince := some 0#32 } } }

/-- A part whose LOCAL time is this. -/
def atLocal (ms : LocalTime) (s : State) : State := { s with tmb := { s.tmb with localTime := ms } }

/-- A part with this queue of records. -/
def queued (queue : List Record) (s : State) : State := { s with rpq := { s.rpq with queue } }

/-- A reply record without data. -/
def bare : Record := .reply 1#8 0#8 .ok false false []

/-- A cell with this stream. -/
def cellOn (stream : BitVec 12) : Cell :=
  { sync := syncByte, start := true, marker := false, parity := .clear, stream, continuity := 0#4, reserved := 0#4
    payload := List.replicate 156 0#8 }

/-- Two parts that differ in a control word alone. -/
def withWord (w : ControlWord) : State :=
  let key := { KeyRecord.claim 212 330 with
    criteria := some (.tiers [12]), verdict := .entitled, even := some w, live := some .even }
  { fresh with dsc := { fresh.dsc with active := some key } }

/-- A part that carries this command out next. -/
def next (c : Instr) (s : State) : State := { s with pending := [c] }

theorem witness_StepRunsTheFrontCommand :
    (next .coldStart fresh).pending = .coldStart :: [] := rfl

theorem witness_EmptyQueueTakesAnOwnStepOrAMillisecond :
    (fresh.pending = [] ∧ ownStep fresh = none ∧ fresh.running = true)
    ∧ ownStep (given (.advance 5) fresh) = some .firingPass
    ∧ (let off := { fresh with power := { powered := false, pinLow := false } }
       ownStep off = none ∧ off.running = false) := by decide

theorem witness_EveryStepKeepsTheAccount :
    let s := next .purchase (asks (.purchase 212 7720) account)
    s.AccountOk ∧ ∃ t, step s = .next t := by
  refine ⟨⟨by unfold Enu.tableOk; decide, by unfold Enu.grantsOk; decide, by decide, by decide, by decide, ?_⟩, _, rfl⟩
  intro r hr n hn
  cases hn
  revert r
  decide

theorem witness_EveryStepKeepsTheReplyQueueBound :
    let taken : InProgress := { tag := 7#8, request := .gridRead, reserved := 10 }
    let s := next .gridRead { grid with rqh := { Rqh.reset with inProgress := some taken } }
    s.ReplyQueueOk ∧ ∃ t, step s = .next t := by
  refine ⟨⟨by decide, by decide, ?_⟩, _, rfl⟩
  rintro p h
  cases h
  decide

theorem witness_EveryStepKeepsWordsUnderEntitlement :
    let s := next .entChangeNotice (given .entNotice (withWord 5#128))
    s.KeysOk ∧ ∃ t, step s = .next t := by
  refine ⟨⟨?_, ?_, by decide⟩, _, rfl⟩
  · rintro r h
    cases h
    exact fun _ => ⟨rfl, rfl⟩
  · rintro r ⟨⟩

theorem witness_EveryStepKeepsTheGateComposed :
    let s := next (.gatePosting .dsc) (given (.dscPosting true false) fresh)
    s.GateOk ∧ ∃ t, step s = .next t := ⟨by unfold State.GateOk; decide, _, rfl⟩

theorem witness_EveryStepKeepsTheGuideStoreOrdered :
    let s := next .guideSection { guided with queues := { Queues.reset with guide := [segmentThree] } }
    s.GuideOk ∧ ∃ t, step s = .next t := ⟨by unfold State.GuideOk GuideEvent.precedes; decide, _, rfl⟩

theorem witness_EveryStepKeepsTheScheduleOrdered :
    let s := next .firingPass scheduled
    s.ScheduleOk ∧ ∃ t, step s = .next t := by
  refine ⟨⟨by decide, by decide, by decide, ?_⟩, _, rfl⟩
  intro k
  cases k <;> decide

theorem witness_EveryStepKeepsTheClockWithinLimits :
    let s := next .secondAdvance { anchored with tmb := { anchored.tmb with pendingChange := some (1000002, 840) } }
    s.ClockOk ∧ ∃ t, step s = .next t := by
  refine ⟨⟨by decide, by decide, by decide, by decide, by decide, by decide, ?_⟩, _, rfl⟩
  intro time offset h
  cases h
  decide

theorem witness_EveryStepKeepsTheProfilesWithinRanges :
    let s := next .budgetAccrualMinute (budgeted 1050330 evening)
    s.ProfilesOk ∧ ∃ t, step s = .next t := ⟨by unfold State.ProfilesOk Profile.Ok; decide, _, rfl⟩

theorem witness_EveryStepKeepsTheFixedRoutes :
    let s := next .addRoute (asks (.addRoute 1 100) fresh)
    s.FixedRoutesOk ∧ ∃ t, step s = .next t := by
  refine ⟨⟨rfl, ⟨_, rfl, ?_⟩, ⟨_, rfl, ?_⟩, ⟨_, rfl, ?_⟩, ⟨_, rfl, ?_⟩, ⟨_, rfl, ?_⟩, ⟨_, rfl, ?_⟩⟩, _, rfl⟩ <;>
    exact ⟨rfl, rfl, rfl, rfl, rfl, rfl⟩

theorem witness_NoReadShowsAControlWord :
    let s := asks (.readTable 8 0 2) (withWord 5#128)
    let s' := asks (.readTable 8 0 2) (withWord 6#128)
    s.hideWords = s'.hideWords ∧ s ≠ s' ∧ (∃ t, exec .readTable s = .next t) ∧ ∃ t, exec .readTable s' = .next t :=
  ⟨rfl, by decide, ⟨_, rfl⟩, _, rfl⟩

theorem witness_EventRecordsAreAdmittedWhileFewerThan28AreHeld :
    let off := { fresh with rpq := { Rpq.reset with enabled := false } }
    let masked := { fresh with rpq := { Rpq.reset with classes := [.time] } }
    let e := Event.inputState .a .locked
    off.rpq.enabled = false ∧ e.cls ∉ masked.rpq.classes
    ∧ (e.cls ∈ fresh.rpq.classes ∧ (queued (List.replicate 27 bare) fresh).held < 28)
    ∧ 28 ≤ (queued (List.replicate 28 bare) fresh).held := by decide

theorem witness_CellBytesRoundTrip : (List.replicate 160 0#8 : List Byte).length = 160 := List.length_replicate

theorem witness_DataLaneAlternatesForwardedAndStatusCells :
    let long := Record.reply 2#8 7#8 .ok false true (List.replicate 156 0#8)
    let both := { queued [long] fresh with lanes := { Lanes.reset with waiting := [cellOn 100#12] } }
    let status := { both with lanes := { both.lanes with lastStatus := true } }
    (both.running = true ∧ both.lanes.waiting = cellOn 100#12 :: [] ∧ status.lanes.lastStatus = true)
    ∧ (both.rpq.queue = long :: [] ∧ both.lanes.lastStatus = false ∧ both.rqh.stopped = false)
    ∧ bare.bytes.length ≤ 156 * (0 + 1) ∧ 156 * (0 + 1) < long.bytes.length := by
  refine ⟨⟨rfl, rfl, rfl⟩, ⟨rfl, rfl, rfl⟩, by decide, by decide +kernel⟩

/-- The payload of a request without parameters, of tag 7. -/
def payloadOf (code : Byte) : List Byte := code :: 7#8 :: List.replicate 154 0#8

/-- A part with this request waiting and this many records queued. -/
def waits (code : Byte) (records : Nat) : State :=
  { queued (List.replicate records bare) fresh with rqh := { Rqh.reset with intake := [payloadOf code] } }

theorem witness_IntakeTakesTheHeadRequestWhenItsRecordsHaveRoom :
    ((waits 0x21#8 31).running = true ∧ (waits 0x21#8 31).rqh.intake = payloadOf 0x21#8 :: []
      ∧ (waits 0x21#8 31).rqh.inProgress = none ∧ (waits 0x21#8 31).rqh.stopped = false)
    ∧ (fieldAt (payloadOf 0x21#8) 0 1 ≠ 0x62 ∧ (waits 0x21#8 31).rpq.queue.length + 1 ≤ 32
      ∧ requestOf (payloadOf 0x21#8) = some .cancel)
    ∧ (fieldAt (payloadOf 0x62#8) 0 1 = 0x62 ∧ (waits 0x62#8 22).rpq.queue.length + 10 ≤ 32
      ∧ requestOf (payloadOf 0x62#8) = some .gridRead)
    ∧ requestOf (payloadOf 0x63#8) = none
    ∧ ((asks .cancel (waits 0x21#8 0)).rqh.inProgress ≠ none ∧ fresh.rqh.intake = []
      ∧ { waits 0x21#8 0 with rqh := { (waits 0x21#8 0).rqh with stopped := true } }.rqh.stopped = true)
    ∧ 32 < (waits 0x21#8 32).rpq.queue.length + 1 ∧ 32 < (waits 0x62#8 23).rpq.queue.length + 10 := by decide +kernel

theorem witness_ResetStopsIntakeAndMaskReplacesTheClassSet :
    (asks .reset fresh).asking 7#8 .reset 1 ∧ { fresh with rqh := { Rqh.reset with stopped := true } }.rqh.stopped = true
    ∧ ((asks (.setEventMask 255 2) fresh).asking 7#8 (.setEventMask 255 2) 1 ∧ 1 < 2)
    ∧ (asks (.setEventMask 5 1) fresh).asking 7#8 (.setEventMask 5 1) 1 ∧ 1 ≤ 1 := by
  unfold State.asking; decide

theorem witness_ReadTableReturnsTheRecordsOfItsTable :
    ((asks (.readTable 16 0 1) fresh).asking 7#8 (.readTable 16 0 1) 1 ∧ fresh.records 16 = none)
    ∧ ((asks (.readTable 1 0 0) fresh).asking 7#8 (.readTable 1 0 0) 1 ∧ (0 = 0 ∨ 512 < 0))
    ∧ ((asks (.readTable 1 0 513) fresh).asking 7#8 (.readTable 1 0 513) 1 ∧ 512 < 513)
    ∧ ∀ count, count = 1 ∨ count = 512 →
      (asks (.readTable 1 2 count) fresh).asking 7#8 (.readTable 1 2 count) 1
      ∧ (∃ records, (asks (.readTable 1 2 count) fresh).records 1 = some records) ∧ 1 ≤ count ∧ count ≤ 512 := by
  refine ⟨⟨⟨rfl, rfl⟩, rfl⟩, ⟨⟨rfl, rfl⟩, .inl rfl⟩, ⟨⟨rfl, rfl⟩, by decide⟩, ?_⟩
  rintro _ (rfl | rfl) <;> exact ⟨⟨rfl, rfl⟩, ⟨_, rfl⟩, by decide, by decide⟩

theorem witness_WarmResetKeepsTheRetainedStoreAndResetLeavesTheSixFixedRoutes :
    (∃ t, exec .coldStart fresh = .next t) ∧ (∃ t, exec (.warmReset .power) fresh = .next t)
    ∧ (fresh.running = true ∧ ∃ t, exec (.warmReset .pin) fresh = .next t)
    ∧ (let s := queued [.reply 1#8 7#8 .ok false false []] { fresh with rqh := { Rqh.reset with stopped := true } }
       s.running = true ∧ resetReplyNext s = true ∧ ∃ t, exec (.warmReset .request) s = .next t) :=
  ⟨⟨_, rfl⟩, ⟨_, rfl⟩, ⟨rfl, _, rfl⟩, rfl, rfl, _, rfl⟩

theorem witness_ColdStartSetsEverythingAndPinAndSupplyHoldThePart :
    { fresh with power := { powered := false, pinLow := false } }.power.powered = false
    ∧ { fresh with power := { powered := true, pinLow := true } }.power.pinLow = true := ⟨rfl, rfl⟩

theorem witness_ThirdSyncByteAtCellSpacingLocksThePort :
    let taken := syncByte :: List.replicate 159 0#8 ++ syncByte :: List.replicate 159 0#8
    (let s := onPortA .verify 0 taken
     s.running = true ∧ s.cin.serial .a = some s.cin.a ∧ s.cin.a.sync = .verify ∧ s.cin.a.taken.length = 320
      ∧ s.cin.a.taken[0]? = some syncByte ∧ s.cin.a.taken[160]? = some syncByte)
    ∧ (let s := onPortA .hunt 0 []
       s.cin.serial .a = some s.cin.a ∧ s.cin.a.sync = .hunt ∧ s.cin.a.taken = [])
    ∧ (let s := onPortA .locked 0 []
       s.cin.serial .a = some s.cin.a ∧ s.cin.a.sync = .locked) := by decide +kernel

/-- So many bytes from a candidate on, with a sync byte 160 bytes after it. -/
def candidate (n : Nat) : List Byte :=
  (syncByte :: List.replicate 159 0#8 ++ syncByte :: List.replicate 159 0#8).take n

theorem witness_ThirdSyncByteAtCellSpacingLocksThePort_verify :
    (∀ n ∈ [1, 159, 160, 161, 319, 320],
      let s := onPortA .verify 0 (candidate n)
      s.running = true ∧ s.cin.serial .a = some s.cin.a ∧ s.cin.a.sync = .verify ∧ s.cin.a.taken[0]? = some syncByte
        ∧ s.cin.a.taken.length = n ∧ (160 < n → s.cin.a.taken[160]? = some syncByte))
    ∧ (0#8 ≠ syncByte ∧ ∀ j < 160, ((candidate 160).drop 1 ++ [0#8])[j]? ≠ some syncByte)
    ∧ ((candidate 320).drop 1 ++ [0#8])[159]? = some syncByte := by decide +kernel

theorem witness_ThirdFailedCellInARowLosesSync :
    let cell := List.replicate 160 0#8
    ∀ failures, failures = 1 ∨ failures = 2 →
      let s := onPortA .locked failures []
      s.running = true ∧ s.cin.serial .a = some s.cin.a ∧ s.cin.a.sync = .locked
        ∧ (s.cin.a.taken ++ cell).length = 160 ∧ (s.cin.a.taken ++ cell)[0]? ≠ some syncByte
        ∧ s.cin.a.failures = failures := by
  rintro _ _ (rfl | rfl) <;> decide +kernel

/-- A part that passes stream 100 of a locked Port A on. -/
def passing : State :=
  let s := onPortA .locked 0 []
  { s with routes := s.routes.set 6 (some (.fresh .a 100 .pass .live .host .none)) }

theorem witness_PassCellsGoToTheDataLaneUnchanged :
    (passing.running = true ∧ passing.cin.serial .a = some passing.cin.a ∧ passing.cin.a.sync = .locked
      ∧ passing.cin.a.taken = [] ∧ passing.cin.a.idle = false)
    ∧ ((cellOn 100#12).payload.length = 156 ∧ (cellOn 100#12).sync = syncByte ∧ (cellOn 100#12).parity ≠ .reserved
      ∧ (∀ r ∈ passing.routes.filterMap id, ¬ (r.port = .a ∧ r.stream = 100 ∧ r.state = .armed))
      ∧ RouteTable.find passing.routes (Route.isAt .a 100 .live) = some 6
      ∧ passing.routes[6]? = some (some (.fresh .a 100 .pass .live .host .none)))
    ∧ (∀ r ∈ passing.routes.filterMap id, ¬ (r.port = .a ∧ r.stream = (cellOn 101#12).stream.toNat))
    ∧ ({ cellOn 100#12 with parity := .reserved }.parity = .reserved ∧ (cellOn 4095#12).parity ≠ .reserved
      ∧ (cellOn 4095#12).stream = 4095#12)
    ∧ ∀ use ∈ [RouteUse.sections [.map], .video, .audio],
      let s := { passing with routes := passing.routes.set 7 (some (.fresh .a 100 use .armed .change .none)) }
      RouteTable.find s.routes (Route.isAt .a 100 .live) = some 6 ∧ RouteTable.find s.routes (Route.isAt .a 100 .armed) = some 7
        ∧ s.routes[7]? = some (some (.fresh .a 100 use .armed .change .none)) ∧ s.routes.length = 24
        ∧ (∀ j < 24, ∀ q ∈ s.routes[j]?.join, q.port = .a → q.stream = 100 → j = 6 ∨ j = 7)
        ∧ s.cce.engine ≠ .waitKey ∧ (cellOn 100#12).marker = false := by
  refine ⟨by decide, ?_, by decide, by decide, by decide⟩
  refine ⟨List.length_replicate, rfl, ?_, by decide, by decide, by decide⟩
  intro h
  cases h

theorem witness_RequestCellsJoinTheIntakeQueue :
    let full := { fresh with rqh := { Rqh.reset with intake := List.replicate 4 [] } }
    let last := { fresh with rqh := { Rqh.reset with intake := List.replicate 3 [] } }
    let c := cellOn 4080#12
    (c.payload.length = 156 ∧ c.sync = syncByte ∧ c.parity = .clear ∧ c.stream = 4080#12)
    ∧ (∀ s ∈ [full, last], RouteTable.find s.routes (Route.isAt .l 4080 .live) = some 5
      ∧ s.routes[5]? = some (some (.fixed .l 4080 .control))
      ∧ RouteTable.find s.routes (Route.isAt .l 4080 .armed) = none)
    ∧ (last.ready = true ∧ full.ready = false)
    ∧ ({ c with parity := .even }.parity ≠ .reserved ∧ { c with parity := .even }.parity ≠ .clear)
    ∧ (let spoilt := List.replicate 160 0#8
       spoilt.length = 160 ∧ spoilt[0]? ≠ some syncByte)
    ∧ ∀ cell ∈ [{ c with parity := .reserved }, cellOn 4095#12, cellOn 100#12],
      cell.toBytes.length = 160 ∧ cell.toBytes[0]? = some syncByte ∧ (Cell.ofBytes cell.toBytes).parity = cell.parity
        ∧ (Cell.ofBytes cell.toBytes).stream = cell.stream := by
  refine ⟨⟨List.length_replicate, rfl, rfl, rfl⟩, by decide, by decide, by decide, by decide +kernel, by decide +kernel⟩

/-- A locked Port A with a route of this class on stream 300 in entry 6, in this assembly state, and a section of the class
being applied while this many wait. -/
def assembles (cls : SectionClass) (asm : Assembly) (expected : Option (BitVec 4)) (waiting : Nat) : State :=
  let s := onPortA .locked 0 []
  { s with
    queues := Queues.reset.with cls (List.replicate (waiting + 1) (anySection cls))
    routes := s.routes.set 6 (some { Route.fresh .a 300 (.sections [cls]) .live .change .none with
      expected, ctx := some { Context.fresh with asm } }) }

/-- A cell on stream 300 with this payload. -/
def sectionCell (start : Bool) (parity : Parity) (payload : List Byte) : Cell :=
  { cellOn 300#12 with start, parity, payload := payload ++ List.replicate (156 - payload.length) 0#8 }

theorem witness_SectionCellsAreAssembledAndDelivered :
    let s := assembles .map .idle none 1
    let whole := framed 0x10#8 (List.replicate 8 0#8)
    let half : Assembly := .assembling .map 20 (whole.take 10)
    let screened (body : List Byte) : List Byte := framed 4#8 (body ++ List.replicate (8 - body.length) 0#8)
    (s.running = true ∧ s.cin.serial .a = some s.cin.a ∧ s.cin.a.sync = .locked ∧ s.cin.a.taken = [] ∧ s.cin.a.idle = false
      ∧ RouteTable.find s.routes (Route.isAt .a 300 .live) = some 6 ∧ RouteTable.find s.routes (Route.isAt .a 300 .armed) = none)
    ∧ (∀ start ∈ [true, false], ∀ parity ∈ [Parity.clear, .even, .odd], ∀ payload ∈ [whole, screened [3#8]],
      (sectionCell start parity payload).payload.length = 156 ∧ (sectionCell start parity payload).sync = syncByte
        ∧ (sectionCell start parity payload).parity ≠ .reserved ∧ (sectionCell start parity payload).stream = 300#12)
    ∧ (∀ asm ∈ [Assembly.idle, .skipping, half], ∀ expected ∈ [none, some 0#4, some 1#4],
      ((assembles .map asm expected 1).routes[6]?.join.bind Route.ctx).map Context.asm = some asm
        ∧ ((assembles .map asm expected 1).routes[6]?.join.bind Route.expected) = expected)
    ∧ (SectionClass.ofCode 0x10 = some .map ∧ SectionClass.ofCode 0x12 ≠ some .map ∧ fieldAt whole 1 2 / 16 = 20
      ∧ fieldAt [0x10#8, 0#8, 0xB0#8] 1 2 / 16 < 12)
    ∧ (byteAt (screened [3#8]) 8 = 3#8 ∧ byteAt (screened [4#8]) 8 ∉ [1#8, 2#8, 3#8])
    ∧ (buffersInUse s.routes s.queues < 16 ∧ 16 ≤ buffersInUse (assembles .map .idle none 15).routes (assembles .map .idle none 15).queues)
    ∧ (crcAgrees whole = true ∧ crcAgrees (whole.set 8 1#8) = false ∧ whole.length = 20 ∧ (whole.take 10).length ≠ 20)
    ∧ (SectionClass.map.limit < ((assembles .map .idle none (SectionClass.map.limit)).queues.of .map).length
      ∧ ((assembles .map .idle none (SectionClass.map.limit - 1)).queues.of .map).length ≤ SectionClass.map.limit) := by
  decide +kernel

theorem witness_LocalWatchesReportIdleAndHoldover :
    (let s := atLocal 200#32 (onPortA .locked 0 [])
     s.running = true ∧ s.cin.serial .a = some s.cin.a ∧ s.cin.a.sync = .locked ∧ s.cin.a.idleSince = some 0#32
      ∧ 200 ≤ (s.tmb.localTime - 0#32).toNat)
    ∧ ∀ recovery, recovery = .acquire ∨ recovery = .locked →
      let s := { fresh with tmb := { Tmb.reset with localTime := 2000#32, recovery, lastStamp := some 0#32 } }
      s.running = true ∧ s.tmb.recovery = recovery ∧ s.tmb.lastStamp = some 0#32
        ∧ 2000 ≤ (s.tmb.localTime - 0#32).toNat := by
  refine ⟨by decide, ?_⟩
  rintro _ (rfl | rfl) <;> decide

/-- A valid wall at 1,000,000 and N_s at 2^33 with NT this far past it. -/
def walledAt (w : Nat) (d : Int) : State :=
  { fresh with tmb := { Tmb.reset with
    wallValid := true, w, ns := 8589934592#40, nt := 8589934592#40 + BitVec.ofInt 40 d } }

theorem witness_SecondAdvanceMovesTheWallByWholeSeconds :
    let d (s : State) := (s.tmb.nt - s.tmb.ns).toInt
    ((walledAt 1000000 8000000).running = true ∧ (walledAt 1000000 8000000).tmb.wallValid = true
      ∧ 8000000 ≤ d (walledAt 1000000 8000000))
    ∧ (d (walledAt 1000000 (-2400000001)) < -2400000000
      ∧ 0 ≤ ((walledAt 301 (-2400000001)).tmb.w : Int) + d (walledAt 301 (-2400000001)) / 8000000)
    ∧ ((walledAt 300 (-2400000001)).tmb.w : Int) + d (walledAt 300 (-2400000001)) / 8000000 < 0
    ∧ (-2400000000 ≤ d (walledAt 300 (-2400000000)) ∧ d (walledAt 300 7999999) < 8000000)
    ∧ fresh.tmb.wallValid = false := by decide

/-- A locked Port B. -/
def onPortB : State := { fresh with cin := { fresh.cin with b := (onPortA .locked 0 []).cin.a } }

theorem witness_StampsLoadCorrectOrStepNetworkTime :
    let e (stamp : NetTime) := (stamp - (lockedAt 0#40 0).nt).toInt
    (∀ recovery ∈ [Recovery.free, .acquire, .locked, .holdover], ∀ good ∈ [1, 2],
      let t : Tmb := { lockedAt 0#40 0 with recovery, good }
      t.recovery = recovery ∧ t.good = good ∧ t.nt = 0#40)
    ∧ ((e 400#40).natAbs ≤ 400 ∧ 400 < (e 401#40).natAbs ∧ (e 12000#40).natAbs ≤ 12000 ∧ 12000 < (e 12001#40).natAbs)
    ∧ (onPortB.running = true ∧ onPortB.cin.serial .b = some onPortB.cin.b ∧ onPortB.cin.b.sync = .locked
      ∧ onPortB.cin.b.taken = [] ∧ onPortB.cin.b.idle = false
      ∧ RouteTable.find onPortB.routes (Route.isAt .b 4064 .live) = some 0
      ∧ RouteTable.find onPortB.routes (Route.isAt .b 4064 .armed) = none
      ∧ onPortB.routes[0]? = some (some (.fixed .b 4064 .stamps)))
    ∧ ((cellOn 4064#12).payload.length = 156 ∧ (cellOn 4064#12).sync = syncByte ∧ (cellOn 4064#12).parity = .clear) := by
  decide +kernel

/-- A TIME section of W_0 = 1,000,050 and N_0 = 4,600,000,000, with this offset. -/
def timeSection (offset : Int) : Section :=
  { port := .b, stream := 4065, cls := .time, total := 0, version := 0, key := 0, bits := 0
    body := beBytes 4 1000050 ++ beBytes 5 4600000000 ++ beBytesInt 2 offset ++ beBytes 7 0 }

/-- A part with this section waiting and these recovery state and offset. -/
def timed (recovery : Recovery) (offset : Int) (x : Section) : State :=
  { fresh with tmb := { anchored.tmb with recovery, offset, wallValid := false }
               queues := { Queues.reset with time := [x] } }

/-- A part with a valid wall at W, its NT on the anchor of `timeSection`, with this next change in the section. -/
def retimed (w : Nat) (next : List Byte) : State :=
  { fresh with
    tmb := { Tmb.reset with recovery := .locked, wallValid := true, w, nt := 4600000000#40, ns := 4600000000#40 }
    queues := { Queues.reset with time := [{ timeSection 60 with
      body := beBytes 4 1000050 ++ beBytes 5 4600000000 ++ beBytesInt 2 60 ++ next }] } }

/-- A LOCKED part at this NT with a TIME section of W_0 and N_0 = 8,000,000, with this offset and this next change. -/
def anchoredAt (nt : NetTime) (w0 : Nat) (offset : Int) (next : List Byte) : State :=
  { fresh with
    tmb := { Tmb.reset with recovery := .locked, nt }
    queues := { Queues.reset with time := [{ timeSection 0 with
      body := beBytes 4 w0 ++ beBytes 5 8000000 ++ beBytesInt 2 offset ++ next }] } }

/-- The anchor's second, brought to the present NT. -/
def broughtTo (s : State) : Int :=
  let body := (s.queues.time.map Section.body).headD []
  (fieldAt body 0 4 : Int) + (s.tmb.nt - BitVec.ofNat 40 (fieldAt body 4 5)).toInt / 8000000

theorem witness_TimeSectionsSetOrRealignTheWallAndKeepTheOffset :
    (∀ w ∈ [932050, 1000049, 1000050, 1000350, 1000351, 1068050], ∀ last ∈ [none, some (1000050, (120 : Int)), some (1100000, 120)],
      let s := retimed w (match last with
        | none => beBytes 7 0
        | some (time, offset) => 1#8 :: beBytes 4 time ++ beBytesInt 2 offset)
      s.running = true ∧ s.tmb.recovery ≠ .free ∧ s.tmb.wallValid = true ∧ s.tmb.w = w ∧ broughtTo s = 1000050
        ∧ s.queues.time.map (fun x => (x.body.length, fieldAt x.body 9 2)) = [(18, 60)]
        ∧ s.queues.time.map (fun x => (byteAt x.body 11).getLsbD 0) = [last.isSome])
    ∧ (timed .free 0 (timeSection 0)).tmb.recovery = .free ∧ ((timeSection 0).body.take 17).length < 18 := by
  decide +kernel

/-- Anchors on both sides of each limit of R48. -/
theorem witness_TimeSectionsSetOrRealignTheWallAndKeepTheOffset_range :
    ∀ x ∈ [(7999999#40, 0, (-1 : Int)), (8000000#40, 0, 0), (8000000#40, 4294967295, 4294967295), (16000000#40, 4294967295, 4294967296)],
      let s := anchoredAt x.1 x.2.1 0 (beBytes 7 0)
      s.running = true ∧ s.queues.time.length = 1 ∧ s.tmb.recovery ≠ .free ∧ s.tmb.wallValid = false
        ∧ broughtTo s = x.2.2 ∧ s.queues.time.map (fun x => x.body.length) = [18] := by decide +kernel

/-- Offsets on both sides of each limit of R48. -/
theorem witness_TimeSectionsSetOrRealignTheWallAndKeepTheOffset_offsets :
    ∀ x ∈ [((-721 : Int), 64815), (-720, 64816), (840, 840), (841, 841)], ∀ y ∈ [((-721 : Int), 64815), (-720, 64816), (840, 840), (841, 841)],
      let s := anchoredAt 8000000#40 1 x.1 (1#8 :: beBytes 4 9 ++ beBytesInt 2 y.1)
      s.queues.time.map (fun z => (fieldAt z.body 9 2, fieldAt z.body 16 2)) = [(x.2, y.2)] := by decide +kernel

/-- A wall at 1,000,000 with this pending change and a firing of OFFSET_CHANGE. -/
def offsetDue (change : Option (Nat × Int)) : State :=
  let s := given (.firing .offsetChange 1000000 none none) (walled 1000000 0 fresh)
  { s with tmb := { s.tmb with pendingChange := change } }

theorem witness_OffsetChangeFiringAppliesADueChange :
    ∀ change ∈ [none, some (1000000, 60), some (1000001, 60)],
      (offsetDue change).offered (.firing .offsetChange 1000000 none none)
      ∧ (offsetDue change).tmb.pendingChange = change ∧ (offsetDue change).tmb.w = 1000000 := by
  unfold State.offered; decide

/-- The schedule of section 4.8 meets its invariant. -/
theorem scheduled_ok : scheduled.ScheduleOk := by
  refine ⟨by decide, by decide, by decide, ?_⟩
  intro k
  cases k <;> decide

/-- A pass to the last wall second, repeated, over a repeating reminder with no due point left. -/
def lastPass : State :=
  let s := given (.advance 4294967295) (walled 4294967295 0 fresh)
  { s with scp := { s.scp with target := [reminder 9 4294967290 60 none], lastPass := some 4294967295 } }

/-- The schedule of section 4.8 at its local midnight: every device entry is due. -/
def rolling : State := given (.advance 1054800) (walled 1054800 (-300) scheduled)

theorem witness_AFiringPassFiresWhatIsDueAndLeavesTheRest :
    (scheduled.ScheduleOk ∧ scheduled.offered (.advance 1000100) ∧ scheduled.scp.hold = false
      ∧ { scheduled with scp := { scheduled.scp with hold := true } }.scp.hold = true)
    ∧ (let due := scheduled.scp.target.filter fun e => decide (e.due ≤ 1000100) && !e.isHeld
       reminder 9 1000010 60 none ∈ due ∧ reminder 7 1000030 0 (some (201, 4410)) ∈ due
        ∧ ∃ e ∈ scheduled.scp.target, 1000100 < e.due)
    ∧ (lastPass.offered (.advance 4294967295) ∧ 4294967295 < 4294967290 + (5 / 60 + 1) * 60
      ∧ lastPass.scp.lastPass = some 4294967295)
    ∧ (rolling.ScheduleOk ∧ rolling.offered (.advance 1054800) ∧ rolling.tmb.wallValid = true
      ∧ (∀ k ∈ [DeviceKind.eventEnd, .entExpiry, .dayRoll], ∃ e ∈ rolling.scp.target, e.kind = .device k ∧ e.due ≤ 1054800)
      ∧ rolling.scp.lastMinute ≠ some rolling.tmb.minute ∧ rolling.scp.lastPass = none)
    ∧ (let same := { rolling with scp := { rolling.scp with lastMinute := some rolling.tmb.minute } }
       same.ScheduleOk ∧ same.offered (.advance 1054800) ∧ same.scp.lastMinute = some same.tmb.minute) := by
  refine ⟨⟨scheduled_ok, ⟨rfl, rfl⟩, rfl, rfl⟩, by decide, ⟨⟨rfl, rfl⟩, by decide, rfl⟩,
    ⟨scheduled_ok, ⟨rfl, rfl⟩, rfl, by decide, by decide, rfl⟩, scheduled_ok, ⟨rfl, rfl⟩, rfl⟩

theorem witness_TheScpKeepsDayRollAndHandsOnTheWindows :
    (∀ h ∈ [Handover.wallSet .scp, .offsetChange .scp, .profileChange, .rewind .scp],
      (given h scheduled).offered h ∧ (given h scheduled).tmb.wallValid = true
        ∧ (given h fresh).offered h ∧ (given h fresh).tmb.wallValid = false)
    ∧ (let s := given (.rewind .scp) scheduled
       s.scp.lastMinute ≠ some s.tmb.minute
        ∧ some s.tmb.minute = { s with scp := { s.scp with lastMinute := some s.tmb.minute } }.scp.lastMinute) := by
  unfold State.offered; decide

/-- A part that asks for this reminder of id 9, its wall at 1,000,100. -/
def reminds (due period service presence : Nat) (s : State) : State :=
  asks (.addReminder 9 due period service 0 presence) (walled 1000100 0 s)

/-- Reminders marked due-held, a one-shot and a repeating one, and one to come. -/
def marked : List Entry :=
  let held (id due period : Nat) : Entry := { kind := .reminder id period true, due, service := none, event := none }
  [held 7 1000000 0, held 9 1000010 60, reminder 8 4000000000 0 none]

/-- A part under the hold with them; at the last wall second the repeating one has no due point left. -/
def heldBack (w : Nat) : State :=
  let s := walled w 0 fresh
  { s with scp := { s.scp with hold := true, target := marked } }

theorem heldBack_ok (w : Nat) : (heldBack w).ScheduleOk := by
  have h : marked.Pairwise (fun x y => x.due ≤ y.due) ∧ (marked.filterMap Entry.reminderId).Nodup
      ∧ (marked.filterMap Entry.reminderId).length ≤ 35 := by decide
  refine ⟨h.1, h.2.1, h.2.2, fun k => ?_⟩
  change marked.countP (Entry.isDevice k) ≤ 1
  cases k <;> decide

theorem witness_RemindersAreAddedDroppedHeldAndReleased :
    (∀ s ∈ [fresh, scheduled], ∀ due ∈ [1000100, 1000101], ∀ period ∈ [0, 59, 60, 604800, 604801], ∀ presence ∈ [0, 1, 2],
      (reminds due period 1 presence s).asking 7#8 (.addReminder 9 due period 1 0 presence) 1)
    ∧ (reminds 1000101 0 1 0 fresh).tmb.wallValid = true ∧ (asks (.addReminder 9 1 0 1 0 0) fresh).tmb.wallValid = false
    ∧ (∃ e ∈ scheduled.scp.target, e.reminderId = some 9) ∧ (∀ e ∈ fresh.scp.target, e.reminderId ≠ some 9)
    ∧ fresh.scp.reminders.length < 35
    ∧ (let full := (List.range 35).map fun k => reminder (k + 100) 2000000 0 none
       { fresh with scp := { Scp.reset with target := full } }.scp.reminders.length = 35)
    ∧ (asks (.dropReminder 9) scheduled).asking 7#8 (.dropReminder 9) 1
    ∧ (asks .holdReminders fresh).asking 7#8 .holdReminders 1
    ∧ (asks .releaseReminders scheduled).asking 7#8 .releaseReminders 1 ∧ scheduled.scp.hold = false
    ∧ ∀ w ∈ [1000140, 4294967295], (asks .releaseReminders (heldBack w)).ScheduleOk
      ∧ (asks .releaseReminders (heldBack w)).asking 7#8 .releaseReminders 1 ∧ (heldBack w).scp.hold = true
      ∧ (heldBack w).scp.target.filter Entry.isHeld ≠ [] := by
  refine ⟨?_, by decide, by decide, by decide, by decide, by decide, by decide, ⟨rfl, rfl⟩, ⟨rfl, rfl⟩, ⟨rfl, rfl⟩, rfl,
    fun w _ => ⟨heldBack_ok w, ⟨rfl, rfl⟩, rfl,
      (by decide : marked.filter Entry.isHeld ≠ [])⟩⟩
  unfold State.asking; decide

theorem witness_RangesAreSetEvaluatedAndReachTheHoursSource :
    (∀ index ∈ [0, 7, 8], ∀ profile ∈ [3, 4, 255], ∀ minute ∈ [1439, 1440],
      (asks (.setRange index profile minute minute) fresh).asking 7#8 (.setRange index profile minute minute) 1)
    ∧ fresh.scp.ranges.length = 8 ∧ fresh.tmb.wallValid = false ∧ (walled 1000100 0 fresh).tmb.wallValid = true
    ∧ (given (.windowStates [true, false, true, true]) fresh).offered (.windowStates [true, false, true, true]) := by
  unfold State.asking State.offered; decide

/-- One 30-byte directory entry of a service without tiers. -/
def entryBytes (number : Nat) : List Byte :=
  beBytes 2 number ++ beBytes 4 500000 ++ [0#8] ++ beBytes 2 100 ++ List.replicate 21 0#8

/-- A DIRECTORY section of this segment with one entry for each number. -/
def directorySection (key version : Nat) (numbers : List Nat) : Section :=
  { port := .b, stream := 4066, cls := .directory, total := 0, version, key, bits := 0
    body := BitVec.ofNat 8 numbers.length :: numbers.flatMap entryBytes }

/-- A part with version 4 of segment 15, and this section waiting. -/
def directed (x : Section) : State :=
  { grid with sdr := { grid.sdr with versions := Sdr.reset.versions.set 15 (some 4) }
              queues := { Queues.reset with directory := [x] } }

/-- A directory of this many services of segment 0, numbered from 1, and a section of segment 15 for services 1 and 300. -/
def crowded (held : Nat) : State :=
  let s := directed (directorySection 15 5 [1, 300])
  { s with sdr := { s.sdr with services := (List.range held).map fun k => gridService (k + 1) false [] } }

/-- With 255 held the new service is inserted; with 256 it is dropped and counted. -/
theorem test_a_full_directory_drops_new_services :
    (after .directorySection (crowded 255)).sdr.entriesDropped = 0
    ∧ (after .directorySection (crowded 256)).sdr.entriesDropped = 1
    ∧ (after .directorySection (crowded 256)).sdr.services.length = 256 := by decide +kernel

theorem witness_DirectorySectionsReplaceTheRecordsOfTheirSegment :
    (∀ x ∈ [directorySection 15 4 [], directorySection 15 5 [0, 9999, 10000], directorySection 16 5 []],
      (directed x).running = true ∧ (directed x).queues.directory = x :: [] ∧ (directed x).sdr.versions.length = 16
        ∧ directoryEntries x.key x.body ≠ none)
    ∧ 15 < (directorySection 16 5 []).key ∧ directoryEntries 0 [1#8] = none
    ∧ (directed (directorySection 15 4 [])).sdr.versions[15]? = some (some 4)
    ∧ (directed (directorySection 15 5 [])).sdr.versions[15]? ≠ some (some 5) := by
  decide

/-- A directory of up to 256 of them meets its invariant, holds service 1 and not 300, and none of its records are of segment 15. -/
theorem witness_DirectorySectionsReplaceTheRecordsOfTheirSegment_full (held : Nat) (h : 1 ≤ held) (h' : held ≤ 256) :
    (crowded held).DirectoryOk ∧ (crowded held).running = true
      ∧ (crowded held).queues.directory = directorySection 15 5 [1, 300] :: []
      ∧ (crowded held).sdr.services.length = held ∧ (∀ r ∈ (crowded held).sdr.services, r.segment ≠ 15 ∧ r.number ≠ 300)
      ∧ ∃ r ∈ (crowded held).sdr.services, r.number = 1 := by
  have at_ : ∀ r ∈ (crowded held).sdr.services, ∃ k < held, gridService (k + 1) false [] = r := by
    intro r hr
    obtain ⟨k, hk, rfl⟩ := List.mem_map.mp hr
    exact ⟨k, List.mem_range.mp hk, rfl⟩
  refine ⟨⟨?_, ?_, ?_, rfl⟩, rfl, rfl, by simp [crowded], ?_, gridService 1 false [], ?_, rfl⟩
  · simpa [crowded] using h'
  · exact List.pairwise_map.mpr (List.pairwise_lt_range.imp fun h => by simpa [gridService] using h)
  · intro r hr
    obtain ⟨k, hk, rfl⟩ := at_ r hr
    simp only [Service.Ok, gridService]
    refine ⟨by omega, by omega, ?_⟩
    decide
  · intro r hr
    obtain ⟨k, hk, rfl⟩ := at_ r hr
    simp only [gridService]
    omega
  · exact List.mem_map.mpr ⟨0, List.mem_range.mpr h, rfl⟩

/-- A part whose directory holds service 201 on carrier 1, in this engine state with a change to 205 on its carrier. -/
def engaged (engine : Engine) (target : Nat) : State :=
  let change : Change :=
    { service := 205, frequency := target, modulation := 0, mapStream := 1, audio := none, phaseStart := 0#32
      tuningTarget := target, readyMark := false, lockMark := false, map := none, parity := none }
  { grid with cce := { Cce.reset with engine, change := if engine = .idle then none else some change } }

/-- The change in progress of an engaged part. -/
def changeOf (s : State) : Change := s.cce.change.getD
  { service := 0, frequency := 0, modulation := 0, mapStream := 0, audio := none, phaseStart := 0#32, tuningTarget := 0
    readyMark := false, lockMark := false, map := none, parity := none }

theorem witness_TuneStartsAChangeByTheCarrierOfItsTarget :
    let none3 := Lang.zero
    (∀ service ∈ [0, 1, 9999, 10000], ∀ s ∈ [grid, engaged .tuning 1, engaged .tuning 2, engaged .waitSplice 1],
      (asks (.tune service none3) s).asking 7#8 (.tune service none3) 1)
    ∧ grid.sdr.find 201 = some (gridService 201 false []) ∧ grid.sdr.find 1 = none
    ∧ (grid.cce.standby = false ∧ { grid with cce := { Cce.reset with standby := true } }.cce.standby = true)
    ∧ { grid with cce := { Cce.reset with tuned := some 1 } }.cce.tuned = some (gridService 201 false []).frequency
    ∧ grid.cce.tuned ≠ some (gridService 201 false []).frequency
    ∧ (∀ target ∈ [1, 2], (engaged .tuning target).cce.change = some (changeOf (engaged .tuning target))
      ∧ (changeOf (engaged .tuning target)).tuningTarget = target) := by
  unfold State.asking; decide

theorem witness_TuningEndsWhenTunerAndPortAAreBothReady :
    let s := engaged .tuning 1
    let c := changeOf s
    let marked (inFlight : List Handover) (sync : SyncState) : State :=
      { asks (.tunerReady 1) s with
        cce := { s.cce with change := some { c with lockMark := true } }, cin := (onPortA sync 0 []).cin, inFlight }
    (∀ f ∈ [1, 2], (asks (.tunerReady f) s).asking 7#8 (.tunerReady f) 1)
    ∧ (s.cce.engine = .tuning ∧ s.cce.change = some c ∧ c.tuningTarget = 1 ∧ c.lockMark = false ∧ c.readyMark = false)
    ∧ ({ c with lockMark := true }.lockMark = true ∧ { c with readyMark := true }.readyMark = true)
    ∧ (∀ h ∈ [[], [Handover.portAHunt]], ∀ sync ∈ [SyncState.locked, .hunt], (marked h sync).asking 7#8 (.tunerReady 1) 1
      ∧ (marked h sync).cce.engine = .tuning ∧ (marked h sync).cin.a.sync = sync ∧ (Handover.portAHunt ∈ (marked h sync).inFlight ↔ h ≠ []))
    ∧ (∀ h ∈ [Handover.portALock, .portAHunt], (given h s).offered h ∧ (given h fresh).offered h)
    ∧ fresh.cce.engine ≠ .tuning := by unfold State.asking State.offered; decide

theorem witness_ChangesFailTimeOutOrAreCancelled :
    (∀ e ∈ [Engine.tuning, .waitMap, .waitKey, .waitSplice],
      (engaged e 1).running = true ∧ (engaged e 1).cce.pendingTune = none ∧ (engaged e 1).cce.engine = e
        ∧ (engaged e 1).cce.change = some (changeOf (engaged e 1)))
    ∧ (∀ f ∈ [1, 2], (asks (.tunerFail f) (engaged .tuning 1)).asking 7#8 (.tunerFail f) 1)
    ∧ (∀ e ∈ [Engine.idle, .tuning, .waitMap, .waitKey, .waitSplice], (asks .cancel (engaged e 1)).asking 7#8 .cancel 1)
    ∧ (1500 ≤ ((atLocal 1500#32 (engaged .tuning 1)).tmb.localTime - 0#32).toNat
      ∧ ((atLocal 1499#32 (engaged .tuning 1)).tmb.localTime - 0#32).toNat < 1500)
    ∧ 800 ≤ ((atLocal 800#32 (engaged .waitMap 1)).tmb.localTime - 0#32).toNat
      ∧ ((atLocal 799#32 (engaged .waitMap 1)).tmb.localTime - 0#32).toNat < 800 := by
  unfold State.asking; decide

/-- A MAP body of a VIDEO component on stream 100 and an AUDIO one on 101, with this key stream field. -/
def mapBytes (key : List Byte) : List Byte :=
  2#8 :: key ++ [0#8, 100#8, 1#8, 0#8, 0#8, 0#8] ++ [0#8, 101#8, 2#8, 0x65#8, 0x6E#8, 0x67#8]

/-- A MAP section of service 205. -/
def mapSection (version : Nat) (body : List Byte) : Section :=
  { port := .a, stream := 1, cls := .map, total := 0, version, key := 205, bits := 0, body }

/-- The map that it gives. -/
def mapOf (version : Nat) (keyStream : Option Nat) : ProgMap :=
  { version, keyStream, components :=
      [{ stream := 100, kind := .video, lang := none }, { stream := 101, kind := .audio, lang := some ⟨0x65#8, 0x6E#8, 0x67#8⟩ }] }

/-- A part that presents service 205 with version 1 of that map. -/
def presents : State :=
  let p : Presentation :=
    { service := 205, frequency := 1, mapStream := 1, map := mapOf 1 none, audio := none, since := 0#32, forced := false
      live := { video := some 100, audio := some 101, data := none } }
  { grid with cce := { Cce.reset with tuned := some 1, presented := some p } }

/-- A part with this MAP section waiting. -/
def mapped (x : Section) (s : State) : State := { s with queues := { Queues.reset with map := [x] } }

/-- A MAP body of components given by stream and kind, in the clear; an AUDIO one has its language. -/
def mapFor (components : List (Byte × Byte)) : List Byte :=
  [BitVec.ofNat 8 components.length, 0#8, 0#8] ++ components.flatMap fun c =>
    [0#8, c.1, c.2] ++ if c.2 = 2#8 then [0x65#8, 0x6E#8, 0x67#8] else [0#8, 0#8, 0#8]

/-- A presenting part with the LIVE routes of its lanes. -/
def shown : State :=
  { presents with routes := fillFree [.fresh .a 100 .video .live .change .none, .fresh .a 101 .audio .live .change .none] routesReset }

/-- A part in WAIT_MAP, its map route alone ARMED. -/
def awaits : State :=
  let s := engaged .waitMap 1
  { s with routes := routesReset.set 6 (some (.fresh .a 1 (.sections [.map, .rating]) .armed .change .none)) }

theorem witness_MapSectionsArmTheChangeOrUpdateThePresentation :
    let clear := [0#8, 0#8]
    let keyed := [0x81#8, 0x4A#8]
    let lanes : LaneStreams := { video := some 100, audio := some 101, data := none }
    (let s := mapped (mapSection 2 (mapBytes clear)) (engaged .waitMap 1)
     s.running = true ∧ s.cce.engine = .waitMap ∧ s.cce.change = some (changeOf s) ∧ s.cce.pendingTune = none
      ∧ (changeOf s).mapStream = 1 ∧ (changeOf s).service = 205
      ∧ (armedTable (mapOf 2 none) lanes s.routes).isSome = true
      ∧ armedTable (mapOf 2 none) lanes (List.replicate 24 (some (.fresh .a 9 .video .live .change .none))) = none)
    ∧ mapBody 2 [9#8] = none ∧ mapBody 2 (mapBytes clear) = some (mapOf 2 none)
    ∧ mapBody 2 (mapBytes keyed) = some (mapOf 2 (some 330))
    ∧ (let s := mapped (mapSection 2 (mapBytes clear)) presents
       s.running = true ∧ s.cce.engine ≠ .waitMap ∧ s.cce.presented = presents.cce.presented ∧ 2 ≠ (mapOf 1 none).version
        ∧ RouteTable.displaced s.routes = [])
    ∧ fresh.cce.change = none ∧ fresh.cce.presented = none
    ∧ (awaits.routes.countP (fun e => e.any fun r => r.state == .armed) = 1
      ∧ (∀ e ∈ awaits.routes, ∀ r ∈ e, r.state = .armed → r = .fresh .a 1 (.sections [.map, .rating]) .armed .change .none)
      ∧ awaits.routes.countP (fun e => e.any fun r => r.owner == .change) ≤ 6 ∧ 4 ≤ awaits.routes.countP Option.isNone)
    ∧ ((mapBody 2 (mapFor [(1#8, 1#8)])).map (fun m => m.components.map Component.stream) = some [1]
      ∧ (mapBody 2 (mapFor [(100#8, 1#8), (100#8, 2#8)])).map (fun m => m.components.map Component.stream) = some [100, 100])
    ∧ ((mapBody 2 (mapFor [(101#8, 2#8)])).bind fun m => armedTable m { lanes with video := none } awaits.routes).any
        (fun t => t.all fun e => e.all fun r => r.use != .video) = true
    ∧ (let s := mapped (mapSection 2 (mapFor [(102#8, 1#8), (101#8, 2#8)])) shown
       s.running = true ∧ s.cce.engine ≠ .waitMap ∧ s.cce.presented = presents.cce.presented
        ∧ (mapBody 2 (mapFor [(102#8, 1#8), (101#8, 2#8)])).isSome = true
        ∧ (mapBody 2 (mapFor [(101#8, 1#8)])).isSome = true
        ∧ (∀ e ∈ s.routes, ∀ r ∈ e, r.stream ≠ 102) ∧ (∃ e ∈ s.routes, ∃ r ∈ e, r.stream = 101 ∧ r.state = .live)
        ∧ s.routes.countP (fun e => e.any fun r => r.owner == .change) ≤ 10)
    ∧ (let c := { changeOf (engaged .waitMap 1) with service := 212, mapStream := 2 }
       let s := mapped (mapSection 2 (mapBytes clear)) { shown with cce := { shown.cce with engine := .waitMap, change := some c } }
       s.cce.engine = .waitMap ∧ s.cce.change = some c ∧ ¬ (1 = c.mapStream ∧ 205 = c.service)
        ∧ s.cce.presented = presents.cce.presented ∧ RouteTable.displaced s.routes = []) := by decide

/-- A part whose change has armed its map with a key stream, with these verdict and even word. -/
def armed (engine : Engine) (verdict : Verdict) (even : Option ControlWord) : State :=
  let s := engaged engine 1
  let c := { changeOf s with map := some (mapOf 2 (some 330)), parity := some .even }
  let key := { KeyRecord.claim 205 330 with verdict, even }
  let lanes : LaneStreams := { video := some 100, audio := some 101, data := none }
  { s with cce := { s.cce with change := some c }, dsc := { s.dsc with arming := some key }
           routes := (armedTable (mapOf 2 (some 330)) lanes routesReset).getD [] }

/-- A locked Port A with the LIVE VIDEO route of stream 100 in entry 6 in this binding, and an ACTIVE record with this even
word. -/
def presenting (binding : Binding) (even : Option ControlWord) : State :=
  let s := onPortA .locked 0 []
  { s with
    routes := s.routes.set 6 (some (.fresh .a 100 .video .live .change binding))
    dsc := { Dsc.reset with active := some { KeyRecord.claim 205 330 with verdict := .entitled, even } } }

/-- A cell on stream 100 that can be a splice point, in this parity. -/
def markerCell (parity : Parity) : Cell := { cellOn 100#12 with marker := true, parity }

/-- An armed part whose Port A is locked. -/
def watches (engine : Engine) (verdict : Verdict) (even : Option ControlWord) : State :=
  { armed engine verdict even with cin := (onPortA .locked 0 []).cin }

/-- A watching part without its ARMED VIDEO route. -/
def listens (engine : Engine) (verdict : Verdict) (even : Option ControlWord) : State :=
  let s := watches engine verdict even
  { s with routes := s.routes.map fun e => e.filter fun r => r.use != .video }

/-- A watching part with a LIVE route of this use on the stream of the ARMED VIDEO route. -/
def watchesTwice (engine : Engine) (use : RouteUse) : State :=
  let s := watches engine .entitled (some 5#128)
  { s with routes := s.routes.set 20 (some (.fresh .a 100 use .live (if use = .pass then .host else .change) .none)) }

/-- A part that presents 205 with NO_KEY set at its BLOCKED gate, HOST_MUTE beside it or not, and the even slot VALID. -/
def blanking (hostMute : Bool) : State :=
  let s := presenting .active (some 5#128)
  { s with
    dsc := { s.dsc with noKey := true }
    pgt := { Pgt.reset with presented := some 205, sources := { Pgt.reset.sources with noKey := true, hostMute } }
    rpq := { Rpq.reset with enabled := true, classes := [.gate] } }

/-- The cell that clears a lone NO_KEY is the first one through the gate, which reports its change (R108; section 6.6, step 12); with
HOST_MUTE set too it leaves as a null cell. -/
theorem test_descrambled_cell_opens_a_gate_that_no_key_blocked :
    let cell := (markerCell .even).toBytes
    let t := after (.cellArrival .a cell) (blanking false)
    t.lanes.video.map (fun c => (c.stream, c.parity)) = [(100#12, .clear)] ∧ t.pgt.isOpen = true ∧ t.pgt.sources.noKey = false
    ∧ (events t).length = 1 ∧ t.inFlight = [.gateState true]
    ∧ (after (.cellArrival .a cell) (blanking true)).lanes.video = [nullCell] := by decide +kernel

theorem witness_EveryPresentCellLeavesOneCellThroughTheGateOrIsObserved_clears :
    ∀ hostMute ∈ [false, true], let s := blanking hostMute
      s.pgt.isOpen = false ∧ s.dsc.noKey = true ∧ s.dsc.notEntitled = false ∧ s.pgt.presented ≠ none
        ∧ s.pgt.sources.hostMute = hostMute ∧ s.pgt.sources.rating = false ∧ s.pgt.sources.locked = false
        ∧ s.pgt.sources.hours = false ∧ s.pgt.sources.budget = false ∧ s.pgt.sources.noKey = true
        ∧ (∀ h ∈ s.inFlight, h.channel ≠ .dscToPgt) ∧ (s.dsc.active.map fun k => k.slot .even) = some (some 5#128)
        ∧ (s.dsc.active.map fun k => k.slot .odd) = some none := by decide

/-- After a change to another multiplex the gate is BLOCKED with no service presented; the marker cell that splices a service in the
clear still leaves as itself, the first cell forwarded (SPEC_SECTION.md, 1.7). -/
theorem test_marker_cell_leaves_as_itself_after_a_cross_multiplex_change :
    let s := watches .waitSplice .entitled (some 5#128)
    let s := { s with pgt := { Pgt.reset with isOpen := false, presented := none } }
    s.cce.presented = none
    ∧ (after (.cellArrival .a (markerCell .clear).toBytes) s).lanes.video = [markerCell .clear]
    ∧ (after (.cellArrival .a (markerCell .clear).toBytes) s).pgt.presented = some 205 := by decide +kernel

theorem witness_EveryPresentCellLeavesOneCellThroughTheGateOrIsObserved :
    let r := Route.fresh .a 100 .video .live .change .none
    let isOpen := { fresh with pgt := { Pgt.reset with isOpen := true } }
    ((r.use = .video ∧ fresh.pgt.isOpen = false) ∧ isOpen.pgt.isOpen = true ∧ (cellOn 100#12).parity = .clear)
    ∧ (∀ parity ∈ [Parity.clear, .even, .odd], (markerCell parity).payload.length = 156 ∧ (markerCell parity).sync = syncByte
      ∧ (markerCell parity).parity ≠ .reserved ∧ (markerCell parity).stream = 100#12 ∧ (markerCell parity).start = true
      ∧ (markerCell parity).marker = true)
    ∧ (∀ (binding : Binding) (even : Option ControlWord),
      let s := presenting binding even
      s.running = true ∧ s.cin.serial .a = some s.cin.a ∧ s.cin.a.sync = .locked ∧ s.cin.a.taken = [] ∧ s.cin.a.idle = false
        ∧ s.routes[6]? = some (some (.fresh .a 100 .video .live .change binding))
        ∧ RouteTable.find s.routes (Route.isAt .a 100 .live) = some 6
        ∧ RouteTable.find s.routes (Route.isAt .a 100 .armed) = none ∧ s.dsc.active.map (fun k => k.slot .even) = some even)
    ∧ (∀ s ∈ [watches .waitKey .entitled (some 5#128), watches .waitKey .entitled none, watches .waitKey .notEntitled none,
        watches .waitSplice .entitled none],
      s.running = true ∧ s.cin.serial .a = some s.cin.a ∧ s.cin.a.sync = .locked ∧ s.cin.a.taken = [] ∧ s.cin.a.idle = false
        ∧ s.routes[6]? = some (some (.fresh .a 100 .video .armed .change .arming))
        ∧ RouteTable.find s.routes (Route.isAt .a 100 .live) = none
        ∧ RouteTable.find s.routes (Route.isAt .a 100 .armed) = some 6 ∧ s.cce.pendingTune = none
        ∧ s.cce.change = some (changeOf s) ∧ (changeOf s).map = some (mapOf 2 (some 330)))
    ∧ ((watches .waitKey .entitled none).dsc.arming.map (fun k => (k.verdict, k.slot .even)) = some (.entitled, none)
      ∧ (watches .waitSplice .entitled none).cce.engine = .waitSplice)
    ∧ (∀ s ∈ [listens .waitKey .entitled (some 5#128), listens .waitKey .entitled none, listens .waitMap .unknown none],
      s.running = true ∧ s.cin.serial .a = some s.cin.a ∧ s.cin.a.sync = .locked ∧ s.cin.a.taken = [] ∧ s.cin.a.idle = false
        ∧ s.routes[7]? = some (some (.fresh .a 101 .audio .armed .change .arming))
        ∧ RouteTable.find s.routes (Route.isAt .a 101 .live) = none
        ∧ RouteTable.find s.routes (Route.isAt .a 101 .armed) = some 7
        ∧ (∀ e ∈ s.routes, ∀ v ∈ e, ¬ (v.state = .armed ∧ v.use = .video))
        ∧ s.cce.change = some (changeOf s) ∧ (changeOf s).map = some (mapOf 2 (some 330)))
    ∧ (∀ parity ∈ [Parity.clear, .even, .odd], ({ cellOn 101#12 with parity }.stream = 101#12
      ∧ { cellOn 101#12 with parity }.parity ≠ .reserved))
    ∧ (∀ tuned ∈ [none, some 1], ∀ service ∈ [201, 202],
      let s := { watches .waitSplice .entitled none with
        cce := { (watches .waitSplice .entitled none).cce with tuned, pendingTune := some (service, none) } }
      s.cce.engine = .waitSplice ∧ s.cce.pendingTune = some (service, none) ∧ s.cce.tuned = tuned
        ∧ s.cce.change = some (changeOf s) ∧ s.routes[6]? = some (some (.fresh .a 100 .video .armed .change .arming)))
    ∧ (∀ engine ∈ [Engine.waitKey, .waitSplice, .waitMap], ∀ use ∈ [RouteUse.pass, .video],
      let s := watchesTwice engine use
      s.running = true ∧ s.cin.serial .a = some s.cin.a ∧ s.cin.a.sync = .locked ∧ s.cin.a.taken = [] ∧ s.cin.a.idle = false
        ∧ s.routes[6]? = some (some (.fresh .a 100 .video .armed .change .arming))
        ∧ RouteTable.find s.routes (Route.isAt .a 100 .live) = some 20
        ∧ RouteTable.find s.routes (Route.isAt .a 100 .armed) = some 6
        ∧ (∀ j < 24, ((s.routes[j]?).join).any (fun q => q.port == .a && q.stream == 100) = true → j = 20 ∨ j = 6)
        ∧ s.routes.length = 24 ∧ s.cce.change = some (changeOf s) ∧ (changeOf s).map = some (mapOf 2 (some 330)))
    ∧ (watches .waitSplice .entitled none).sdr.find 201 = some (gridService 201 false [])
    ∧ (gridService 201 false []).frequency = 1 ∧ (watches .waitSplice .entitled none).sdr.find 202 = none := by
  refine ⟨by decide, by decide +kernel, fun _ _ => ⟨rfl, rfl, rfl, rfl, rfl, rfl, rfl, rfl, rfl⟩, by decide +kernel, by decide,
    by decide +kernel, by decide, by decide +kernel, by decide +kernel, by decide, by decide, by decide⟩

/-- What holds of the routes of a table, entry by entry, holds of them all. -/
theorem routes_of {P : Route → Prop} {table : List (Option Route)} (h : ∀ e ∈ table, ∀ r ∈ e, P r) :
    ∀ r, some r ∈ table → P r := fun r hr => h _ hr r rfl

theorem witness_EveryStepKeepsTheRouteTableAndTheDirectoryToTheirRules :
    (let s := next .tune (asks (.tune 512 .zero) shown)
     s.RoutesOk ∧ s.EngineOk ∧ ∃ t, step s = .next t)
    ∧ (let s := next .directorySection (directed (directorySection 15 5 [9999, 0]))
       s.DirectoryOk ∧ ∃ t, step s = .next t) := by
  refine ⟨⟨⟨by decide, by decide, by decide, by decide, ?_, ?_⟩, ⟨by decide, by decide, ?_, ?_⟩, _, rfl⟩,
    ⟨by decide, by decide, by unfold Service.Ok; decide, by decide⟩, _, rfl⟩
  · exact routes_of (by unfold Route.Ok; decide)
  · refine List.Pairwise.imp (R := fun e f => ∀ r ∈ e, ∀ q ∈ f, Route.apart r q) ?_ (by unfold Route.apart; decide)
    intro e f h r q hr hq
    exact h r hr q hq
  · exact routes_of (by decide)
  · rintro p hp
    cases hp
    exact routes_of (by decide)

theorem witness_WaitKeyEndsAndForcedSplicesPresentTheService :
    (∀ s ∈ [armed .waitKey .notEntitled none, armed .waitKey .entitled (some 5#128), armed .waitKey .entitled none],
      s.running = true ∧ s.cce.change = some (changeOf s) ∧ s.cce.pendingTune = none ∧ s.cce.engine = .waitKey
        ∧ (changeOf s).parity = some .even
        ∧ s.routes.any (fun e => e.any fun r => decide (r.state = .armed ∧ r.use = .video)) = true)
    ∧ (given (.armingReport .entitled true false) (armed .waitKey .entitled (some 5#128))).offered
        (.armingReport .entitled true false)
    ∧ (armed .waitKey .entitled none).dsc.arming = some { KeyRecord.claim 205 330 with verdict := .entitled }
    ∧ (1200 ≤ (1200#32 - 0#32 : LocalTime).toNat ∧ (1199#32 - 0#32 : LocalTime).toNat < 1200)
    ∧ ((armed .waitSplice .entitled none).cce.engine = .waitSplice
      ∧ (changeOf (armed .waitSplice .entitled none)).map = some (mapOf 2 (some 330)))
    ∧ ((armed .waitSplice .entitled none).sdr.find 201 = some (gridService 201 false [])
      ∧ (armed .waitSplice .entitled none).sdr.find 202 = none
      ∧ ∀ service ∈ [201, 202], let s := armed .waitSplice .entitled none
        { s with cce := { s.cce with pendingTune := some (service, none) } }.cce.pendingTune = some (service, none))
    ∧ (∀ s ∈ [listens .waitKey .notEntitled none, listens .waitKey .entitled none],
      let s := atLocal 1200#32 (given (.armingReport .entitled true false) s)
      s.offered (.armingReport .entitled true false) ∧ s.cce.engine = .waitKey ∧ s.cce.change = some (changeOf s)
        ∧ (changeOf s).map = some (mapOf 2 (some 330)) ∧ s.dsc.arming.isSome = true
        ∧ (∀ e ∈ s.routes, ∀ r ∈ e, ¬ (r.state = .armed ∧ r.use = .video)))
    ∧ (∀ s ∈ [fresh, engaged .waitMap 1, armed .waitSplice .entitled none],
      (given (.armingReport .entitled true false) s).offered (.armingReport .entitled true false) ∧ s.cce.engine ≠ .waitKey)
    ∧ 1000 ≤ ((atLocal 1000#32 (armed .waitSplice .entitled none)).tmb.localTime - 0#32).toNat
      ∧ ((atLocal 999#32 (armed .waitSplice .entitled none)).tmb.localTime - 0#32).toNat < 1000 := by
  unfold State.offered; decide

/-- A map with a second AUDIO component, in German, on this stream. -/
def bilingual (stream : Nat) : ProgMap :=
  { version := 2, keyStream := some 330, components :=
      [{ stream := 100, kind := .video, lang := none }, { stream := 101, kind := .audio, lang := some ⟨0x65#8, 0x6E#8, 0x67#8⟩ },
        { stream, kind := .audio, lang := some ⟨0x64#8, 0x65#8, 0x75#8⟩ }] }

/-- A part whose change has armed that map. -/
def armedFor (m : ProgMap) : State :=
  let s := armed .waitKey .unknown none
  { s with cce := { s.cce with change := some { changeOf s with map := some m } } }

theorem witness_SetAudioReplacesThePreferenceAndMovesTheAudioRoute :
    let eng : Lang := ⟨0x65#8, 0x6E#8, 0x67#8⟩
    let odd : Lang := ⟨0x65#8, 0#8, 0#8⟩
    (∀ s ∈ [fresh, presents, engaged .tuning 1, engaged .waitMap 1, armed .waitKey .unknown none],
      (asks (.setAudio eng) s).asking 7#8 (.setAudio eng) 1)
    ∧ (odd.letters = false ∧ odd ≠ ⟨0#8, 0#8, 0#8⟩ ∧ eng.letters = true)
    ∧ (fresh.cce.engine = .idle ∧ fresh.cce.presented = none)
    ∧ (presents.cce.engine = .idle ∧ presents.cce.presented ≠ none
      ∧ { LaneStreams.mk none none none with audio := some 99 }.audio ≠ some 101)
    ∧ (let s := armed .waitKey .unknown none
       s.cce.engine = .waitKey ∧ s.cce.change = some (changeOf s) ∧ (changeOf s).map = some (mapOf 2 (some 330))
        ∧ s.routes.findIdx? (fun e => e.any fun x => x.state == .armed && x.use == .audio) = some 7
        ∧ s.routes[7]? = some (some (.fresh .a 101 .audio .armed .change .arming)))
    ∧ (∀ stream ∈ [101, 330, 105], let s := armedFor (bilingual stream)
      (asks (.setAudio ⟨0x64#8, 0x65#8, 0x75#8⟩) s).asking 7#8 (.setAudio ⟨0x64#8, 0x65#8, 0x75#8⟩) 1
        ∧ (changeOf s).map = some (bilingual stream)
        ∧ ((bilingual stream).components.find? fun c => c.kind == .audio && c.lang == some ⟨0x64#8, 0x65#8, 0x75#8⟩).map
            Component.stream = some stream
        ∧ s.routes.countP (fun e => e.any fun y => y.owner == .change) ≤ 10)
    ∧ (let s := armedFor { mapOf 2 (some 330) with components := [{ stream := 100, kind := .video, lang := none }] }
       (asks (.setAudio eng) s).asking 7#8 (.setAudio eng) 1 ∧ s.cce.engine = .waitKey ∧ s.cce.change = some (changeOf s)
        ∧ (changeOf s).map.map (fun m => m.components.any fun c => c.kind == .audio) = some false)
    ∧ ((∃ e ∈ (armedFor (bilingual 330)).routes, ∃ r ∈ e, r.port = .a ∧ r.stream = 330 ∧ r.state = .armed)
      ∧ ∀ e ∈ (armedFor (bilingual 105)).routes, ∀ r ∈ e, r.stream ≠ 105) := by
  refine ⟨?_, by decide, by decide, by decide, by decide, ?_, ?_, by decide⟩ <;> unfold State.asking <;> decide

theorem witness_StandbyDropsThePresentationAndWakeResumesIt :
    let off := { grid with cce := { Cce.reset with standby := true, lastService := some 201 } }
    (∀ s ∈ [presents, off, engaged .waitMap 1], (asks .standby s).asking 7#8 .standby 1)
    ∧ (off.cce.standby = true ∧ presents.cce.standby = false ∧ presents.cce.change = none
      ∧ (engaged .waitMap 1).cce.change = some (changeOf (engaged .waitMap 1)))
    ∧ (∀ resume ∈ [0, 1, 2], (asks (.wake resume) off).asking 7#8 (.wake resume) 1)
    ∧ off.cce.engine = .idle ∧ off.cce.tuned = none ∧ off.cce.lastService = some 201
    ∧ off.sdr.find 201 = some (gridService 201 false []) ∧ fresh.sdr.find 201 = none := by unfold State.asking; decide

theorem witness_HostRoutesAreAddedAndDropped :
    let full := (List.range 8).map fun k => some (Route.fresh .a (k + 100) .pass .live .host .none)
    (∀ code ∈ [0, 1, 2, 3], ∀ stream ∈ [0, 100, 4064, 4094, 4095, 4096], ∀ s ∈ [fresh, passing],
      (asks (.addRoute code stream) s).asking 7#8 (.addRoute code stream) 1
        ∧ (asks (.dropRoute code stream) s).asking 7#8 (.dropRoute code stream) 1)
    ∧ (some (Route.fresh .a 100 .pass .live .host .none) ∈ passing.routes
      ∧ ∀ x ∈ fresh.routes, x.all (fun x => x.owner != .host) = true)
    ∧ fresh.routes.countP (fun e => e.any fun x => x.owner == .host) < 8
    ∧ (routesReset.take 6 ++ full).countP (fun e => e.any fun x => x.owner == .host) = 8
    ∧ fresh.routes[6]? = some none ∧ ∀ j < 6, fresh.routes[j]? ≠ some none := by unfold State.asking; decide

/-- A body with its check value, as the part's integrity function gives it. -/
def signed (fields : List Byte) : List Byte := fields ++ beBytes 16 (Config.integrity fields).toNat

theorem beNat_append (xs : List Byte) (b : Byte) : beNat (xs ++ [b]) = beNat xs * 256 + b.toNat := by
  simp [beNat]

theorem beBytes_length (n v : Nat) : (beBytes n v).length = n := by
  induction n generalizing v with
  | zero => rfl
  | succ n ih => simp [beBytes, ih]

theorem beNat_beBytes (n v : Nat) : beNat (beBytes n v) = v % 256 ^ n := by
  induction n generalizing v with
  | zero => simp [beBytes, beNat, Nat.mod_one]
  | succ n ih =>
    have h : v % 256 ^ (n + 1) = v % 256 + 256 * (v / 256 % 256 ^ n) := by rw [Nat.pow_succ', Nat.mod_mul]
    rw [beBytes, beNat_append, ih, BitVec.toNat_ofNat, h, Nat.add_comm, Nat.mul_comm 256]

/-- A signed body passes its check. -/
theorem checkPasses_signed (fields : List Byte) (h : 1 ≤ fields.length) : checkPasses (signed fields) = true := by
  have l : (signed fields).length = fields.length + 16 := by simp [signed, beBytes_length]
  have t : (signed fields).take fields.length = fields := by simp [signed]
  have d : (signed fields).drop fields.length = beBytes 16 (Config.integrity fields).toNat := by simp [signed]
  simp only [checkPasses, l, Nat.add_sub_cancel, t, d, beNat_beBytes]
  rw [show 256 ^ 16 = 2 ^ 128 from rfl, Nat.mod_eq_of_lt (Config.integrity fields).isLt, BitVec.ofNat_toNat,
    BitVec.setWidth_eq]
  simp [h]

/-- A signed body without its check value. -/
theorem take_signed (fields : List Byte) : (signed fields).take ((signed fields).length - 16) = fields := by
  simp [signed, beBytes_length]

/-- A KEY body is read from what stands before its check value. -/
theorem keyBody_signed (fields : List Byte) :
    keyBody (signed fields) = keyBody (fields ++ List.replicate 16 0#8) := by
  have h : (fields ++ List.replicate 16 0#8).take ((fields ++ List.replicate 16 0#8).length - 16) = fields := by simp
  unfold keyBody
  rw [take_signed, h]

/-- So is the message of an ENTITLEMENT body. -/
theorem messageOf_signed (fields : List Byte) :
    messageOf (signed fields) = messageOf (fields ++ List.replicate 16 0#8) := by
  have h : (fields ++ List.replicate 16 0#8).take ((fields ++ List.replicate 16 0#8).length - 16) = fields := by simp
  unfold messageOf
  rw [take_signed, h]

/-- The criteria fields of a KEY body for tier 12 and the even slot, with a wrapped word of 0. -/
def keyFields : List Byte := [1#8, 2#8, 1#8, 0#8, 12#8] ++ List.replicate 16 0#8

/-- A KEY section on stream 330. -/
def keySection (body : List Byte) : Section :=
  { port := .a, stream := 330, cls := .key, total := 0, version := 0, key := 0, bits := 0, body }

/-- A part with this ACTIVE and ARMING record. -/
def keyed (active arming : Option KeyRecord) (x : Section) : State :=
  { fresh with dsc := { Dsc.reset with active, arming }, queues := { Queues.reset with key := [x] } }

theorem witness_KeySectionsFillSlotsUnderEntitlementAlone :
    let k := KeyRecord.claim 205 330
    (∀ body, (keyed (some k) (some k) (keySection body)).running = true
      ∧ (keyed (some k) (some k) (keySection body)).queues.key = keySection body :: []
      ∧ (keySection body).port = .a ∧ (keySection body).stream = k.stream)
    ∧ checkPasses [] = false
    ∧ (checkPasses (signed [3#8]) = true ∧ keyBody (signed [3#8]) = none)
    ∧ (checkPasses (signed keyFields) = true
      ∧ keyBody (signed keyFields) = some { criteria := .tiers [12], slot := .even, wrapped := 0#128 })
    ∧ (∀ h ∈ [Handover.entNotice, .wallSet .dsc], (given h fresh).offered h)
    ∧ [1#8, 7#8][1]? = some 7#8
    ∧ ((∃ e ∈ account.enu.table, e.tier = 12 ∧ account.tmb.w < e.expiry) ∧ (∀ e ∈ account.enu.table, e.tier ≠ 13)
      ∧ (∃ g ∈ account.enu.grants, g.service = 201 ∧ g.event = 4410 ∧ account.tmb.w < g.expiry)
      ∧ (∀ g ∈ account.enu.grants, g.expiry ≤ (walled 1003000 (-300) account).tmb.w)
      ∧ account.tmb.wallValid = true ∧ fresh.tmb.wallValid = false
      ∧ (grid.sdr.services.find? fun r => r.number == 201).map Service.tiers = some []
      ∧ (grid.sdr.services.find? fun r => r.number == 205).map Service.tiers = some [12]) := by
  refine ⟨fun _ => ⟨rfl, rfl, rfl, rfl⟩, by decide, ⟨checkPasses_signed _ (by decide), ?_⟩,
    ⟨checkPasses_signed _ (by decide), ?_⟩, by unfold State.offered; decide, rfl, by decide⟩
  · rw [keyBody_signed]; decide
  · rw [keyBody_signed]; decide

/-- An ENTITLEMENT section of this body, at the account. -/
def messaged (body : List Byte) : State :=
  let x : Section :=
    { port := .b, stream := 4068, cls := .entitlement, total := 0, version := 0, key := 0, bits := 0, body }
  { account with queues := { Queues.reset with entitlement := [x] } }

/-- A full table of odd tiers, every entry with this expiry. -/
def fullTable (expiry : Nat) : State :=
  { account with enu := { account.enu with table := (List.range 64).map fun k => { tier := 2 * k + 1, expiry } } }

/-- The full table meets its invariant; at W = 1,000,500 it has expired entries or none, by its expiry. -/
theorem witness_EntitlementMessagesAndExpiryKeepTheAccount_full :
    (∀ expiry ∈ [1000500, 1000501], (fullTable expiry).enu.tableOk ∧ 64 ≤ (fullTable expiry).enu.table.length
      ∧ (fullTable expiry).tmb.wallValid = true ∧ (fullTable expiry).tmb.w = 1000500)
    ∧ (∃ r ∈ (fullTable 1000500).enu.table, r.expiry ≠ 4294967295 ∧ r.expiry ≤ 1000500)
    ∧ (∀ r ∈ (fullTable 1000501).enu.table, 1000500 < r.expiry)
    ∧ (∀ r ∈ (fullTable 1000501).enu.table, r.tier ≠ 2) := by
  unfold Enu.tableOk; decide +kernel

theorem witness_EntitlementMessagesAndExpiryKeepTheAccount :
    let all (m : List Byte) : List Byte := 3#8 :: m
    let entitle (tier : Byte) := all [1#8, 1#8, 0#8, tier, 255#8, 255#8, 255#8, 255#8]
    ((messaged []).running = true ∧ checkPasses [] = false)
    ∧ (checkPasses (signed [9#8]) = true ∧ messageOf (signed [9#8]) = none)
    ∧ (checkPasses (signed (all [4#8, 0#8, 1#8, 0#8, 255#8])) = true
      ∧ messageOf (signed (all [4#8, 0#8, 1#8, 0#8, 255#8])) = some (.group 1 255))
    ∧ (messageOf (signed (entitle 40#8)) = some (.entitle [{ tier := 40, expiry := 4294967295 }])
      ∧ messageOf (signed (entitle 41#8)) = some (.entitle [{ tier := 41, expiry := 4294967295 }])
      ∧ account.enu.tableOk ∧ { tier := 40, expiry := 4294967295 } ∈ account.enu.table
      ∧ { tier := 41, expiry := 4294967295 } ∉ account.enu.table ∧ account.enu.table.length + 1 ≤ 64)
    ∧ (∀ tier ∈ [12#8, 13#8], messageOf (signed (all [2#8, 1#8, 0#8, tier])) = some (.revoke [tier.toNat]))
    ∧ ((∃ r ∈ account.enu.table, r.tier ∈ [12]) ∧ ∀ r ∈ account.enu.table, r.tier ∉ [13])
    ∧ messageOf (signed (all [3#8, 0#8, 0#8, 19#8, 136#8, 0#8, 0#8, 0#8, 6#8])) = some (.credit 5000 6)
    ∧ messageOf (signed (all [3#8, 0#8, 0#8, 23#8, 112#8, 0#8, 0#8, 0#8, 8#8])) = some (.credit 6000 8)
    ∧ (given (.firing .entExpiry 1003000 none none) account).offered (.firing .entExpiry 1003000 none none)
    ∧ (∀ g ∈ account.enu.grants, account.tmb.w < g.expiry)
    ∧ (∀ g ∈ account.enu.grants, g.expiry ≤ (walled 1003000 (-300) account).tmb.w)
    ∧ (given (.wallSet .enu) account).offered (.wallSet .enu) := by
  refine ⟨by decide, ⟨checkPasses_signed _ (by decide), ?_⟩, ⟨checkPasses_signed _ (by decide), ?_⟩,
    ⟨?_, ?_, by unfold Enu.tableOk; decide, by decide, by decide, by decide⟩, ?_, by decide, ?_, ?_,
    by unfold State.offered; decide, by decide, by decide, by unfold State.offered; decide⟩ <;>
    simp only [messageOf_signed] <;> decide +kernel

/-- A guide event of this service, price and end, at the account. -/
def offers (price : Option Nat) (stop : Nat) (s : State) : State :=
  let e : GuideEvent := { guideEvent 3 42 (stop - 3600) 3600 with service := 300, price }
  { s with gds := { s.gds with events := [e] } }

/-- The account with these grants, purchase records and next number. -/
def accountOf (grants : List Grant) (log : List PurchaseRecord) (nextSeq : Option Nat) : State :=
  { account with enu := { account.enu with grants, log, nextSeq } }

theorem witness_PurchasesAreRefusedInOrderOrCarriedOutWhole :
    let asked (service event : Nat) (s : State) := (asks (.purchase service event) s).asking 7#8 (.purchase service event) 1
    let grants (n expiry : Nat) : List Grant := (List.range n).map fun k => { service := 1, event := k, expiry }
    (asked 0 1 fresh ∧ asked 9999 1 fresh ∧ asked 10000 1 fresh ∧ fresh.tmb.wallValid = false)
    ∧ (asked 201 4410 account ∧ account.tmb.wallValid = true
      ∧ ∃ g ∈ account.enu.grants, g.service = 201 ∧ g.event = 4410 ∧ account.tmb.w < g.expiry)
    ∧ (∀ price ∈ [none, some 300, some 3800, some 3801], asked 300 42 (offers price 1001000 account))
    ∧ (1001000 + 600 ≤ (walled 1001600 0 account).tmb.w ∧ (walled 1001599 0 account).tmb.w < 1001000 + 600)
    ∧ ((account.enu.granted : Int) - account.enu.spent < 3801 ∧ (3800 : Int) ≤ account.enu.granted - account.enu.spent)
    ∧ (accountOf [] [] none).enu.nextSeq = none
    ∧ (let r : PurchaseRecord := { seq := 1, service := 1, event := 1, price := 1, wall := 0 }
       (accountOf [] (List.replicate 32 r) (some 9)).enu.log.length = 32
        ∧ (accountOf [] (List.replicate 31 r) (some 9)).enu.log.length < 32)
    ∧ ((accountOf (grants 16 1000501) [] (some 9)).enu.grants.length = 16
      ∧ (∀ g ∈ (accountOf (grants 16 1000501) [] (some 9)).enu.grants, account.tmb.w < g.expiry)
      ∧ ∃ g ∈ (accountOf (grants 16 1000500) [] (some 9)).enu.grants, g.expiry ≤ account.tmb.w)
    ∧ (accountOf (grants 15 1000501) [] (some 9)).enu.grants.length < 16 := by unfold State.asking; decide

/-- The guide of section 8.8 with this GUIDE section waiting. -/
def guideWaits (key bits version : Nat) (body : List Byte) : State :=
  { guided with queues := { Queues.reset with guide := [{ segmentThree with key, bits, version, body }] } }

theorem witness_GuideSectionsReplaceTheEventsOfTheirSegment :
    (∀ s ∈ [guideWaits 205 3 5 [], guideWaits 205 3 4 segmentThree.body, guideWaits 206 55 4 segmentThree.body],
      s.running = true ∧ s.queues.guide ≠ [])
    ∧ guideBody 205 3 [] = none ∧ (guideBody 205 3 segmentThree.body).isSome = true
    ∧ (guideBody 9999 55 segmentThree.body).isSome = true
    ∧ (guided.gds.versionOf 205 3 = some 4 ∧ guided.gds.versionOf 205 3 ≠ some 5)
    ∧ (let full := (List.range 256).map fun k => ({ number := k + 1000, versions := [] } : GuideService)
       (∀ r ∈ full, r.number ≠ 205) ∧ 256 ≤ full.length)
    ∧ ((∃ r ∈ guided.gds.services, r.number = 205) ∧ guided.gds.services.length < 256
      ∧ (∀ r ∈ guided.gds.services, r.versions.length = 56) ∧ guided.gds.events.length + 4 ≤ 4096) := by decide +kernel

/-- Events of service 300, one every 100 seconds from 900,000 on. -/
def stored (n : Nat) : List GuideEvent :=
  (List.range n).map fun k => { guideEvent 3 k (900000 + 100 * k) 60 with service := 300 }

theorem stored_length (n : Nat) : (stored n).length = n := by simp [stored]

theorem stored_service (n : Nat) : ∀ v ∈ stored n, v.service = 300 ∧ v.duration = 60 := by
  intro v hv
  obtain ⟨k, -, rfl⟩ := List.mem_map.mp hv
  exact ⟨rfl, rfl⟩

theorem stored_ordered (n : Nat) : (stored n).Pairwise GuideEvent.precedes := by
  refine List.pairwise_map.mpr (List.pairwise_lt_range.imp fun h => .inr ⟨rfl, ?_⟩)
  simp only [GuideEvent.stop, guideEvent]
  omega

/-- A store of so many of them. -/
def storing (w n : Nat) : State :=
  let s := walled w 0 fresh
  { s with gds := { s.gds with events := stored n }, queues := { Queues.reset with guide := [segmentThree] } }

/-- The full store meets its invariant and holds no event of the section's service. -/
theorem storing_ok (w n : Nat) (full : n = 4096) : (storing w n).GuideOk ∧ (storing w n).gds.events.length = 4096
    ∧ ∀ v ∈ (storing w n).gds.events, v.service ≠ segmentThree.key := by
  refine ⟨⟨Nat.zero_le _, List.Pairwise.nil, ?_, ?_, ?_⟩, ?_, ?_⟩ <;> simp only [storing]
  · exact full ▸ (stored_length n).le
  · exact stored_ordered n
  · intro v hv
    rw [(stored_service _ v hv).2]
    decide
  · exact full ▸ stored_length n
  · intro v hv
    rw [(stored_service _ v hv).1]
    decide

/-- A full store. -/
def fullStore (w : Nat) : State := storing w 4096

/-- A GUIDE body of one event, for each way in which a full store makes room or makes none. -/
def loneEvent (start : Nat) : List Byte := beBytes 4 start ++ [1#8] ++ guideBytes 7 start 600

theorem witness_GuideSectionsReplaceTheEventsOfTheirSegment_full :
    (∀ start ∈ [900000, 1309500, 1309501], (guideBody 205 3 (loneEvent start)).map (fun b => b.2.map GuideEvent.start) = some [start])
    ∧ (let first := (fullStore 0).gds.events.head?.map GuideEvent.stop
       let last := (fullStore 0).gds.events.getLast?.map GuideEvent.start
       first = some 900060 ∧ last = some 1309500)
    ∧ (fullStore 900060).tmb.w = 900060 ∧ (fullStore 900059).tmb.w = 900059 := by decide +kernel

theorem witness_GuideSectionsReplaceTheEventsOfTheirSegment_several :
    ∀ w, (fullStore w).GuideOk ∧ (fullStore w).gds.events.length = 4096
      ∧ (fullStore w).queues.guide = segmentThree :: [] ∧ (fullStore w).running = true
      ∧ (guideBody 205 3 segmentThree.body).map (fun b => b.2.length) = some 4
      ∧ (fullStore w).gds.services = [] ∧ (fullStore w).gds.versionOf 205 3 ≠ some 5 := fun w =>
  ⟨(storing_ok w 4096 rfl).1, (storing_ok w 4096 rfl).2.1, rfl, rfl, by decide +kernel, rfl, nofun⟩

theorem witness_TheGuideStoreKeepsEventEndAndPurgesAtTheDayRoll :
    ∀ h ∈ [Handover.firing .eventEnd 1000500 (some 205) (some 100), .rewind .gds, .wallSet .gds,
      .context .gds .splice (some 205) (some 1), .dayRoll], (given h guided).offered h := by
  unfold State.offered; decide

/-- A part with this RATING section of service 205 waiting, its body an age and flags. -/
def rated (body : List Byte) (s : State) : State :=
  let x : Section := { port := .a, stream := 1, cls := .rating, total := 0, version := 2, key := 205, bits := 0, body }
  { s with queues := { Queues.reset with rating := [x] } }

theorem witness_RatingsAreTakenAndTheRatingSourceEvaluated :
    (∀ s ∈ [fresh, presents, engaged .waitMap 1], ∀ body ∈ [[], [7#8, 0#8], [8#8, 0#8], [14#8, 0#8], [15#8, 0#8]],
      (rated body s).running = true ∧ (rated body s).queues.rating ≠ [])
    ∧ (ratingBody [7#8] = none ∧ ratingBody [14#8, 0#8] = some (14, 0#4))
    ∧ (presents.cce.presented.map (fun p => (p.mapStream, p.service)) = some (1, 205)
      ∧ ((changeOf (engaged .waitMap 1)).mapStream, (changeOf (engaged .waitMap 1)).service) = (1, 205))
    ∧ (given (.nowEvent (some 205) none) presents).offered (.nowEvent (some 205) none)
    ∧ (given (.context .plu .splice (some 205) (some 1)) presents).offered (.context .plu .splice (some 205) (some 1)) := by
  unfold State.offered; decide

theorem witness_BudgetsAccrueWhileTheGateIsOpenAndAreTested :
    let s := budgeted 1050030 evening
    (given (.gateState true) s).offered (.gateState true)
    ∧ (s.running = true ∧ s.plu.profiles.length = 4 ∧ s.plu.active ≤ 3 ∧ s.plu.accruing = true ∧ s.plu.remainder = 1000)
    ∧ (fresh.plu.accruing = false ∧ fresh.plu.profiles.length = 4 ∧ fresh.plu.active ≤ 3)
    ∧ (s.plu.activeProfile.seconds = 59 ∧ (budgeted 1 { evening with seconds := 58 }).plu.activeProfile.seconds < 59)
    ∧ (∀ profile ∈ [0, 3, 4], ∀ mode ∈ [0, 1, 2, 3], ∀ minutes ∈ [0, 1439, 1440], ∀ timing ∈ [0, 1, 2],
      (asks (.setBudget profile mode minutes timing) s).asking 7#8 (.setBudget profile mode minutes timing) 1)
    ∧ s.plu.settled := by unfold State.asking State.offered Plu.settled; decide

theorem witness_DayRollsRenewTheDailyBudgets :
    let s := budgeted 1054800 evening
    let day (s : State) := ((s.tmb.w : Int) + 60 * s.tmb.offset) / 86400
    (∀ h ∈ [Handover.firing .dayRoll 1054800 none none, .offsetChange .plu, .wallSet .plu],
      (given h s).offered h ∧ (given h fresh).offered h)
    ∧ (s.plu.profiles.length = 4 ∧ s.plu.active ≤ 3 ∧ fresh.plu.profiles.length = 4 ∧ fresh.plu.active ≤ 3)
    ∧ (fresh.plu.dayNumber = none ∧ s.plu.dayNumber = some 11)
    ∧ (11 < day s ∧ day (walled 1054799 (-300) s) = 11)
    ∧ ∀ latch ∈ [0, 5, 6], ∀ used ∈ [89, 90],
      let s := budgeted 1054800 { evening with latch, used }
      (given (.firing .dayRoll 1054800 none none) s).offered (.firing .dayRoll 1054800 none none) ∧ s.plu.profiles.length = 4
        ∧ s.plu.activeProfile.mode = .daily ∧ s.plu.activeProfile.latch = latch
        ∧ (s.plu.activeProfile.used < s.plu.activeProfile.budget ↔ used = 89) := by unfold State.offered; decide

/-- A part whose active profile 0 locks these services. -/
def locks (services : List Nat) : State :=
  { fresh with plu := { Plu.reset with profiles := [{ Profile.cold with locked := services }, .cold, .cold, .cold] } }

theorem witness_ProfilesAreSelectedLimitedAndLocked :
    (∀ s ∈ [fresh, locks [201], locks (List.range' 1 15), locks (List.range' 1 16)],
      s.plu.profiles.length = 4 ∧ s.plu.active ≤ 3 ∧ s.plu.settled)
    ∧ (∀ k ∈ [0, 3, 4], (asks (.selectProfile k) fresh).asking 7#8 (.selectProfile k) 1
      ∧ ∀ ceiling ∈ [7, 8], ∀ blocked ∈ [15, 16], ∀ policy ∈ [1, 2], ∀ follow ∈ [0, 1, 2],
        (asks (.setProfileLimits k ceiling blocked policy follow) fresh).asking 7#8
          (.setProfileLimits k ceiling blocked policy follow) 1)
    ∧ (∀ k ∈ [0, 3, 4], ∀ service ∈ [0, 1, 201, 9999, 10000], ∀ s ∈ [locks [201], locks (List.range' 1 16)],
      (asks (.lockService k service) s).asking 7#8 (.lockService k service) 1
        ∧ (asks (.unlockService k service) s).asking 7#8 (.unlockService k service) 1)
    ∧ (201 ∈ ((locks [201]).plu.profile 0).locked ∧ 201 ∉ ((locks (List.range' 1 16)).plu.profile 0).locked
      ∧ ((locks (List.range' 1 15)).plu.profile 0).locked.length < 16
      ∧ 16 ≤ ((locks (List.range' 1 16)).plu.profile 0).locked.length) := by
  unfold State.asking Plu.settled; decide

/-- A part whose override ends at this second. -/
def overridden (stop : Nat) (s : State) : State := { s with plu := { s.plu with override := some { scope := none, stop } } }

theorem witness_OverridesBeginEndAndExpire :
    (∀ minutes ∈ [0, 1, 240, 241], ∀ scope ∈ [0, 1, 2], ∀ s ∈ [fresh, walled 1000000 0 fresh, walled 1000000 0 presents],
      (asks (.override minutes scope) s).asking 7#8 (.override minutes scope) 1
        ∧ (asks (.override minutes scope) s).plu.settled)
    ∧ (fresh.tmb.wallValid = false ∧ (walled 1000000 0 fresh).tmb.wallValid = true)
    ∧ (fresh.cce.presented = none ∧ presents.cce.presented.map Presentation.service = some 205)
    ∧ (∀ s ∈ [fresh, overridden 1000000 fresh], (asks .endOverride s).asking 7#8 .endOverride 1 ∧ s.plu.settled)
    ∧ (fresh.plu.override = none ∧ (overridden 1000000 fresh).plu.override = some { scope := none, stop := 1000000 })
    ∧ (given (.firing .overrideEnd 1000000 none none) fresh).offered (.firing .overrideEnd 1000000 none none)
    ∧ (1000000 ≤ (walled 1000000 0 fresh).tmb.w ∧ (walled 999999 0 fresh).tmb.w < 1000000) := by
  unfold State.asking State.offered Plu.settled; decide

theorem witness_HostMuteIsSetClearedAndNeverMasked :
    (∀ value ∈ [0, 1], (asks (.hostMute value) fresh).asking 7#8 (.hostMute value) 1 ∧ value ≤ 1)
    ∧ (let p := { PluPosting.clear with hostMute := true, mask := true }
       (given (.pluPosting p) fresh).offered (.pluPosting p) ∧ p.hostMute = true
        ∧ ∃ t, exec (.gatePosting .plu) (given (.pluPosting p) fresh) = .next t)
    ∧ (∃ t, exec (.warmReset .power) fresh = .next t) ∧ ∃ t, exec .coldStart fresh = .next t := by
  refine ⟨by unfold State.asking; decide, ⟨⟨rfl, rfl⟩, rfl, _, rfl⟩, ⟨_, rfl⟩, _, rfl⟩

theorem witness_TheGateTakesPostingsAndReportsItsChanges :
    (∀ h ∈ [Handover.dscPosting true false, .pluPosting { PluPosting.clear with rating := true, mask := true },
      .context .pgt .splice (some 205) (some 1)], (given h fresh).offered h)
    ∧ (asks (.hostMute 2) fresh).asking 7#8 (.hostMute 2) 1 ∧ fresh.plu.settled := by
  unfold State.asking State.offered Plu.settled; decide

theorem witness_TheWindowIsPlacedWithinItsLimits :
    ((given (.wallSet .gwn) fresh).offered (.wallSet .gwn) ∧ fresh.gwn.start = none ∧ grid.gwn.start ≠ none)
    ∧ (∀ top ∈ [0, 1, 512, 513, 9999, 10000], ∀ start ∈ [998999, 999000, 999000 + 1209600, 999000 + 1209600 + 1800],
      (asks (.gridSet top 3 4 start) grid).asking 7#8 (.gridSet top 3 4 start) 1)
    ∧ (asks (.gridSet 0 3 4 1) fresh).asking 7#8 (.gridSet 0 3 4 1) 1 ∧ fresh.tmb.wallValid = false
    ∧ (grid.tmb.wallValid = true ∧ grid.tmb.w / 1800 * 1800 = 999000)
    ∧ ((∃ x ∈ grid.sdr.services.filter fun x => !x.hidden, 512 ≤ x.number)
      ∧ ∀ x ∈ grid.sdr.services.filter fun x => !x.hidden, x.number < 513) := by unfold State.asking State.offered; decide

theorem witness_CursorMovesKeepTheCursorInTheWindowAndGridReadShowsTheRows :
    let empty := { grid with sdr := Sdr.reset }
    (∀ code ∈ [0, 1, 2, 3, 4, 5, 6], ∀ s ∈ [fresh, grid, placed, empty],
      (asks (.cursorMove code) s).asking 7#8 (.cursorMove code) 1)
    ∧ (fresh.gwn.start = none ∧ empty.sdr.services.filter (fun x => !x.hidden) = []
      ∧ placed.sdr.services.filter (fun x => !x.hidden) ≠ [])
    ∧ (∀ s ∈ [placed, empty], s.tmb.wallValid = true ∧ s.gwn.start = some 999000 ∧ 999000 % 1800 = 0
      ∧ s.gwn.cursorTime = some 1000500 ∧ 1 ≤ s.gwn.columns ∧ 1 ≤ s.gwn.rows)
    ∧ (placed.gwn.cursorRow = 0 ∧ (press 1 placed).gwn.cursorRow = 1 ∧ (press 1 (press 1 placed)).gwn.cursorRow = 2
      ∧ min placed.gwn.rows (placed.sdr.services.filter fun x => !x.hidden).length = 3)
    ∧ (∀ e ∈ placed.gds.events, e.service ≠ 201)
    ∧ ((∃ e ∈ placed.gds.events, e.service = 205 ∧ e.start ≤ 1000500 ∧ 1000500 < e.stop)
      ∧ (∃ e ∈ placed.gds.events, e.service = 205 ∧ e.start = 1002600)
      ∧ (press 3 (press 3 placed)).gwn.cursorTime = some 1006200 ∧ ∃ e ∈ placed.gds.events, e.service = 205 ∧ e.start < 1006200)
    ∧ ∀ s ∈ [fresh, placed, empty], (asks .gridRead s).asking 7#8 .gridRead 1 := by unfold State.asking; decide

end Sys2Proof.Tests
end

section
/-! The firing of OFFSET_CHANGE (R53): what it does on a change that is due, and on any other. -/

namespace Sys2Proof.Machine

/-- A running part takes a command's whole effect. -/
theorem whenRunning_of_running {s : State} (hr : s.running = true) (effect : State → State) :
    whenRunning s effect = .next (effect s) := by
  simp [whenRunning, hr]

/-- An offset that becomes the current one, as one update of the part: the hand-overs are those of a differing offset
(R51, R53). -/
theorem setOffset_eq (offset : Int) (s : State) : setOffset offset s =
    { s with
      tmb := { s.tmb with offset }
      inFlight := s.inFlight
        ++ (if offset = s.tmb.offset then [] else [.offsetChange .scp, .offsetChange .plu]) } := by
  by_cases same : offset = s.tmb.offset
  · subst same
    simp [setOffset]
  · simp [setOffset, handOffset, sendAll, same]

/-- A firing of OFFSET_CHANGE that finds a pending change due clears it and sets the offset to its own (R53). -/
theorem execOffsetChangeFiring_of_due {s : State} {due time : Nat} {n e : Option Nat} {offset : Int}
    (ho : s.offered (.firing .offsetChange due n e))
    (hp : s.tmb.pendingChange = some (time, offset)) (reached : time ≤ s.tmb.w) :
    execOffsetChangeFiring s = .next (setOffset offset
      { s.taking .scpToTmb with tmb := { s.tmb with pendingChange := none } }) := by
  have front : s.nextIn .scpToTmb = some (.firing .offsetChange due n e) := offered_next ho
  rw [execOffsetChangeFiring, whenRunning_of_running ho.1]
  simp [front, hp, reached]

/-- A firing of OFFSET_CHANGE that finds no pending change due is taken and does nothing (R53). -/
theorem execOffsetChangeFiring_of_stale {s : State} {due : Nat} {n e : Option Nat}
    (ho : s.offered (.firing .offsetChange due n e))
    (stale : ∀ time offset, s.tmb.pendingChange = some (time, offset) → s.tmb.w < time) :
    execOffsetChangeFiring s = .next (s.taking .scpToTmb) := by
  have front : s.nextIn .scpToTmb = some (.firing .offsetChange due n e) := offered_next ho
  rw [execOffsetChangeFiring, whenRunning_of_running ho.1]
  rcases hp : s.tmb.pendingChange with _ | ⟨time, offset⟩
  · simp [front, hp]
  · have early : s.tmb.w < time := stale time offset hp
    simp [front, hp, early.not_ge]

/-- Settles O32: a change that is due goes through `setOffset`, and both stale firings leave the part as it was but for
the hand-over taken. -/
theorem offsetChangeFiringAppliesADueChange : Obligations.OffsetChangeFiringAppliesADueChange := by
  intro s due n e ho
  refine ⟨fun time offset hp reached => ?_, fun stale => ?_⟩
  · calc exec .offsetChangeFiring s
        = .next (setOffset offset
            { s.taking .scpToTmb with tmb := { s.tmb with pendingChange := none } }) :=
          execOffsetChangeFiring_of_due ho hp reached
      _ = _ := by rw [setOffset_eq]; rfl
  · refine execOffsetChangeFiring_of_stale ho fun time offset hp => ?_
    rcases stale with absent | ⟨time', offset', hp', early⟩
    · cases hp.symm.trans absent
    · cases hp.symm.trans hp'
      exact early

end Sys2Proof.Machine
end

section
/-! The account's reports (R124, R125) and PURCHASE (R129, R130): ENT_EXPIRY kept at the earliest expiry left, the refusals in
their order, and what a purchase that passes every check makes of the part. -/

namespace Sys2Proof.Machine

/-! ### ENT_EXPIRY and the report of a change -/

/-- The schedule table with ENT_EXPIRY kept at the earliest expiry left (R57, R125). -/
def State.expiryKept (s : State) : List Entry :=
  match s.enu.earliestExpiry with
  | some due => if s.tmb.wallValid then deviceAt .entExpiry due none none s.scp.target else s.scp.target
  | none => removeDevice .entExpiry s.scp.target

/-- With a valid wall the entry is keyed at the earliest expiry (R57, R125). -/
theorem expiryKept_of_due {s : State} {due : Nat} (wall : s.tmb.wallValid = true)
    (h : s.enu.earliestExpiry = some due) :
    s.expiryKept = deviceAt .entExpiry due none none s.scp.target := by
  simp [State.expiryKept, h, wall]

/-- Keeping ENT_EXPIRY changes the schedule table alone (R125). -/
theorem keepEntExpiry_eq (s : State) :
    keepEntExpiry s = { s with scp := { s.scp with target := s.expiryKept } } := by
  rw [keepEntExpiry, State.expiryKept]
  cases s.enu.earliestExpiry with
  | none => rfl
  | some due => exact keyEntry_eq s .entExpiry due none none

/-- A change of the table or the grants keeps ENT_EXPIRY, notifies the descrambler and is reported (R124). -/
theorem entChanged_eq (cause : EntCause) (s : State) : entChanged cause s =
    emit (.entChanged cause s.enu.table.length s.enu.grants.length s.enu.earliestExpiry)
      { s with scp := { s.scp with target := s.expiryKept }, inFlight := s.inFlight ++ [.entNotice] } := by
  simp only [entChanged, keepEntExpiry_eq]
  rfl

/-- An expiry has passed while the wall is valid, where it is one, at W (R114). -/
theorem expired_iff (t : Tmb) (expiry : Nat) :
    t.expired expiry = true ↔ t.wallValid = true ∧ expiry ≠ 4294967295 ∧ expiry ≤ t.w := by
  simp [Tmb.expired, noExpiry, and_assoc]

/-- With a valid wall an expiry has passed by its value alone (R114). -/
theorem expired_iff_of_wallValid {t : Tmb} (wall : t.wallValid = true) (expiry : Nat) :
    t.expired expiry = true ↔ expiry ≠ 4294967295 ∧ expiry ≤ t.w := by
  simp [expired_iff, wall]

/-! ### What the checks of PURCHASE look at (R129) -/

/-- A current grant is one for the service and event whose expiry has not passed (R115). -/
theorem hasCurrentGrant_iff (s : State) (service event : Nat) : s.hasCurrentGrant service event = true ↔
    ∃ g ∈ s.enu.grants, g.service = service ∧ g.event = event ∧ ¬ s.tmb.expired g.expiry = true := by
  simp [State.hasCurrentGrant, Grant.isFor, and_assoc]

/-- The price is the ACTIVE record's, failing that the ARMING record's, failing that the guide's (R129). -/
theorem priceOf_eq (s : State) (service event : Nat) : s.priceOf service event =
    ((s.dsc.active.bind (KeyRecord.priceOf service event)).or
      (s.dsc.arming.bind (KeyRecord.priceOf service event))).or
        ((s.gds.eventById service event).bind GuideEvent.price) := by
  rw [State.priceOf]
  cases s.dsc.active.bind (KeyRecord.priceOf service event) <;>
    cases s.dsc.arming.bind (KeyRecord.priceOf service event) <;> rfl

/-- An event is over where the guide has it and its end lies 600 seconds back (R129). -/
theorem eventOver_iff (s : State) (service event : Nat) : s.eventOver service event = true ↔
    ∃ e, s.gds.eventById service event = some e ∧ e.start + e.duration + 600 ≤ s.tmb.w := by
  simp only [State.eventOver, Option.any_eq_true, decide_eq_true_eq]
  rfl

/-- A service in range at a valid wall, for whose event no current grant is held: the checks before the offer (R129). -/
structure State.MayBuy (s : State) (service event : Nat) : Prop where
  low : 1 ≤ service
  high : service ≤ 9999
  wall : s.tmb.wallValid = true
  ungranted : s.hasCurrentGrant service event = false

/-- The event is offered at this price: the checks before the credit (R129). -/
structure State.Offers (s : State) (service event price : Nat) : Prop extends s.MayBuy service event where
  priced : s.priceOf service event = some price
  notOver : s.eventOver service event = false

/-! ### The refusals, in order (R129) -/

section
variable {s : State} {service event price : Nat}

theorem purchase_badParam (out : service = 0 ∨ 9999 < service) : purchase service event s = reply .badParam s := by
  simp [purchase, out]

theorem purchase_noTime (low : 1 ≤ service) (high : service ≤ 9999) (wall : s.tmb.wallValid = false) :
    purchase service event s = reply .noTime s := by
  simp [purchase, wall, high.not_gt, Nat.ne_of_gt low]

theorem purchase_already (low : 1 ≤ service) (high : service ≤ 9999) (wall : s.tmb.wallValid = true)
    (granted : s.hasCurrentGrant service event = true) : purchase service event s = reply .already s := by
  simp [purchase, wall, high.not_gt, Nat.ne_of_gt low, granted]

theorem purchase_notOffered (h : s.MayBuy service event)
    (unoffered : s.priceOf service event = none ∨ s.eventOver service event = true) :
    purchase service event s = reply .notOffered s := by
  rcases hp : s.priceOf service event with _ | price
  · simp [purchase, h.wall, h.high.not_gt, Nat.ne_of_gt h.low, h.ungranted, hp]
  · have past : s.eventOver service event = true := by simpa [hp] using unoffered
    simp [purchase, h.wall, h.high.not_gt, Nat.ne_of_gt h.low, h.ungranted, hp, past]

/-- An event that is offered leaves the credit, the log and the grant list to be checked. -/
theorem purchase_of_offers (h : s.Offers service event price) : purchase service event s =
    if s.enu.remaining < price then reply .noCredit s
    else s.enu.nextSeq.elim (reply .logFull s) fun seq =>
      if 32 ≤ s.enu.log.length then reply .logFull s
      else if 16 ≤ s.enu.grants.length ∧ ∀ g ∈ s.enu.grants, s.tmb.expired g.expiry = false then reply .grantFull s
      else carryOutPurchase service event price seq s := by
  rcases hs : s.enu.nextSeq with _ | seq <;>
    simp [purchase, h.wall, h.high.not_gt, Nat.ne_of_gt h.low, h.ungranted, h.priced, h.notOver, hs]

theorem purchase_noCredit (h : s.Offers service event price) (short : s.enu.remaining < price) :
    purchase service event s = reply .noCredit s := by
  rw [purchase_of_offers h, if_pos short]

theorem purchase_logFull (h : s.Offers service event price) (enough : price ≤ s.enu.remaining)
    (full : s.enu.nextSeq = none ∨ 32 ≤ s.enu.log.length) : purchase service event s = reply .logFull s := by
  rw [purchase_of_offers h, if_neg enough.not_gt]
  rcases hs : s.enu.nextSeq with _ | seq
  · rfl
  · exact if_pos (by simpa [hs] using full)

theorem purchase_grantFull (h : s.Offers service event price) (enough : price ≤ s.enu.remaining) {seq : Nat}
    (hs : s.enu.nextSeq = some seq) (logRoom : s.enu.log.length < 32) (full : 16 ≤ s.enu.grants.length)
    (held : ∀ g ∈ s.enu.grants, s.tmb.expired g.expiry = false) : purchase service event s = reply .grantFull s := by
  rw [purchase_of_offers h, if_neg enough.not_gt, hs, Option.elim_some, if_neg logRoom.not_ge, if_pos ⟨full, held⟩]

theorem purchase_carriedOut (h : s.Offers service event price) (enough : price ≤ s.enu.remaining) {seq : Nat}
    (hs : s.enu.nextSeq = some seq) (logRoom : s.enu.log.length < 32)
    (room : s.enu.grants.length < 16 ∨ ∃ g ∈ s.enu.grants, s.tmb.expired g.expiry = true) :
    purchase service event s = carryOutPurchase service event price seq s := by
  have makesRoom : ¬ (16 ≤ s.enu.grants.length ∧ ∀ g ∈ s.enu.grants, s.tmb.expired g.expiry = false) := by
    simpa [imp_iff_not_or] using room
  rw [purchase_of_offers h, if_neg enough.not_gt, hs, Option.elim_some, if_neg logRoom.not_ge, if_neg makesRoom]

end

/-! ### A purchase carried out (R130) -/

/-- The account after a purchase (R130). -/
def State.bought (s : State) (service event price seq : Nat) : Enu :=
  { s.enu with
    grants := s.roomForGrant service event ++ [{ service, event, expiry := s.grantExpiry service event }]
    log := s.enu.log ++ [{ seq, service, event, price, wall := s.tmb.w }]
    spent := s.enu.spent + price
    nextSeq := if seq < 4294967295 then some (seq + 1) else none }

@[simp] theorem bought_grants (s : State) (service event price seq : Nat) : (s.bought service event price seq).grants
    = s.roomForGrant service event ++ [{ service, event, expiry := s.grantExpiry service event }] := rfl

/-- A purchase is its account, with the reply queued before the two reports, ENT_EXPIRY kept, and the descrambler's notice
(R130). -/
theorem carryOutPurchase_eq {s : State} {tag : Byte} {service event n : Nat} (price seq : Nat)
    (h : s.rqh.inProgress = some { tag, request := .purchase service event, reserved := n }) :
    let enu := s.bought service event price seq
    let sold := s.replied tag (.purchase service event) .ok
      (beBytes 4 seq ++ beBytes 4 (s.grantExpiry service event))
    carryOutPurchase service event price seq s =
      { sold with
        enu, scp := { s.scp with target := { s with enu }.expiryKept }, inFlight := s.inFlight ++ [.entNotice]
        rpq := (emit (.creditChanged .purchase enu.granted enu.spent enu.log.length (enu.log.head?.map PurchaseRecord.seq))
          (emit (.entChanged .purchase enu.table.length enu.grants.length enu.earliestExpiry) sold)).rpq } := by
  intro enu sold
  have answered : carryOutPurchase service event price seq s
      = creditChanged .purchase (entChanged .purchase { sold with enu }) :=
    congrArg (fun u => creditChanged .purchase (entChanged .purchase u)) (answer_eq _ .ok _ h)
  simp only [answered, creditChanged, entChanged_eq, emit_eq]
  rfl

/-- A new grant expires 600 seconds after the event's end, or four hours on where the guide does not have it, and always
before no expiry (R130). -/
theorem grantExpiry_eq (s : State) (service event : Nat) : s.grantExpiry service event =
    min (match s.gds.eventById service event with
      | some e => e.start + e.duration + 600
      | none => s.tmb.w + 14400) 4294967294 := by
  rw [State.grantExpiry]
  cases s.gds.eventById service event <;> rfl

/-- In a list with room, the grants for the same service and event go, all of them expired (R130). -/
theorem roomForGrant_of_room {s : State} {service event : Nat} (ungranted : s.hasCurrentGrant service event = false)
    (room : s.enu.grants.length < 16) : s.roomForGrant service event =
      s.enu.grants.filter fun g => decide (¬ (g.service = service ∧ g.event = event)) := by
  rw [State.roomForGrant, if_neg room.not_ge]
  refine List.filter_congr fun g hg => ?_
  have notCurrent : ¬ (g.isFor service event && !s.tmb.expired g.expiry) = true :=
    List.any_eq_false.mp ungranted g hg
  by_cases same : g.service = service ∧ g.event = event
  · have gone : s.tmb.expired g.expiry = true := by simpa [Grant.isFor, same] using notCurrent
    simp [Grant.isFor, same, gone]
  · have other : g.isFor service event = false := by simpa [Grant.isFor] using same
    simp only [other, same, Bool.false_and, Bool.not_false, not_false_eq_true, decide_true]

/-- In a full list every expired grant goes (R130). -/
theorem roomForGrant_of_full {s : State} (service event : Nat) (full : 16 ≤ s.enu.grants.length) :
    s.roomForGrant service event = s.enu.grants.filter fun g => !s.tmb.expired g.expiry := by
  rw [State.roomForGrant, if_pos full, List.filter_filter]
  refine List.filter_congr fun g _ => ?_
  cases s.tmb.expired g.expiry <;> simp

/-- PURCHASE is taken where it is the request in progress. -/
theorem exec_purchase_of_asking {s : State} {tag : Byte} {n service event : Nat}
    (h : s.asking tag (.purchase service event) n) : exec .purchase s = .next (purchase service event s) := by
  obtain ⟨running, asked⟩ := h
  have front : s.asked = some (.purchase service event) := asked_eq s asked
  calc exec .purchase s = execPurchase s := rfl
    _ = .next (purchase service event s) := by rw [execPurchase, whenRunning_of_running running, front]

/-- PURCHASE with its reply as the record that is queued, where the checks end in one. -/
theorem exec_purchase_of_reply {s : State} {tag : Byte} {n service event : Nat} {result : Result}
    (h : s.asking tag (.purchase service event) n) (refused : purchase service event s = reply result s) :
    exec .purchase s = .next (s.replied tag (.purchase service event) result []) := by
  rw [exec_purchase_of_asking h, refused, reply_eq s result h.2]

/-- Settles O48: each refusal and the purchase carried out, from what `purchase` answers where the checks before it pass. -/
theorem purchasesAreRefusedInOrderOrCarriedOutWhole : Obligations.PurchasesAreRefusedInOrderOrCarriedOutWhole := by
  intro s tag n service event asking r guide keyPrice price expired
  have hprice : s.priceOf service event = price := priceOf_eq s service event
  refine ⟨fun out => exec_purchase_of_reply asking (purchase_badParam out),
    fun low high wall => exec_purchase_of_reply asking (purchase_noTime low high wall), fun low high wall => ?_⟩
  have hexpired (expiry : Nat) : s.tmb.expired expiry = true ↔ expired expiry := expired_iff_of_wallValid wall expiry
  refine ⟨fun granted => exec_purchase_of_reply asking (purchase_already low high wall ?_), fun ungranted => ?_⟩
  · simpa only [hasCurrentGrant_iff, hexpired] using granted
  have may : s.MayBuy service event := by
    refine ⟨low, high, wall, Bool.eq_false_iff.mpr fun current => ?_⟩
    obtain ⟨g, hg, hs, he, notExpired⟩ := (hasCurrentGrant_iff s service event).mp current
    exact notExpired ((hexpired _).mpr (ungranted g hg hs he))
  refine ⟨fun unoffered => exec_purchase_of_reply asking (purchase_notOffered may ?_), fun p hp notOver => ?_⟩
  · rwa [hprice, eventOver_iff]
  have offers : s.Offers service event p := by
    refine ⟨may, hprice.trans hp, Bool.eq_false_iff.mpr fun past => ?_⟩
    obtain ⟨e, he, ended⟩ := (eventOver_iff s service event).mp past
    exact (notOver e he).not_ge ended
  refine ⟨fun short => exec_purchase_of_reply asking ?_, fun enough => ⟨fun full => exec_purchase_of_reply asking ?_,
    fun seq hseq logRoom => ⟨fun full held => exec_purchase_of_reply asking ?_, fun room => ?_⟩⟩⟩
  · exact purchase_noCredit offers short
  · exact purchase_logFull offers enough full
  · exact purchase_grantFull offers enough hseq logRoom full fun g hg =>
      Bool.eq_false_iff.mpr fun gone => held g hg ((hexpired _).mp gone)
  intro expiry
  have hexpiry : s.grantExpiry service event = expiry := grantExpiry_eq s service event
  have carried : purchase service event s = carryOutPurchase service event p seq s :=
    purchase_carriedOut offers enough hseq logRoom (by simpa only [hexpired] using room)
  refine ⟨_, exec_purchase_of_asking asking, ?_⟩
  rw [carried, carryOutPurchase_eq p seq asking.2, hexpiry]
  refine ⟨rfl, ?_, fun few => ?_, fun full => ?_, fun due hdue => ?_, rfl, rfl, rfl⟩
  · change (s.bought service event p seq).grants.getLast? = _
    rw [bought_grants, List.getLast?_concat, hexpiry]
  · change (s.bought service event p seq).grants.dropLast = _
    rw [bought_grants, List.dropLast_concat, roomForGrant_of_room may.ungranted few]
  · change (s.bought service event p seq).grants.dropLast = _
    rw [bought_grants, List.dropLast_concat, roomForGrant_of_full service event full]
    refine List.filter_congr fun g _ => Bool.eq_iff_iff.mpr ?_
    rw [Bool.not_eq_true', ← Bool.not_eq_true, hexpired, decide_eq_true_eq]
  · exact expiryKept_of_due wall hdue

end Sys2Proof.Machine
end

section
/-! The entitlement table (R114) and one item of an ENTITLE message (R120): the table in tier order, the entry that gives way in
a full table, and what each way of taking an item makes of both. -/

namespace Sys2Proof.Machine

/-! ### A table in tier order -/

/-- The order of the entitlement table (R114). -/
abbrev TierOrdered (table : List Entitlement) : Prop := table.Pairwise fun y z => y.tier < z.tier

theorem putTier_cons (x y : Entitlement) (ys : List Entitlement) : putTier x (y :: ys) =
    if y.tier = x.tier then x :: ys else if x.tier < y.tier then x :: y :: ys else y :: putTier x ys := by
  simp [putTier, putOrdered]

/-- A tier's entry takes the place of the one that the tier had. -/
theorem mem_putTier {table : List Entitlement} (ordered : TierOrdered table) (x r : Entitlement) :
    r ∈ putTier x table ↔ r = x ∨ (r ∈ table ∧ r.tier ≠ x.tier) := by
  induction table with
  | nil => simp [putTier, putOrdered]
  | cons y ys ih =>
    obtain ⟨above, rest⟩ := List.pairwise_cons.mp ordered
    rw [putTier_cons]
    split
    · grind
    · split
      · grind
      · rw [List.mem_cons, ih rest]
        grind

theorem mem_putTier_self {table : List Entitlement} (ordered : TierOrdered table) (x : Entitlement) :
    x ∈ putTier x table := (mem_putTier ordered x x).mpr (.inl rfl)

theorem putTier_ordered {table : List Entitlement} (ordered : TierOrdered table) (x : Entitlement) :
    TierOrdered (putTier x table) := by
  induction table with
  | nil => exact List.pairwise_singleton ..
  | cons y ys ih =>
    obtain ⟨above, rest⟩ := List.pairwise_cons.mp ordered
    rw [putTier_cons]
    split
    · exact List.pairwise_cons.mpr ⟨by grind, rest⟩
    · split
      · exact List.pairwise_cons.mpr ⟨by grind, ordered⟩
      · refine List.pairwise_cons.mpr ⟨fun r hr => ?_, ih rest⟩
        rcases (mem_putTier rest x r).mp hr with rfl | ⟨hr, -⟩
        · omega
        · exact above r hr

theorem putTier_length_le (x : Entitlement) (table : List Entitlement) :
    (putTier x table).length ≤ table.length + 1 := by
  induction table with
  | nil => simp [putTier, putOrdered]
  | cons y ys ih => rw [putTier_cons]; (repeat' split) <;> simp; omega

/-- Re-timing a tier adds no entry. -/
theorem putTier_length_of_tier {table : List Entitlement} (ordered : TierOrdered table) {x : Entitlement}
    (present : ∃ r ∈ table, r.tier = x.tier) : (putTier x table).length = table.length := by
  induction table with
  | nil => simp at present
  | cons y ys ih =>
    obtain ⟨above, rest⟩ := List.pairwise_cons.mp ordered
    rw [putTier_cons]
    split
    · rfl
    · have later : ∃ r ∈ ys, r.tier = x.tier := by grind
      have notBelow : ¬ x.tier < y.tier := by grind
      rw [if_neg notBelow, List.length_cons, ih rest later, List.length_cons]

/-- An entry that is in the table as it stands changes nothing. -/
theorem putTier_of_mem {table : List Entitlement} (ordered : TierOrdered table) {x : Entitlement} (hx : x ∈ table) :
    putTier x table = table := by
  induction table with
  | nil => simp at hx
  | cons y ys ih =>
    obtain ⟨above, rest⟩ := List.pairwise_cons.mp ordered
    rw [putTier_cons]
    rcases List.mem_cons.mp hx with rfl | hx
    · simp
    · have below : y.tier < x.tier := above x hx
      rw [if_neg below.ne, if_neg below.not_gt, ih rest hx]

/-- Two entries of one tier are one. -/
theorem eq_of_tier_eq {table : List Entitlement} (ordered : TierOrdered table) {x y : Entitlement}
    (hx : x ∈ table) (hy : y ∈ table) (same : x.tier = y.tier) : x = y := by
  have tiers : (table.map Entitlement.tier).Nodup := List.pairwise_map.mpr (ordered.imp fun below => below.ne)
  exact List.inj_on_of_nodup_map tiers hx hy same

/-! ### The entry that gives way -/

/-- An entry gives way before another: it expires earlier, or as early with a tier no higher (R120). -/
def Entitlement.givesWayBefore (b r : Entitlement) : Prop :=
  b.expiry < r.expiry ∨ (b.expiry = r.expiry ∧ b.tier ≤ r.tier)

/-- The entry chosen gives way before every other, by induction on what follows the first entry. -/
theorem earliestEntry_cons {c : Entitlement} {table : List Entitlement} (ordered : TierOrdered (c :: table)) :
    ∃ b ∈ c :: table, earliestEntry (c :: table) = some b ∧ ∀ r ∈ c :: table, b.givesWayBefore r := by
  induction table generalizing c with
  | nil => exact ⟨c, by simp, rfl, by simp [Entitlement.givesWayBefore]⟩
  | cons y ys ih =>
    obtain ⟨above, rest⟩ := List.pairwise_cons.mp ordered
    by_cases earlier : y.expiry < c.expiry
    · obtain ⟨b, hb, chosen, first⟩ := ih rest
      refine ⟨b, List.mem_cons_of_mem c hb, ?_, ?_⟩
      · simpa [earliestEntry, earlier] using chosen
      · have := first y (by simp)
        simp only [Entitlement.givesWayBefore] at *
        grind
    · have skip : TierOrdered (c :: ys) := ordered.sublist (by simp)
      obtain ⟨b, hb, chosen, first⟩ := ih skip
      refine ⟨b, by grind, ?_, ?_⟩
      · simpa [earliestEntry, earlier] using chosen
      · have := first c (by simp)
        simp only [Entitlement.givesWayBefore] at *
        grind

/-- A table that is not empty has an entry that gives way before every other, and it is the one chosen (R120). -/
theorem earliestEntry_spec {table : List Entitlement} (ordered : TierOrdered table) (entries : table ≠ []) :
    ∃ b ∈ table, earliestEntry table = some b ∧ ∀ r ∈ table, b.givesWayBefore r := by
  obtain ⟨c, cs, rfl⟩ := List.exists_cons_of_ne_nil entries
  exact earliestEntry_cons ordered

/-- There is one such entry alone, so it is the one chosen. -/
theorem earliestEntry_eq {table : List Entitlement} (ordered : TierOrdered table) {b : Entitlement} (hb : b ∈ table)
    (first : ∀ r ∈ table, b.givesWayBefore r) : earliestEntry table = some b := by
  obtain ⟨b', hb', chosen, first'⟩ := earliestEntry_spec ordered (List.ne_nil_of_mem hb)
  have h := first b' hb'
  have h' := first' b hb
  have same : b' = b := by
    cases b; cases b'
    simp only [Entitlement.givesWayBefore, Entitlement.mk.injEq] at *
    omega
  rw [chosen, same]

/-! ### One item (R120) -/

section
variable {t : Tmb} {x : Entitling} {i : Entitlement}

/-- An item for a tier that has an entry re-times it. -/
theorem entitleItem_retimed (ordered : TierOrdered x.table) (present : ∃ r ∈ x.table, r.tier = i.tier) :
    entitleItem t x i = { x with table := putTier i x.table, changed := x.changed || decide (i ∉ x.table) } := by
  obtain ⟨r, found⟩ : ∃ r, x.table.find? (fun e => e.tier == i.tier) = some r :=
    Option.isSome_iff_exists.mp (List.find?_isSome.mpr (by simpa using present))
  have hr : r ∈ x.table := List.mem_of_find?_eq_some found
  have same : r.tier = i.tier := by simpa using List.find?_some found
  have retimes : (r.expiry != i.expiry) = decide (i ∉ x.table) := by
    refine Bool.eq_iff_iff.mpr ?_
    rw [bne_iff_ne, decide_eq_true_eq]
    refine not_congr ⟨fun h => ?_, fun hi => congrArg _ (eq_of_tier_eq ordered hr hi same)⟩
    have : r = i := by cases r; cases i; simp_all
    exact this ▸ hr
  simp [entitleItem, found, retimes]

theorem find_tier_none (absent : ∀ r ∈ x.table, r.tier ≠ i.tier) :
    x.table.find? (fun e => e.tier == i.tier) = none := by simpa using absent

/-- An item for a new tier is inserted where there is room. -/
theorem entitleItem_inserted (absent : ∀ r ∈ x.table, r.tier ≠ i.tier) (room : x.table.length < 64) :
    entitleItem t x i = { x with table := putTier i x.table, changed := true } := by
  simp [entitleItem, find_tier_none absent, room]

theorem length_purged_lt {table : List Entitlement} (expired : ∃ r ∈ table, t.expired r.expiry = true) :
    (table.filter fun r => !t.expired r.expiry).length < table.length := by
  simpa [List.length_filter_lt_length_iff_exists] using expired

/-- A full table is purged of what has expired, which makes room where there is any. -/
theorem entitleItem_purged (absent : ∀ r ∈ x.table, r.tier ≠ i.tier) (full : x.table.length = 64)
    (expired : ∃ r ∈ x.table, t.expired r.expiry = true) :
    entitleItem t x i = { x with table := putTier i (x.table.filter fun r => !t.expired r.expiry), changed := true } := by
  have fewer : (x.table.filter fun r => !t.expired r.expiry).length < 64 :=
    full ▸ length_purged_lt expired
  simp [entitleItem, find_tier_none absent, full, Entitling.purge, fewer]

theorem purge_of_fresh (fresh : ∀ r ∈ x.table, ¬ t.expired r.expiry = true) : x.purge t = x := by
  have all : (x.table.filter fun r => !t.expired r.expiry) = x.table := by simpa using fresh
  simp [Entitling.purge, all]

/-- In a full table in which nothing has expired the earliest entry gives way to an item that expires later. -/
theorem entitleItem_replaced (absent : ∀ r ∈ x.table, r.tier ≠ i.tier) (full : x.table.length = 64)
    (fresh : ∀ r ∈ x.table, ¬ t.expired r.expiry = true) {b : Entitlement} (chosen : earliestEntry x.table = some b)
    (later : b.expiry < i.expiry) :
    entitleItem t x i = { x with table := putTier i (x.table.filter (· != b)), changed := true } := by
  simp [entitleItem, find_tier_none absent, full, purge_of_fresh fresh, chosen, later]

/-- An item that expires no later than it is dropped and counted. -/
theorem entitleItem_dropped (absent : ∀ r ∈ x.table, r.tier ≠ i.tier) (full : x.table.length = 64)
    (fresh : ∀ r ∈ x.table, ¬ t.expired r.expiry = true) {b : Entitlement} (chosen : earliestEntry x.table = some b)
    (noLater : i.expiry ≤ b.expiry) :
    entitleItem t x i = { x with dropped := satInc max32 x.dropped } := by
  simp [entitleItem, find_tier_none absent, full, purge_of_fresh fresh, chosen, noLater.not_gt]

end

end Sys2Proof.Machine
end

section
/-! An ENTITLE message (R120): its items one after another, and what the whole message reports. -/

namespace Sys2Proof.Machine

/-! ### What every item keeps -/

/-- What the items of a message keep: at most 64 entries in tier order (R114). -/
def Entitling.ok (x : Entitling) : Prop := x.table.length ≤ 64 ∧ TierOrdered x.table

/-- Every way of taking an item: its tier is re-timed; or it goes to its place among some of the entries, with room beside
them; or it is dropped (R120). -/
theorem entitleItem_cases {x : Entitling} (h : x.ok) (t : Tmb) (i : Entitlement) :
    ((∃ r ∈ x.table, r.tier = i.tier)
      ∧ entitleItem t x i = { x with table := putTier i x.table, changed := x.changed || decide (i ∉ x.table) })
    ∨ ((∀ r ∈ x.table, r.tier ≠ i.tier) ∧ ∃ base, base.Sublist x.table ∧ base.length < 64
      ∧ entitleItem t x i = { x with table := putTier i base, changed := true })
    ∨ entitleItem t x i = { x with dropped := satInc max32 x.dropped } := by
  obtain ⟨atMost, ordered⟩ := h
  by_cases present : ∃ r ∈ x.table, r.tier = i.tier
  · exact .inl ⟨present, entitleItem_retimed ordered present⟩
  have absent : ∀ r ∈ x.table, r.tier ≠ i.tier := fun r hr same => present ⟨r, hr, same⟩
  refine .inr ?_
  by_cases room : x.table.length < 64
  · exact .inl ⟨absent, x.table, .refl _, room, entitleItem_inserted absent room⟩
  have full : x.table.length = 64 := by omega
  by_cases expired : ∃ r ∈ x.table, t.expired r.expiry = true
  · exact .inl ⟨absent, _, List.filter_sublist, full ▸ length_purged_lt expired, entitleItem_purged absent full expired⟩
  have fresh : ∀ r ∈ x.table, ¬ t.expired r.expiry = true := fun r hr gone => expired ⟨r, hr, gone⟩
  obtain ⟨b, hb, chosen, -⟩ := earliestEntry_spec ordered (by rw [← List.length_pos_iff]; omega)
  by_cases later : b.expiry < i.expiry
  · refine .inl ⟨absent, _, List.filter_sublist, full ▸ ?_, entitleItem_replaced absent full fresh chosen later⟩
    exact List.length_filter_lt_length_iff_exists.mpr ⟨b, hb, by simp⟩
  · exact .inr (entitleItem_dropped absent full fresh chosen (not_lt.mp later))

theorem entitleItem_ok {x : Entitling} (h : x.ok) (t : Tmb) (i : Entitlement) : (entitleItem t x i).ok := by
  rcases entitleItem_cases h t i with ⟨present, taken⟩ | ⟨-, base, sub, room, taken⟩ | taken <;> rw [taken]
  · exact ⟨(putTier_length_of_tier h.2 present).trans_le h.1, putTier_ordered h.2 i⟩
  · exact ⟨(putTier_length_le i base).trans room, putTier_ordered (h.2.sublist sub) i⟩
  · exact h

/-- An item marks the message as a change exactly where it changes the table. -/
theorem entitleItem_changed {x : Entitling} (h : x.ok) (t : Tmb) (i : Entitlement) :
    (entitleItem t x i).changed = true ↔ x.changed = true ∨ x.table ≠ (entitleItem t x i).table := by
  rcases entitleItem_cases h t i with ⟨-, taken⟩ | ⟨absent, base, sub, -, taken⟩ | taken <;> rw [taken]
  · have same : i ∉ x.table ↔ x.table ≠ putTier i x.table := by
      refine not_congr ⟨fun hi => (putTier_of_mem h.2 hi).symm, fun kept => ?_⟩
      rw [kept]
      exact mem_putTier_self h.2 i
    simp [same]
  · have differs : x.table ≠ putTier i base := fun kept =>
      absent i (kept ▸ mem_putTier_self (h.2.sublist sub) i) rfl
    simp [differs]
  · simp

/-! ### What an item makes of the table and the count of dropped tiers -/

/-- The table and the count of dropped tiers of a message so far. -/
def Entitling.stands (x : Entitling) : List Entitlement × Nat := (x.table, x.dropped)

/-- How one item stands to the table before it and the table after it, where this is what has expired (R120). -/
def ItemTaken (expired : Entitlement → Prop) (a a' : List Entitlement × Nat) (i : Entitlement) : Prop :=
  TierOrdered a'.1
  ∧ ((∃ r ∈ a.1, r.tier = i.tier) → a'.2 = a.2 ∧ ∀ r, r ∈ a'.1 ↔ r = i ∨ (r ∈ a.1 ∧ r.tier ≠ i.tier))
  ∧ ((∀ r ∈ a.1, r.tier ≠ i.tier) →
    (a.1.length < 64 → a'.2 = a.2 ∧ ∀ r, r ∈ a'.1 ↔ r = i ∨ r ∈ a.1)
    ∧ (64 ≤ a.1.length → (∃ r ∈ a.1, expired r) → a'.2 = a.2 ∧ ∀ r, r ∈ a'.1 ↔ r = i ∨ (r ∈ a.1 ∧ ¬ expired r))
    ∧ (64 ≤ a.1.length → (∀ r ∈ a.1, ¬ expired r) → ∀ b ∈ a.1, (∀ r ∈ a.1, b.givesWayBefore r) →
      (b.expiry < i.expiry → a'.2 = a.2 ∧ ∀ r, r ∈ a'.1 ↔ r = i ∨ (r ∈ a.1 ∧ r ≠ b))
      ∧ (i.expiry ≤ b.expiry → a' = (a.1, satInc max32 a.2))))

/-- An item for a new tier joins the entries that it is put among. -/
theorem mem_putTier_of_absent {base table : List Entitlement} {i : Entitlement} (ordered : TierOrdered table)
    (sub : base.Sublist table) (absent : ∀ r ∈ table, r.tier ≠ i.tier) (r : Entitlement) :
    r ∈ putTier i base ↔ r = i ∨ r ∈ base := by
  rw [mem_putTier (ordered.sublist sub)]
  exact or_congr_right (and_iff_left_of_imp fun hr => absent r (sub.subset hr))

theorem entitleItem_taken {x : Entitling} (h : x.ok) (t : Tmb) (i : Entitlement) :
    ItemTaken (fun r => t.expired r.expiry = true) x.stands (entitleItem t x i).stands i := by
  have ⟨atMost, ordered⟩ := h
  refine ⟨(entitleItem_ok h t i).2, fun present => ?_, fun absent => ⟨fun room => ?_, fun full expired => ?_,
    fun full fresh b hb first => ⟨fun later => ?_, fun noLater => ?_⟩⟩⟩
  · rw [entitleItem_retimed ordered present]
    exact ⟨rfl, mem_putTier ordered i⟩
  · rw [entitleItem_inserted absent room]
    exact ⟨rfl, mem_putTier_of_absent ordered (.refl _) absent⟩
  · rw [entitleItem_purged absent (atMost.antisymm full) expired]
    refine ⟨rfl, fun r => ?_⟩
    simp [Entitling.stands, mem_putTier_of_absent ordered List.filter_sublist absent]
  · rw [entitleItem_replaced absent (atMost.antisymm full) fresh (earliestEntry_eq ordered hb first) later]
    refine ⟨rfl, fun r => ?_⟩
    simp [Entitling.stands, mem_putTier_of_absent ordered List.filter_sublist absent]
  · rw [entitleItem_dropped absent (atMost.antisymm full) fresh (earliestEntry_eq ordered hb first) noLater]
    rfl

/-! ### The items one after another -/

/-- What a message has made after its first `k` items (R120). -/
def Entitling.after (t : Tmb) (x : Entitling) (items : List Entitlement) (k : Nat) : Entitling :=
  (items.take k).foldl (entitleItem t) x

section
variable {t : Tmb} {x : Entitling} {items : List Entitlement}

theorem after_succ {k : Nat} {i : Entitlement} (hi : items[k]? = some i) :
    x.after t items (k + 1) = entitleItem t (x.after t items k) i := by
  simp [Entitling.after, List.take_add_one, hi]

theorem after_length : x.after t items items.length = items.foldl (entitleItem t) x := by
  simp [Entitling.after]

theorem foldl_entitleItem_ok (h : x.ok) : (items.foldl (entitleItem t) x).ok := by
  induction items generalizing x with
  | nil => exact h
  | cons i rest ih => exact ih (entitleItem_ok h t i)

theorem after_ok (h : x.ok) (k : Nat) : (x.after t items k).ok := foldl_entitleItem_ok h

/-- A message is marked as a change exactly where one of its items changes the table. -/
theorem after_changed (h : x.ok) {k : Nat} (hk : k ≤ items.length) : (x.after t items k).changed = true ↔
    x.changed = true ∨ ∃ j < k, (x.after t items j).table ≠ (x.after t items (j + 1)).table := by
  induction k with
  | zero => simp [Entitling.after]
  | succ k ih =>
    have next := after_succ (t := t) (x := x) (List.getElem?_eq_getElem hk)
    rw [next, entitleItem_changed (after_ok h k), ih (Nat.le_of_succ_le hk), ← next, or_assoc,
      Nat.exists_lt_succ_right]

/-- Items that the table has as they stand change nothing. -/
theorem foldl_entitleItem_of_mem (h : x.ok) (listed : ∀ i ∈ items, i ∈ x.table) :
    items.foldl (entitleItem t) x = x := by
  induction items with
  | nil => rfl
  | cons i rest ih =>
    obtain ⟨hi, hrest⟩ := List.forall_mem_cons.mp listed
    have kept : entitleItem t x i = x := by
      rw [entitleItem_retimed h.2 ⟨i, hi, rfl⟩, putTier_of_mem h.2 hi]
      simp [hi]
    rw [List.foldl_cons, kept, ih hrest]

/-- A change once made stays marked. -/
theorem foldl_entitleItem_changed (h : x.ok) (changed : x.changed = true) :
    (items.foldl (entitleItem t) x).changed = true := by
  induction items generalizing x with
  | nil => exact changed
  | cons i rest ih => exact ih (entitleItem_ok h t i) ((entitleItem_changed h t i).mpr (.inl changed))

/-- With room for the item, its tier's entry becomes the item and every other entry stays. -/
theorem entitleItem_of_room (h : x.ok) (room : x.table.length < 64) (i : Entitlement) :
    (entitleItem t x i).dropped = x.dropped ∧ (entitleItem t x i).table.length ≤ x.table.length + 1
    ∧ ∀ r, r ∈ (entitleItem t x i).table ↔ r = i ∨ (r ∈ x.table ∧ r.tier ≠ i.tier) := by
  have eq : (entitleItem t x i).table = putTier i x.table ∧ (entitleItem t x i).dropped = x.dropped := by
    by_cases present : ∃ r ∈ x.table, r.tier = i.tier
    · simp [entitleItem_retimed h.2 present]
    · simp [entitleItem_inserted (by simpa using present) room]
  rw [eq.1, eq.2]
  exact ⟨rfl, putTier_length_le i x.table, mem_putTier h.2 i⟩

/-- With room for every item, each tier named ends with its last item, and no other entry changes. -/
theorem foldl_entitleItem_of_room (h : x.ok) (room : x.table.length + items.length ≤ 64) :
    (items.foldl (entitleItem t) x).dropped = x.dropped
    ∧ (items.foldl (entitleItem t) x).table.length ≤ x.table.length + items.length
    ∧ ∀ r, r ∈ (items.foldl (entitleItem t) x).table ↔ (items.filter fun i => i.tier == r.tier).getLast? = some r
        ∨ ((∀ i ∈ items, i.tier ≠ r.tier) ∧ r ∈ x.table) := by
  induction items using List.reverseRecOn with
  | nil => simp
  | append_singleton items i ih =>
    rw [List.length_append, List.length_singleton] at room
    obtain ⟨dropped, length, members⟩ := ih (by omega)
    obtain ⟨dropped', length', members'⟩ :=
      entitleItem_of_room (t := t) (foldl_entitleItem_ok (t := t) (items := items) h) (by omega) i
    rw [List.foldl_concat]
    refine ⟨dropped'.trans dropped, by simp; omega, fun r => ?_⟩
    rw [members', members]
    by_cases same : i.tier = r.tier
    · simp [same, eq_comm]
    · have other : r ≠ i := fun e => same (e ▸ rfl)
      simp [same, other, Ne.symm same, or_imp, forall_and]

/-- With room for every item, an item that the table does not have as it stands makes a change. -/
theorem foldl_entitleItem_changed_of_room (h : x.ok) (room : x.table.length + items.length ≤ 64)
    (new : ∃ i ∈ items, i ∉ x.table) : (items.foldl (entitleItem t) x).changed = true := by
  induction items with
  | nil => simp at new
  | cons i rest ih =>
    rw [List.length_cons] at room
    by_cases hi : i ∈ x.table
    · have kept : entitleItem t x i = x := foldl_entitleItem_of_mem (items := [i]) h (by simpa using hi)
      rw [List.foldl_cons, kept]
      exact ih (by omega) (by simpa [hi] using new)
    · rw [List.foldl_cons]
      refine foldl_entitleItem_changed (entitleItem_ok h t i) ((entitleItem_changed h t i).mpr (.inr fun same => hi ?_))
      rw [same, (entitleItem_of_room h (by omega) i).2.2]
      exact .inl rfl

end

/-! ### The message as a whole -/

/-- What a message starts from. -/
def State.entitling (s : State) : Entitling :=
  { table := s.enu.table, changed := false, dropped := s.enu.tiersDropped }

/-- A message whose items the table has as they stand changes nothing and reports nothing. -/
theorem entitle_of_mem {s : State} (h : s.enu.tableOk) {items : List Entitlement} (listed : ∀ i ∈ items, i ∈ s.enu.table) :
    entitle items s = s := by
  have out : items.foldl (entitleItem s.tmb) s.entitling = s.entitling := foldl_entitleItem_of_mem h listed
  simp only [State.entitling] at out
  simp [entitle, out]

/-- A message with room for its items, one of them new, is a change that drops nothing. -/
theorem entitle_of_room {s : State} (h : s.enu.tableOk) {items : List Entitlement} (new : ∃ i ∈ items, i ∉ s.enu.table)
    (room : s.enu.table.length + items.length ≤ 64) :
    ∃ table, entitle items s = entChanged .entitle { s with enu := { s.enu with table } } ∧ TierOrdered table
      ∧ ∀ r, r ∈ table ↔ (items.filter fun i => i.tier == r.tier).getLast? = some r
          ∨ ((∀ i ∈ items, i.tier ≠ r.tier) ∧ r ∈ s.enu.table) := by
  have start : s.entitling.ok := h
  obtain ⟨dropped, -, members⟩ := foldl_entitleItem_of_room (t := s.tmb) start room
  have changed := foldl_entitleItem_changed_of_room (t := s.tmb) start room new
  refine ⟨_, ?_, (foldl_entitleItem_ok start).2, members⟩
  calc entitle items s
      = entChanged .entitle { s with enu := { s.enu with
          table := (items.foldl (entitleItem s.tmb) s.entitling).table
          tiersDropped := (items.foldl (entitleItem s.tmb) s.entitling).dropped } } := if_pos changed
    _ = _ := by rw [dropped]; rfl

/-- A message takes its items one after another, and is reported where one of them changes the table. -/
theorem entitle_stepwise {s : State} (h : s.enu.tableOk) (items : List Entitlement) :
    ∃ after : Nat → List Entitlement × Nat, after 0 = (s.enu.table, s.enu.tiersDropped)
      ∧ (∀ k i, items[k]? = some i → ItemTaken (fun r => s.tmb.expired r.expiry = true) (after k) (after (k + 1)) i)
      ∧ let s1 := { s with enu := { s.enu with
          table := (after items.length).1, tiersDropped := (after items.length).2 } }
        ((∃ k < items.length, (after k).1 ≠ (after (k + 1)).1) → entitle items s = entChanged .entitle s1)
        ∧ ((∀ k < items.length, (after k).1 = (after (k + 1)).1) → entitle items s = s1) := by
  have start : s.entitling.ok := h
  refine ⟨fun k => (s.entitling.after s.tmb items k).stands, rfl, fun k i hi => ?_, ?_⟩
  · simp only [after_succ hi]
    exact entitleItem_taken (after_ok start k) s.tmb i
  · have changed := after_changed (t := s.tmb) start (Nat.le_refl items.length)
    simp only [after_length] at changed ⊢
    refine ⟨fun change => if_pos (changed.mpr (.inr change)), fun none => if_neg fun marked => ?_⟩
    rcases changed.mp marked with atStart | ⟨k, hk, differs⟩
    · exact Bool.false_ne_true atStart
    · exact differs (none k hk)

end Sys2Proof.Machine
end

section
/-! The form of an ENTITLEMENT message (R119, R189): its fields at their offsets after the address. -/

namespace Sys2Proof.Machine

/-! ### Fields at an offset -/

theorem fieldAt_take_drop {bytes : List Byte} {stop start offset n : Nat} (within : start + offset + n ≤ stop) :
    fieldAt ((bytes.take stop).drop start) offset n = fieldAt bytes (start + offset) n := by
  rw [fieldAt, fieldAt, List.drop_drop, List.drop_take, List.take_take, min_eq_left (by omega)]

/-- A byte is the field of its one byte, 0 beyond the end. -/
theorem toNat_byteAt (bytes : List Byte) (offset : Nat) : (byteAt bytes offset).toNat = fieldAt bytes offset 1 := by
  rw [byteAt, fieldAt, List.getD_eq_getElem?_getD, ← List.head?_drop]
  cases bytes.drop offset <;> simp [beNat]

theorem tierOk_iff (tier : Nat) : tierOk tier = true ↔ 1 ≤ tier ∧ tier ≤ 4095 := by simp [tierOk]

/-- The offset after the address, by the address kind (R188). -/
theorem addressLength_eq_some (bytes : List Byte) (a : Nat) : addressLength bytes = some a ↔
    fieldAt bytes 0 1 = 1 ∧ a = 5 ∨ fieldAt bytes 0 1 = 2 ∧ a = 35 ∨ fieldAt bytes 0 1 = 3 ∧ a = 1 := by
  rw [addressLength, toNat_byteAt]
  split <;> grind

/-! ### The form of each message -/

/-- The items of an ENTITLE message whose kind stands at this offset (R189). -/
def itemsAt (bytes : List Byte) (a count : Nat) : List Entitlement :=
  (List.range count).map fun k =>
    { tier := fieldAt bytes (a + 2 + 6 * k) 2, expiry := fieldAt bytes (a + 4 + 6 * k) 4 }

/-- The tiers of a REVOKE message whose kind stands at this offset (R189). -/
def tiersAt (bytes : List Byte) (a count : Nat) : List Nat :=
  (List.range count).map fun k => fieldAt bytes (a + 2 + 2 * k) 2

/-- The form that a message has, its kind at this offset and its fields before `stop` (R119, R189). -/
def MessageForm (bytes : List Byte) (a stop : Nat) (m : Message) : Prop :=
  let count := fieldAt bytes (a + 1) 1
  fieldAt bytes a 1 = 1 ∧ 1 ≤ count ∧ count ≤ 32 ∧ a + 2 + 6 * count ≤ stop
      ∧ (∀ i ∈ itemsAt bytes a count, 1 ≤ i.tier ∧ i.tier ≤ 4095) ∧ m = .entitle (itemsAt bytes a count)
    ∨ fieldAt bytes a 1 = 2 ∧ 1 ≤ count ∧ count ≤ 32 ∧ a + 2 + 2 * count ≤ stop
      ∧ (∀ tier ∈ tiersAt bytes a count, 1 ≤ tier ∧ tier ≤ 4095) ∧ m = .revoke (tiersAt bytes a count)
    ∨ fieldAt bytes a 1 = 3 ∧ a + 9 ≤ stop ∧ fieldAt bytes (a + 1) 4 ≤ 16777215
      ∧ m = .credit (fieldAt bytes (a + 1) 4) (fieldAt bytes (a + 5) 4)
    ∨ fieldAt bytes a 1 = 4 ∧ a + 5 ≤ stop ∧ fieldAt bytes (a + 3) 2 ≤ 255
      ∧ m = .group (fieldAt bytes (a + 1) 2) (fieldAt bytes (a + 3) 2)

/-- A message alone is read at its own start. -/
theorem messageAfter_eq_some (fields : List Byte) (m : Message) :
    messageAfter fields = some m ↔ 1 ≤ fields.length ∧ MessageForm fields 0 fields.length m := by
  simp only [messageAfter, MessageForm, toNat_byteAt, numbersAt, itemsAt, tiersAt, Nat.zero_add]
  split
  · simp; omega
  · split <;> rename_i hkind
    · simp [hkind, tierOk_iff]
      grind
    · simp [hkind, tierOk_iff]
      grind
    · simp [hkind]
      grind
    · simp [hkind]
      grind
    · simp_all

/-- What agrees with a body in every field of so many bytes from its kind on has the same items. -/
theorem itemsAt_congr {bytes bytes' : List Byte} {a a' len count : Nat}
    (agree : ∀ offset n, offset + n ≤ len → fieldAt bytes (a + offset) n = fieldAt bytes' (a' + offset) n)
    (fits : 2 + 6 * count ≤ len) : itemsAt bytes a count = itemsAt bytes' a' count := by
  refine List.map_congr_left fun k hk => ?_
  have below : k < count := List.mem_range.mp hk
  simp only [Nat.add_assoc]
  rw [agree _ 2 (by omega), agree _ 4 (by omega)]

theorem tiersAt_congr {bytes bytes' : List Byte} {a a' len count : Nat}
    (agree : ∀ offset n, offset + n ≤ len → fieldAt bytes (a + offset) n = fieldAt bytes' (a' + offset) n)
    (fits : 2 + 2 * count ≤ len) : tiersAt bytes a count = tiersAt bytes' a' count := by
  refine List.map_congr_left fun k hk => ?_
  have below : k < count := List.mem_range.mp hk
  simp only [Nat.add_assoc]
  rw [agree _ 2 (by omega)]

/-- The form of a message is a matter of its own bytes alone, wherever they stand. -/
theorem MessageForm.transport {bytes bytes' : List Byte} {a a' len : Nat} {m : Message} (kinded : 1 ≤ len)
    (agree : ∀ offset n, offset + n ≤ len → fieldAt bytes (a + offset) n = fieldAt bytes' (a' + offset) n)
    (h : MessageForm bytes a (a + len) m) : MessageForm bytes' a' (a' + len) m := by
  have kind : fieldAt bytes' a' 1 = fieldAt bytes a 1 := (agree 0 1 kinded).symm
  rw [MessageForm, kind]
  obtain ⟨hk, low, high, fits, inRange, rfl⟩ | ⟨hk, low, high, fits, inRange, rfl⟩ | ⟨hk, fits, inRange, rfl⟩
    | ⟨hk, fits, inRange, rfl⟩ := h
  · rw [itemsAt_congr agree (by omega)] at inRange ⊢
    rw [agree 1 1 (by omega)] at *
    exact .inl ⟨hk, low, high, by omega, inRange, rfl⟩
  · rw [tiersAt_congr agree (by omega)] at inRange ⊢
    rw [agree 1 1 (by omega)] at *
    exact .inr (.inl ⟨hk, low, high, by omega, inRange, rfl⟩)
  · rw [agree 1 4 (by omega), agree 5 4 (by omega)] at *
    exact .inr (.inr (.inl ⟨hk, by omega, inRange, rfl⟩))
  · rw [agree 1 2 (by omega), agree 3 2 (by omega)] at *
    exact .inr (.inr (.inr ⟨hk, by omega, inRange, rfl⟩))

/-- The fields before `stop` and after the address are read in the body at their offsets. -/
theorem messageForm_take_drop {body : List Byte} {a stop : Nat} (address : a < stop) (m : Message) :
    MessageForm ((body.take stop).drop a) 0 (stop - a) m ↔ MessageForm body a stop m := by
  obtain ⟨len, rfl⟩ := Nat.exists_eq_add_of_le address.le
  have agree (offset n : Nat) (h : offset + n ≤ len) :
      fieldAt ((body.take (a + len)).drop a) (0 + offset) n = fieldAt body (a + offset) n := by
    rw [Nat.zero_add, fieldAt_take_drop (by omega)]
  have fields := MessageForm.transport (m := m) (by omega) agree
  have inBody := MessageForm.transport (m := m) (by omega) fun offset n h => (agree offset n h).symm
  rw [Nat.zero_add] at fields inBody
  rw [Nat.add_sub_cancel_left]
  exact ⟨fields, inBody⟩

/-- The message after an address of `a` bytes. -/
theorem messageAfter_drop_eq_some (fields : List Byte) (a : Nat) (m : Message) :
    (if fields.length < a then none else messageAfter (fields.drop a)) = some m ↔
      a < fields.length ∧ MessageForm (fields.drop a) 0 (fields.length - a) m := by
  rw [Option.ite_none_left_eq_some, messageAfter_eq_some, List.length_drop, ← and_assoc]
  exact and_congr_left fun _ => by omega

/-- The message follows its address. `delta` unfolds the definition as it stands: `rw` and `simp` run out of time over its
equation. -/
theorem messageOf_eq_bind (body : List Byte) : messageOf body =
    (addressLength (body.take (body.length - 16))).bind fun a =>
      if (body.take (body.length - 16)).length < a then none
      else messageAfter ((body.take (body.length - 16)).drop a) := by
  delta messageOf
  rcases h : addressLength (body.take (body.length - 16)) with _ | a <;> simp only [h] <;> rfl

/-- A message is read at its offsets after the address and before the check value (R119, R189). -/
theorem messageOf_eq_some (body : List Byte) (m : Message) : messageOf body = some m ↔
    ∃ a, (fieldAt body 0 1 = 1 ∧ a = 5 ∨ fieldAt body 0 1 = 2 ∧ a = 35 ∨ fieldAt body 0 1 = 3 ∧ a = 1)
      ∧ a < body.length - 16 ∧ MessageForm body a (body.length - 16) m := by
  have length : (body.take (body.length - 16)).length = body.length - 16 := by simp
  have read : messageOf body = some m ↔ ∃ a, addressLength (body.take (body.length - 16)) = some a
      ∧ a < body.length - 16 ∧ MessageForm ((body.take (body.length - 16)).drop a) 0 (body.length - 16 - a) m := by
    simp only [messageOf_eq_bind, Option.bind_eq_some_iff, messageAfter_drop_eq_some]
    simp only [length]
  rw [read]
  refine exists_congr fun a => ?_
  by_cases address : a < body.length - 16
  · have kind : fieldAt (body.take (body.length - 16)) 0 1 = fieldAt body 0 1 := by
      simpa using fieldAt_take_drop (bytes := body) (start := 0) (offset := 0) (n := 1) (Nat.one_le_of_lt address)
    rw [addressLength_eq_some, kind, messageForm_take_drop address]
  · simp only [address, false_and, and_false]

end Sys2Proof.Machine
end

section
/-! ENTITLEMENT_SECTION, ENT_EXPIRY_FIRING and ENU_WALL_SET (R119 to R126): the commands, and the account that they keep. -/

namespace Sys2Proof.Machine

/-! ### REVOKE, CREDIT and expiry -/

/-- REVOKE of tiers that the table does not have changes nothing (R121). -/
theorem revoke_of_absent {s : State} {tiers : List Nat} (absent : ∀ r ∈ s.enu.table, r.tier ∉ tiers) :
    revoke tiers s = s := by
  have kept : (s.enu.table.filter fun r => !tiers.contains r.tier) = s.enu.table := by simpa using absent
  simp only [revoke, kept, if_true]

/-- REVOKE of a tier that the table has is a change (R121). -/
theorem revoke_of_present {s : State} {tiers : List Nat} (present : ∃ r ∈ s.enu.table, r.tier ∈ tiers) :
    revoke tiers s = entChanged .revoke
      { s with enu := { s.enu with table := s.enu.table.filter fun r => !tiers.contains r.tier } } := by
  refine if_neg (Nat.ne_of_lt (List.length_filter_lt_length_iff_exists.mpr ?_))
  simpa using present

/-- CREDIT sets the granted amount and the log that is left with its sum, and is reported where that is a change (R122). -/
theorem credit_eq (granted through : Nat) (s : State) :
    let log := s.enu.log.filter fun r => decide (through < r.seq)
    let s1 := { s with enu := { s.enu with granted, spent := (log.map PurchaseRecord.price).sum, log } }
    credit granted through s = if s1.enu = s.enu then s1 else creditChanged .credit s1 := by
  intro log s1
  have same : s1.enu = s.enu ↔ granted = s.enu.granted ∧ logTotal log = s.enu.spent ∧ log = s.enu.log := by
    cases h : s.enu
    simp [s1, h, logTotal]
  simp only [same]
  rfl

/-- Expiry removes from the table and the grants what has expired (R126). -/
def State.unexpired (s : State) : State :=
  { s with enu := { s.enu with
      table := s.enu.table.filter fun e => !s.tmb.expired e.expiry
      grants := s.enu.grants.filter fun g => !s.tmb.expired g.expiry } }

/-- With nothing expired, an expiry only keeps ENT_EXPIRY (R126). -/
theorem expireEntitlements_of_fresh {s : State} (table : ∀ r ∈ s.enu.table, ¬ s.tmb.expired r.expiry = true)
    (grants : ∀ g ∈ s.enu.grants, ¬ s.tmb.expired g.expiry = true) : expireEntitlements s = keepEntExpiry s := by
  have allEntries : (s.enu.table.filter fun e => !s.tmb.expired e.expiry) = s.enu.table := by simpa using table
  have allGrants : (s.enu.grants.filter fun g => !s.tmb.expired g.expiry) = s.enu.grants := by simpa using grants
  simp [expireEntitlements, allEntries, allGrants]

/-- What has expired leaves as a change (R126). -/
theorem expireEntitlements_of_expired {s : State} (expired : (∃ r ∈ s.enu.table, s.tmb.expired r.expiry = true)
      ∨ ∃ g ∈ s.enu.grants, s.tmb.expired g.expiry = true) :
    expireEntitlements s = entChanged .expiry s.unexpired := by
  refine if_neg fun ⟨table, grants⟩ => ?_
  rw [List.length_filter_eq_length_iff] at table grants
  rcases expired with ⟨r, hr, gone⟩ | ⟨g, hg, gone⟩
  · simpa [gone] using table r hr
  · simpa [gone] using grants g hg

/-! ### The commands -/

/-- The head of the queue is applied, whole (R30). -/
theorem exec_entitlementSection {s : State} {x : Section} {rest : List Section} (running : s.running = true)
    (head : s.queues.entitlement = x :: rest) : exec .entitlementSection s
      = .next (applyEntitlementSection x { s with queues := { s.queues with entitlement := rest } }) := by
  calc exec .entitlementSection s = execEntitlementSection s := rfl
    _ = .next (consume .entitlement applyEntitlementSection s) := whenRunning_of_running running _
    _ = _ := by rw [consume_cons s _ (c := .entitlement) head]; rfl

theorem applyEntitlementSection_of_checkFailed {x : Section} (fails : checkPasses x.body = false) (s : State) :
    applyEntitlementSection x s
      = { s with enu := { s.enu with checkFailed := satInc max32 s.enu.checkFailed } } := by
  simp [applyEntitlementSection, fails]

theorem applyEntitlementSection_of_formFailed {x : Section} (passes : checkPasses x.body = true)
    (formless : messageOf x.body = none) (s : State) : applyEntitlementSection x s
      = { s with enu := { s.enu with formFailed := satInc max32 s.enu.formFailed } } := by
  simp [applyEntitlementSection, passes, formless]

theorem applyEntitlementSection_of_message {x : Section} {m : Message} (passes : checkPasses x.body = true)
    (message : messageOf x.body = some m) (s : State) : applyEntitlementSection x s
      = applyMessage m { s with enu := { s.enu with applied := satInc max32 s.enu.applied } } := by
  simp [applyEntitlementSection, passes, message]

theorem exec_entExpiryFiring {s : State} {due : Nat} {n event : Option Nat}
    (offered : s.offered (.firing .entExpiry due n event)) : exec .entExpiryFiring s
      = .next (expireEntitlements { s with inFlight := s.others (.firing .entExpiry due n event) }) := by
  have front : s.nextIn .scpToEnu = some (.firing .entExpiry due n event) := offered_next offered
  calc exec .entExpiryFiring s = execEntExpiryFiring s := rfl
    _ = .next (expireEntitlements (s.taking .scpToEnu)) := by
      rw [execEntExpiryFiring, whenRunning_of_running offered.1, front]

theorem exec_enuWallSet {s : State} (offered : s.offered (.wallSet .enu)) :
    exec .enuWallSet s = .next (keepEntExpiry { s with inFlight := s.others (.wallSet .enu) }) := by
  have front : s.nextIn (.tmbTo .enu) = some (.wallSet .enu) := offered_next offered
  calc exec .enuWallSet s = execEnuWallSet s := rfl
    _ = .next (keepEntExpiry (s.taking (.tmbTo .enu))) := by
      rw [execEnuWallSet, whenRunning_of_running offered.1, front]

/-- Settles O47: the form of a message, then each message, the firing and the wall set, through what they make of the account. -/
theorem entitlementMessagesAndExpiryKeepTheAccount : Obligations.EntitlementMessagesAndExpiryKeepTheAccount := by
  refine ⟨messageOf_eq_some, ?_⟩
  intro kept changed
  have hchanged (cause : EntCause) (s : State) : changed cause s = entChanged cause s := (entChanged_eq cause s).symm
  refine ⟨fun s x rest running head => ?_, fun s due n event offered => ?_, fun s offered => ?_⟩
  · intro s0 e
    let taken : State := { s0 with enu := e }
    have applied {m : Message} {t : State} (passes : checkPasses x.body = true) (message : messageOf x.body = some m)
        (effect : applyMessage m taken = t) : exec .entitlementSection s = .next t := by
      rw [exec_entitlementSection running head, applyEntitlementSection_of_message passes message, ← effect]
    refine ⟨fun fails => ?_, fun passes formless => ?_, fun passes => ⟨fun number position message => ?_,
      fun items message ok => ⟨fun listed => ?_, fun new room => ?_⟩, fun items message ok => ?_,
      fun tiers message => ⟨fun absent => ?_, fun present => ?_⟩, fun granted through message => ?_⟩⟩
    · rw [exec_entitlementSection running head, applyEntitlementSection_of_checkFailed fails]
    · rw [exec_entitlementSection running head, applyEntitlementSection_of_formFailed passes formless]
    · exact applied passes message rfl
    · exact applied passes message (entitle_of_mem (s := taken) ok listed)
    · obtain ⟨table, entitled, members⟩ := entitle_of_room (s := taken) ok new room
      exact ⟨table, applied passes message (entitled.trans (hchanged _ _).symm), members⟩
    · intro expired takes
      obtain ⟨after, start, items', reported, silent⟩ := entitle_stepwise (s := taken) ok items
      simp only [expired_iff] at items'
      exact ⟨after, start, items', fun change => applied passes message ((reported change).trans (hchanged _ _).symm),
        fun none => applied passes message (silent none)⟩
    · exact applied passes message (revoke_of_absent (s := taken) absent)
    · exact applied passes message ((revoke_of_present (s := taken) present).trans (hchanged _ _).symm)
    · have credited := credit_eq granted through taken
      exact ⟨fun same => applied passes message (credited.trans (if_pos same)),
        fun differs => applied passes message (credited.trans (if_neg differs))⟩
  · intro gone s0
    have hgone (expiry : Nat) : s.tmb.expired expiry = true ↔ gone expiry := expired_iff s.tmb expiry
    refine ⟨fun table grants => ?_, fun expired => ⟨_, exec_entExpiryFiring offered, ?_⟩⟩
    · simp only [← hgone] at table grants
      rw [exec_entExpiryFiring offered, expireEntitlements_of_fresh (s := s0) table grants, keepEntExpiry_eq]
      rfl
    · simp only [← hgone] at expired ⊢
      rw [expireEntitlements_of_expired (s := s0) expired]
      have enu : (entChanged .expiry s0.unexpired).enu = s0.unexpired.enu := by simp
      rw [enu]
      exact ⟨fun r => by simp [State.unexpired, s0], fun g => by simp [State.unexpired, s0], List.filter_sublist,
        List.filter_sublist, (hchanged _ _).symm⟩
  · rw [exec_enuWallSet offered, keepEntExpiry_eq]
    rfl

end Sys2Proof.Machine
end

section
/-! EVENT_END and the now record kept by the guide store (R141 to R145), and the day-roll purge (R140). -/

namespace Sys2Proof.Machine

/-! ### The now-event and the next event of the followed service (R141) -/

/-- The events among which the followed service's now-event and next event are found: none while the wall is invalid or no
service is followed (R141). -/
def State.followedEvents (s : State) : List GuideEvent :=
  s.gds.events.filter fun e => some e.service == s.gds.followed && s.tmb.wallValid

theorem find_followedEvents (s : State) (p : GuideEvent → Bool) : s.followedEvents.find? p
    = if s.tmb.wallValid then s.gds.followed.bind fun n => (s.gds.eventsOf n).find? p else none := by
  rcases wall : s.tmb.wallValid with _ | _
  · simp [State.followedEvents, wall]
  · rcases follows : s.gds.followed with _ | n
    · simp [State.followedEvents, follows]
    · simp [State.followedEvents, Gds.eventsOf, wall, follows]

theorem nowEvent_eq_find (s : State) :
    s.nowEvent = s.followedEvents.find? fun e => decide (e.start ≤ s.tmb.w ∧ s.tmb.w < e.start + e.duration) := by
  simp only [find_followedEvents, State.nowEvent, Bool.decide_and]
  rfl

theorem nextEvent_eq_find (s : State) :
    s.nextEvent = s.followedEvents.find? fun e => decide (s.tmb.w < e.start) :=
  (find_followedEvents s _).symm

theorem wallValid_of_nowEvent {s : State} {e : GuideEvent} (now : s.nowEvent = some e) : s.tmb.wallValid = true := by
  by_contra invalid
  simp [State.nowEvent, invalid] at now

theorem wallValid_of_nextEvent {s : State} {e : GuideEvent} (next : s.nextEvent = some e) : s.tmb.wallValid = true := by
  by_contra invalid
  simp [State.nextEvent, invalid] at next

/-! ### EVENT_END, the now record and the notice (R142, R143) -/

/-- The schedule table as the request for EVENT_END leaves it (R142). -/
def State.eventEndTable (s : State) : List Entry :=
  match s.nowEvent, s.nextEvent with
  | some e, _ => deviceAt .eventEnd e.stop s.gds.followed (some e.id) s.scp.target
  | none, some e => deviceAt .eventEnd e.start s.gds.followed (some e.id) s.scp.target
  | none, none => removeDevice .eventEnd s.scp.target

/-- A key request for EVENT_END is made only while the wall is valid, so that it is never without effect (R57, R141). -/
theorem requestEventEnd_eq (s : State) :
    requestEventEnd s = { s with scp := { s.scp with target := s.eventEndTable } } := by
  rcases now : s.nowEvent with _ | e
  · rcases next : s.nextEvent with _ | e
    · simp [requestEventEnd, State.eventEndTable, now, next, clearEntry]
    · simp [requestEventEnd, State.eventEndTable, now, next, keyEntry_eq, wallValid_of_nextEvent next]
  · simp [requestEventEnd, State.eventEndTable, now, keyEntry_eq, wallValid_of_nowEvent now]

/-- Keeping EVENT_END and sending the notice is the one update of the part that R141 to R143 describe. -/
theorem keepEventEnd_eq (s : State) : keepEventEnd s = s.eventEndKept := by
  have eventEndKept_eq : s.eventEndKept = { s with
      gds := { s.gds with now := s.gds.followed.bind fun n => s.nowEvent.map fun e => (n, e.asNow) }
      scp := { s.scp with target := s.eventEndTable }
      inFlight := s.inFlight ++ [.nowEvent s.gds.followed (s.nowEvent.map GuideEvent.asNow)] } := by
    simp only [State.eventEndTable, nowEvent_eq_find, nextEvent_eq_find, State.eventEndKept, Option.map_map]
    rfl
  have nowEvent_requested : (requestEventEnd s).nowEvent = s.nowEvent := by simp [State.nowEvent]
  rw [eventEndKept_eq, keepEventEnd, setNow, nowEvent_requested, requestEventEnd_eq]
  rfl

/-! ### The commands -/

theorem exec_eventEndFiring {s : State} {due : Nat} {n event : Option Nat}
    (offered : s.offered (.firing .eventEnd due n event)) : exec .eventEndFiring s
      = .next (keepEventEnd { s with inFlight := s.others (.firing .eventEnd due n event) }) := by
  have front : s.nextIn .scpToGds = some (.firing .eventEnd due n event) := offered_next offered
  calc exec .eventEndFiring s = execEventEndFiring s := rfl
    _ = .next (keepEventEnd (s.taking .scpToGds)) := by
      rw [execEventEndFiring, whenRunning_of_running offered.1, front]

theorem exec_gdsRewind {s : State} (offered : s.offered (.rewind .gds)) :
    exec .gdsRewind s = .next (keepEventEnd { s with inFlight := s.others (.rewind .gds) }) := by
  have front : s.nextIn (.tmbTo .gds) = some (.rewind .gds) := offered_next offered
  calc exec .gdsRewind s = execGdsRewind s := rfl
    _ = .next (keepEventEnd (s.taking (.tmbTo .gds))) := by
      rw [execGdsRewind, whenRunning_of_running offered.1, front]

theorem exec_gdsWallSet {s : State} (offered : s.offered (.wallSet .gds)) :
    exec .gdsWallSet s = .next (keepEventEnd { s with inFlight := s.others (.wallSet .gds) }) := by
  have front : s.nextIn (.tmbTo .gds) = some (.wallSet .gds) := offered_next offered
  calc exec .gdsWallSet s = execGdsWallSet s := rfl
    _ = .next (keepEventEnd (s.taking (.tmbTo .gds))) := by
      rw [execGdsWallSet, whenRunning_of_running offered.1, front]

/-- A context change first takes the new service as the followed one (R141). -/
theorem exec_gdsContextChange {s : State} {cause : ContextCause} {followed stream : Option Nat}
    (offered : s.offered (.context .gds cause followed stream)) : exec .gdsContextChange s
      = .next (keepEventEnd { s with
          gds := { s.gds with followed }, inFlight := s.others (.context .gds cause followed stream) }) := by
  have front : s.nextIn (.cceTo .gds) = some (.context .gds cause followed stream) := offered_next offered
  calc exec .gdsContextChange s = execGdsContextChange s := rfl
    _ = .next (keepEventEnd { s.taking (.cceTo .gds) with gds := { s.gds with followed } }) := by
      rw [execGdsContextChange, whenRunning_of_running offered.1, front]
      rfl

theorem exec_dayRollPurge {s : State} (offered : s.offered .dayRoll) :
    exec .dayRollPurge s = .next (purgeEnded { s with inFlight := s.others .dayRoll }) := by
  have front : s.nextIn .pluToGds = some .dayRoll := offered_next offered
  calc exec .dayRollPurge s = execDayRollPurge s := rfl
    _ = .next (purgeEnded (s.taking .pluToGds)) := by
      rw [execDayRollPurge, whenRunning_of_running offered.1, front]

/-- An event stays exactly where it has not ended (R140). -/
theorem not_ended (w : Nat) (e : GuideEvent) : (!e.ended w) = decide (w < e.start + e.duration) := by
  rw [GuideEvent.ended, GuideEvent.stop, ← decide_not, decide_eq_decide, Nat.not_le]

/-- Settles O50: the four commands keep EVENT_END for the service followed, and the day roll purges. -/
theorem theGuideStoreKeepsEventEndAndPurgesAtTheDayRoll :
    Obligations.TheGuideStoreKeepsEventEndAndPurgesAtTheDayRoll := by
  intro s h offered
  refine ⟨fun command followed event => ?_, fun isDayRoll => ?_⟩
  · intro own now next rest keyed record
    have kept : exec command s = .next (keepEventEnd
        { s with gds := { s.gds with followed }, inFlight := s.others h }) := by
      rcases event with ⟨⟨due, n, e, rfl⟩, rfl, rfl⟩ | ⟨rfl, rfl, rfl⟩ | ⟨rfl, rfl, rfl⟩ | ⟨cause, stream, rfl, rfl⟩
      · exact exec_eventEndFiring offered
      · exact exec_gdsRewind offered
      · exact exec_gdsWallSet offered
      · exact exec_gdsContextChange offered
    rw [kept, keepEventEnd_eq]
    rfl
  · subst isDayRoll
    rw [exec_dayRollPurge offered]
    simp only [purgeEnded, not_ended]
    rfl

end Sys2Proof.Machine
end

section
/-! What every step keeps: a predicate of the part that each command and each millisecond keeps, and the resets packaged
once (R185, R186). -/

namespace Sys2Proof.Machine

/-! ### Steps -/

/-- A predicate that no change of the command queue affects, and that every command and every millisecond keeps, is kept by every
step. -/
theorem step_keeps {P : State → Prop} (waiting : ∀ s rest, P s → P (s.withPending rest))
    (command : ∀ i s t, P s → exec i s = .next t → P t) (millisecond : ∀ s, P s → P (tick s)) (s t : State) (h : P s)
    (stepped : step s = .next t) : P t := by
  rcases step_cases s stepped with ⟨c, rest, answered⟩ | rfl
  · exact command c _ t (waiting s rest h) answered
  · exact millisecond s h

/-- A command that takes effect while the part runs keeps what its effect keeps. -/
theorem whenRunning_keeps {P : State → Prop} {effect : State → State} {s t : State} (h : P s) (kept : P (effect s))
    (answered : whenRunning s effect = .next t) : P t := by
  rw [whenRunning_eq answered]
  split <;> assumption

/-- A consumer keeps what applying the head section keeps. -/
theorem consume_keeps {P : State → Prop} {c : SectionClass} {apply : Section → State → State} {s : State} (h : P s)
    (kept : ∀ x rest, P (apply x { s with queues := s.queues.with c rest })) : P (consume c apply s) := by
  rw [consume]
  split
  · exact h
  · exact kept _ _

/-! ### Resets and the data lane -/

/-- The data lane changes its own cells, the reply queue and the draws; the RESET reply's last cell resets the part
after that (R184, R185). -/
theorem sendDataCell_outcome (s : State) : ∃ (lanes : _) (rpq : Rpq) (draws : _), rpq.queue.Sublist s.rpq.queue
    ∧ (sendDataCell s = { s with lanes, rpq, draws } ∨ sendDataCell s = warmResetFrom .request { s with lanes, rpq, draws }) := by
  have status (r : Record) (rest : List Record) (queued : s.rpq.queue = r :: rest) :
      ∃ (lanes : _) (rpq : Rpq) (draws : _), rpq.queue.Sublist s.rpq.queue
        ∧ (sendStatus r rest s = { s with lanes, rpq, draws }
          ∨ sendStatus r rest s = warmResetFrom .request { s with lanes, rpq, draws }) := by
    have left : List.Sublist (if decide (r.cells ≤ s.rpq.sentCells + 1) then rest else s.rpq.queue) s.rpq.queue := by
      split
      · exact queued ▸ List.sublist_cons_self r rest
      · exact .refl _
    simp only [sendStatus]
    split
    · exact ⟨_, _, _, left, .inr rfl⟩
    · exact ⟨_, _, _, left, .inl rfl⟩
  have forwarded (c : Cell) (rest : List Cell) : ∃ (lanes : _) (rpq : Rpq) (draws : _), rpq.queue.Sublist s.rpq.queue
      ∧ (sendForwarded c rest s = { s with lanes, rpq, draws }
        ∨ sendForwarded c rest s = warmResetFrom .request { s with lanes, rpq, draws }) := ⟨_, _, _, .refl _, .inl rfl⟩
  unfold sendDataCell
  split
  · exact ⟨_, _, _, .refl _, .inl rfl⟩
  · exact forwarded _ _
  · exact status _ _ ‹_›
  · split
    · exact forwarded _ _
    · exact status _ _ ‹_›

/-- What lets a predicate stand through the resets, the supply and the data lane (R184 to R186). -/
structure KeptByResets (P : State → Prop) : Prop where
  warm : ∀ cause s, P s → P (warmResetFrom cause s)
  cold : ∀ s, P (coldStart s)
  power : ∀ s power, P s → P { s with power }
  lane : ∀ s lanes (rpq : Rpq) draws, P s → rpq.queue.Sublist s.rpq.queue → P { s with lanes, rpq, draws }

namespace KeptByResets
variable {P : State → Prop} (kept : KeptByResets P) {s t : State}
include kept

theorem sendDataCell (h : P s) : P (sendDataCell s) := by
  obtain ⟨lanes, rpq, draws, sub, e | e⟩ := sendDataCell_outcome s <;> rw [e]
  · exact kept.lane s lanes rpq draws h sub
  · exact kept.warm _ _ (kept.lane s lanes rpq draws h sub)

theorem dataLaneCellSent (h : P s) (answered : exec .dataLaneCellSent s = .next t) : P t :=
  whenRunning_keeps h (kept.sendDataCell h) answered

theorem coldStart (answered : exec .coldStart s = .next t) : P t := by
  cases answered
  exact kept.cold s

theorem warmReset {cause : ResetCause} (h : P s) (answered : exec (.warmReset cause) s = .next t) : P t := by
  cases cause with
  | power =>
    cases answered
    exact kept.power _ _ (kept.warm _ _ h)
  | pin =>
    cases answered
    simp only [pinReset, holdPin]
    split
    · exact kept.power _ _ (kept.warm _ _ h)
    · exact kept.power _ _ h
  | request =>
    refine whenRunning_keeps h ?_ answered
    split
    · exact kept.sendDataCell h
    · exact h
  | cold =>
    cases answered
    exact h

end KeptByResets

/-! ### The part as a whole -/

/-- Settles O1. -/
theorem stepRunsTheFrontCommand : Obligations.StepRunsTheFrontCommand := by
  intro s c rest waiting
  simp only [step, waiting]
  rfl

/-- One millisecond of a running part, as one update (R35, R36, R157). -/
theorem tick_of_running {s : State} (running : s.running = true) : tick s =
    { s with
      tmb := s.tmb.runMs
      plu := { s.plu with remainder := if s.plu.accruing then s.plu.remainder + 1 else s.plu.remainder }
      pending := (if s.plu.accruing = true ∧ 1000 ≤ s.plu.remainder + 1
        then [if 59 ≤ s.plu.activeProfile.seconds then .budgetAccrualMinute else .budgetAccrualSecond] else [])
        ++ s.pending } := by
  rcases accruing : s.plu.accruing with _ | _
  · simp [tick, running, accruing, secondCommands, Plu.secondDue]
    rw [← accruing]
  · simp [tick, running, accruing, secondCommands, Plu.secondDue, Plu.activeProfile, Plu.profile]

/-- Settles O2: the part's own step, or the millisecond of `tick`, whose ticks are the whole ones owed. -/
theorem emptyQueueTakesAnOwnStepOrAMillisecond : Obligations.EmptyQueueTakesAnOwnStepOrAMillisecond := by
  intro s empty
  have idle : step s = idleStep s := by simp only [step, empty]
  refine ⟨fun c own => ?_, fun own halted => ?_, fun own running => ⟨tick s, ?_, ?_⟩⟩
  · rw [idle, idleStep, own]
  · rw [idle, idleStep, own]
    simp [tick, halted]
  · rw [idle, idleStep, own]
  · rw [tick_of_running running]
    refine ⟨rfl, ⟨_, rfl, Nat.mod_lt _ (by decide), Nat.div_add_mod' _ _⟩, rfl, by simp [empty], rfl⟩

/-- Settles O3: a reset leaves the lists empty, the counts at 0 and the six fixed routes. -/
theorem resetMeetsTheInvariants : Obligations.ResetMeetsTheInvariants := by
  have account : State.reset.AccountOk :=
    ⟨⟨by decide, .nil⟩, ⟨by decide, .nil⟩, by decide, by decide, .nil, fun _ h => absurd h List.not_mem_nil⟩
  have replyQueue : State.reset.ReplyQueueOk := ⟨by decide, by decide, fun _ h => nomatch h⟩
  have keys : State.reset.KeysOk := ⟨fun _ h => (nomatch h), fun _ h => (nomatch h), rfl⟩
  have guide : State.reset.GuideOk := ⟨by decide, .nil, by decide, .nil, fun _ h => absurd h List.not_mem_nil⟩
  have schedule : State.reset.ScheduleOk := ⟨.nil, .nil, by decide, fun _ => Nat.zero_le 1⟩
  have clock : State.reset.ClockOk :=
    ⟨by decide, by decide, by decide, by decide, by decide, by decide, fun _ _ h => nomatch h⟩
  have profiles : State.reset.ProfilesOk := by
    refine ⟨by decide, by decide, fun p hp => ?_, by decide⟩
    obtain rfl : p = .cold := List.eq_of_mem_replicate hp
    exact ⟨by decide, by decide, by decide, by decide, by decide, by decide, .nil, fun _ h => absurd h List.not_mem_nil⟩
  have fixedRoutes : State.reset.FixedRoutesOk :=
    ⟨rfl, ⟨_, rfl, rfl, rfl, rfl, rfl, rfl, rfl⟩, ⟨_, rfl, rfl, rfl, rfl, rfl, rfl, rfl⟩,
      ⟨_, rfl, rfl, rfl, rfl, rfl, rfl, rfl⟩, ⟨_, rfl, rfl, rfl, rfl, rfl, rfl, rfl⟩,
      ⟨_, rfl, rfl, rfl, rfl, rfl, rfl, rfl⟩, ⟨_, rfl, rfl, rfl, rfl, rfl, rfl, rfl⟩⟩
  have entries {r : Route} (hr : some r ∈ State.reset.routes) :
      r.state = .live ∧ r.owner = .fixed ∧ r.port ≠ .a ∧ r.isPresent = false := by
    have all : ∀ entry ∈ State.reset.routes, entry.all (fun r => decide (r.state = .live ∧ r.owner = .fixed
      ∧ r.port ≠ .a ∧ r.isPresent = false)) = true := by decide
    simpa using all _ hr
  have routes : State.reset.RoutesOk := by
    refine ⟨rfl, by decide, by decide, by decide, fun r hr => ?_, ?_⟩
    · obtain ⟨live, fixed, port, present⟩ := entries hr
      exact ⟨fun _ => ⟨live, port, present⟩, by simp [fixed], by simp [fixed]⟩
    · simp [State.reset, routesReset, Route.apart, Route.fixed, Route.fresh, Route.isPresent]
  have engine : State.reset.EngineOk := by
    refine ⟨fun h => absurd rfl h, fun h => (nomatch h), fun r hr armed => ?_, fun _ h => (nomatch h)⟩
    exact absurd armed (by simp [(entries hr).1])
  have directory : State.reset.DirectoryOk := ⟨by decide, .nil, fun _ h => absurd h List.not_mem_nil, rfl⟩
  exact ⟨account, replyQueue, keys, rfl, guide, schedule, clock, profiles, fixedRoutes, routes, engine, directory⟩

end Sys2Proof.Machine
end

section
/-! The account kept by every step (R114 to R116). -/

namespace Sys2Proof.Machine

/-- The account with its table and grants thinned out, its counts, group and granted amount as they may be. -/
theorem State.AccountOk.sublists {s t : State} (h : s.AccountOk) (table : t.enu.table.Sublist s.enu.table)
    (grants : t.enu.grants.Sublist s.enu.grants) (log : t.enu.log.Sublist s.enu.log)
    (spent : t.enu.spent = logTotal t.enu.log) (next : t.enu.nextSeq = s.enu.nextSeq) : t.AccountOk := by
  obtain ⟨⟨tableRoom, tierOrder⟩, ⟨grantRoom, distinct⟩, -, logRoom, seqOrder, below⟩ := h
  exact ⟨⟨table.length_le.trans tableRoom, tierOrder.sublist table⟩, ⟨grants.length_le.trans grantRoom, distinct.sublist grants⟩,
    spent, log.length_le.trans logRoom, seqOrder.sublist log, fun r hr n hn => below r (log.subset hr) n (next ▸ hn)⟩

theorem State.AccountOk.of_enu {s t : State} (h : s.AccountOk) (same : t.enu = s.enu) : t.AccountOk := by
  rw [State.AccountOk, same]
  exact h

theorem accountOk_keptByResets : KeptByResets State.AccountOk where
  warm _ _ h := h.sublists (.refl _) (.refl _) (.refl _) h.2.2.1 rfl
  cold _ := resetMeetsTheInvariants.1
  power _ _ h := h
  lane _ _ _ _ h _ := h

/-- The items of an ENTITLE message keep the table's bound and order (R120). -/
theorem entitle_account (items : List Entitlement) {s : State} (h : s.AccountOk) : (entitle items s).AccountOk := by
  have start : s.entitling.ok := h.1
  have taken : (items.foldl (entitleItem s.tmb) s.entitling).ok := foldl_entitleItem_ok start
  have marked : ({ s with enu := { s.enu with
      table := (items.foldl (entitleItem s.tmb) s.entitling).table
      tiersDropped := (items.foldl (entitleItem s.tmb) s.entitling).dropped } } : State).AccountOk := ⟨taken, h.2⟩
  change State.AccountOk (if _ then entChanged .entitle _ else _)
  split
  · exact marked.of_enu (by simp [State.entitling])
  · exact marked

theorem revoke_account (tiers : List Nat) {s : State} (h : s.AccountOk) : (revoke tiers s).AccountOk := by
  have enu : (revoke tiers s).enu = { s.enu with table := s.enu.table.filter fun e => !tiers.contains e.tier } := by
    simp only [revoke]
    split <;> simp
  refine h.sublists ?_ ?_ ?_ ?_ ?_ <;> rw [enu]
  exacts [List.filter_sublist, h.2.2.1]

theorem credit_account (granted through : Nat) {s : State} (h : s.AccountOk) : (credit granted through s).AccountOk := by
  have enu : (credit granted through s).enu = { s.enu with
      granted
      log := s.enu.log.filter fun r => decide (through < r.seq)
      spent := logTotal (s.enu.log.filter fun r => decide (through < r.seq)) } := by
    simp only [credit]
    split <;> simp
  refine h.sublists ?_ ?_ ?_ ?_ ?_ <;> rw [enu]
  exact List.filter_sublist

theorem applyEntitlementSection_account (x : Section) {s : State} (h : s.AccountOk) :
    (applyEntitlementSection x s).AccountOk := by
  rw [applyEntitlementSection]
  split
  · exact h
  split
  · exact h
  rename_i m _
  have counted : ({ s with enu := { s.enu with applied := satInc max32 s.enu.applied } } : State).AccountOk := h
  cases m with
  | entitle items => exact entitle_account items counted
  | revoke tiers => exact revoke_account tiers counted
  | credit granted through => exact credit_account granted through counted
  | group number position => exact counted

theorem expireEntitlements_account {s : State} (h : s.AccountOk) : (expireEntitlements s).AccountOk := by
  have enu : (expireEntitlements s).enu = { s.enu with
      table := s.enu.table.filter fun e => !s.tmb.expired e.expiry
      grants := s.enu.grants.filter fun g => !s.tmb.expired g.expiry } := by
    simp only [expireEntitlements]
    split <;> simp
  refine h.sublists ?_ ?_ ?_ ?_ ?_ <;> rw [enu]
  exacts [List.filter_sublist, List.filter_sublist, h.2.2.1]

/-- The grants left for a new one: fewer than 16, each listed before, and none of them for the event bought (R115, R130). -/
theorem roomForGrant_spec {s : State} {service event : Nat} (ungranted : s.hasCurrentGrant service event = false)
    (few : s.enu.grants.length ≤ 16)
    (room : s.enu.grants.length < 16 ∨ ∃ g ∈ s.enu.grants, s.tmb.expired g.expiry = true) :
    (s.roomForGrant service event).Sublist s.enu.grants ∧ (s.roomForGrant service event).length < 16
      ∧ ∀ g ∈ s.roomForGrant service event, ¬ (g.service = service ∧ g.event = event) := by
  rcases Nat.lt_or_ge s.enu.grants.length 16 with few | full
  · rw [roomForGrant_of_room ungranted few]
    exact ⟨List.filter_sublist, (List.length_filter_le _ _).trans_lt few, fun g hg =>
      of_decide_eq_true (List.mem_filter.mp hg).2⟩
  · rw [roomForGrant_of_full service event full]
    refine ⟨List.filter_sublist, ?_, fun g hg same => ?_⟩
    · have gone : ∃ g ∈ s.enu.grants, ¬ (!s.tmb.expired g.expiry) = true := by simpa [full.not_gt] using room
      have fewer := List.length_filter_lt_length_iff_exists.mpr gone
      omega
    · obtain ⟨listed, current⟩ := List.mem_filter.mp hg
      have : s.hasCurrentGrant service event = true :=
        List.any_eq_true.mpr ⟨g, listed, by simp [Grant.isFor, same] at current ⊢; exact current⟩
      simp [ungranted] at this

/-- A purchase adds a grant, a record with the next sequence number, and its price (R116, R130). -/
theorem bought_account {s : State} {service event price seq : Nat} (h : s.AccountOk)
    (ungranted : s.hasCurrentGrant service event = false) (next : s.enu.nextSeq = some seq) (logRoom : s.enu.log.length < 32)
    (room : s.enu.grants.length < 16 ∨ ∃ g ∈ s.enu.grants, s.tmb.expired g.expiry = true) :
    ({ s with enu := s.bought service event price seq } : State).AccountOk := by
  obtain ⟨table, ⟨grantRoom, distinct⟩, spent, -, seqOrder, below⟩ := h
  obtain ⟨sub, grantsLeft, others⟩ := roomForGrant_spec ungranted grantRoom room
  refine ⟨table, ⟨?_, ?_⟩, ?_, ?_, ?_, ?_⟩
  · simpa using grantsLeft
  · rw [bought_grants, List.pairwise_append]
    refine ⟨distinct.sublist sub, List.pairwise_singleton _ _, fun g hg new hnew => ?_⟩
    obtain rfl := List.mem_singleton.mp hnew
    exact others g hg
  · simp [State.bought, logTotal, spent]
  · simpa [State.bought] using logRoom
  · refine List.pairwise_append.mpr ⟨seqOrder, List.pairwise_singleton _ _, fun r hr new hnew => ?_⟩
    obtain rfl := List.mem_singleton.mp hnew
    exact below r hr seq next
  · intro r hr n hn
    have after : n = seq + 1 := by
      simp only [State.bought] at hn
      split at hn <;> simp_all
    rcases List.mem_append.mp hr with old | new
    · exact after ▸ (below r old seq next).trans (Nat.lt_succ_self seq)
    · obtain rfl := List.mem_singleton.mp new
      exact after ▸ Nat.lt_succ_self seq

theorem carryOutPurchase_enu (service event price seq : Nat) (s : State) :
    (carryOutPurchase service event price seq s).enu = s.bought service event price seq := by
  simp only [carryOutPurchase, creditChanged_frame, entChanged_frame, answer_frame]
  rfl

theorem purchase_account (service event : Nat) {s : State} (h : s.AccountOk) : (purchase service event s).AccountOk := by
  have refused (result : Result) : (reply result s).AccountOk := h.of_enu (by simp)
  rw [purchase]
  split
  · exact refused _
  split
  · exact refused _
  split
  · exact refused _
  rename_i _ _ ungranted
  split
  · exact refused _
  split
  · exact refused _
  split
  · exact refused _
  split
  · exact refused _
  rename_i seq next
  split
  · exact refused _
  rename_i logRoom
  split
  · exact refused _
  rename_i room
  refine (bought_account (price := _) h (Bool.eq_false_iff.mpr ungranted) next (Nat.not_le.mp logRoom) ?_).of_enu
    (carryOutPurchase_enu service event _ seq s)
  simp only [Bool.and_eq_true, decide_eq_true_eq, Bool.not_eq_true', not_and, Bool.not_eq_false, List.any_eq_true] at room
  exact (Nat.lt_or_ge _ _).imp_right room

/-- Settles O4: the account is kept by the four commands that change it. -/
theorem everyStepKeepsTheAccount : Obligations.EveryStepKeepsTheAccount := by
  refine step_keeps (fun _ _ h => h) (fun i s t h answered => ?_) (fun s h => h.of_enu (by simp))
  rcases exec_enu_cases s answered with same | ⟨cause, rfl⟩ | rfl | rfl | rfl | rfl | rfl
  · exact h.of_enu same
  · exact accountOk_keptByResets.warmReset h answered
  · exact accountOk_keptByResets.coldStart answered
  · exact whenRunning_keeps h (consume_keeps h fun x _ => applyEntitlementSection_account x h) answered
  · simp only [exec, execEntExpiryFiring] at answered
    refine whenRunning_keeps h ?_ answered
    split
    · exact expireEntitlements_account h
    · exact h
  · simp only [exec, execPurchase] at answered
    refine whenRunning_keeps h ?_ answered
    split
    · exact purchase_account _ _ h
    · exact h
  · exact accountOk_keptByResets.dataLaneCellSent h answered

end Sys2Proof.Machine
end

section
/-! What the framing of cells keeps: a predicate that the ports' records, the reports and a cell taken by its route leave standing
(R2 to R7, R11). -/

namespace Sys2Proof.Machine

/-! ### The records of the ports -/

theorem withSerial_cin (port : Port) (f : SerialPort → SerialPort) (s : State) : ∃ cin, withSerial port f s = { s with cin } := by
  cases port <;> exact ⟨_, rfl⟩

theorem countReceived_cin (port : Port) (s : State) : ∃ cin, countReceived port s = { s with cin } := by
  cases port <;> exact ⟨_, rfl⟩

theorem countUnrouted_cin (port : Port) (s : State) : ∃ cin, countUnrouted port s = { s with cin } := by
  cases port <;> exact ⟨_, rfl⟩

theorem countParityError_cin (port : Port) (s : State) : ∃ cin, countParityError port s = { s with cin } := by
  cases port <;> exact ⟨_, rfl⟩

theorem countUnkeyed_cin (port : Port) (s : State) : ∃ cin, countUnkeyed port s = { s with cin } := by
  cases port <;> exact ⟨_, rfl⟩

/-! ### Framing -/

/-- What lets a predicate stand through the framing of cells: it does not speak of the ports' records or the reports, it stands
where a port loses sync, and a cell taken by the route of an entry keeps it. -/
structure KeptByFraming (P : State → Prop) : Prop where
  cin : ∀ s cin, P s → P { s with cin }
  emit : ∀ e s, P s → P (emit e s)
  send : ∀ h s, P s → P (send h s)
  resync : ∀ port s, P s → P { s with routes := RouteTable.resync s.routes port }
  take : ∀ k c s, P s → P (takeCell k c s)

namespace KeptByFraming
variable {P : State → Prop} (kept : KeptByFraming P) {s t : State}
include kept

theorem withSerial (port : Port) (f : SerialPort → SerialPort) (h : P s) : P (withSerial port f s) := by
  obtain ⟨cin, e⟩ := withSerial_cin port f s
  exact e ▸ kept.cin s cin h

theorem withStrobed (f : StrobedPort → StrobedPort) (h : P s) : P (withStrobed f s) := kept.cin s _ h

theorem lookup (port : Port) (c : Cell) (h : P s) : P (lookup port c s) := by
  rw [Machine.lookup]
  split
  · obtain ⟨cin, e⟩ := countUnrouted_cin port s
    exact e ▸ kept.cin s cin h
  · exact kept.take _ _ _ h
  · exact kept.take _ _ _ h
  · exact kept.take _ _ _ (kept.take _ _ _ h)

theorem checkHeader (port : Port) (c : Cell) (h : P s) : P (checkHeader port c s) := by
  have received : P (countReceived port s) := by
    obtain ⟨cin, e⟩ := countReceived_cin port s
    exact e ▸ kept.cin s cin h
  simp only [Machine.checkHeader]
  split
  · obtain ⟨cin, e⟩ := countParityError_cin port (countReceived port s)
    exact e ▸ kept.cin _ cin received
  split
  · exact received
  split
  · exact kept.withStrobed _ received
  · exact kept.lookup port c received

theorem losePort (port : Port) (h : P s) : P (losePort port s) := by
  have lost := kept.emit (.inputState port .lost) _ (kept.resync port _ (kept.withSerial port (fun p =>
    { p with sync := .hunt, goodSync := 0, failures := 0, idle := false, idleSince := none, taken := []
             syncLosses := satInc max16 p.syncLosses }) h))
  simp only [Machine.losePort]
  split
  · exact kept.send _ _ lost
  · exact lost

theorem noteArrival (port : Port) (p : SerialPort) (h : P s) : P (noteArrival port p s) := by
  simp only [Machine.noteArrival]
  split
  · exact kept.emit _ _ (kept.withSerial port _ h)
  · exact kept.withSerial port _ h

theorem frameCell (port : Port) (bytes : List Byte) (h : P s) : P (frameCell port bytes s) := by
  simp only [Machine.frameCell]
  split
  · exact kept.checkHeader port _ (kept.withSerial port _ h)
  split
  · exact kept.losePort port (kept.withSerial port _ h)
  · exact kept.withSerial port _ h

theorem takeBytes (port : Port) (bytes : List Byte) (h : P s) : P (takeBytes port bytes s) := by
  simp only [Machine.takeBytes]
  split
  · exact h
  split
  · exact h
  split
  · exact kept.withSerial port _ h
  · exact kept.withSerial port _ (kept.frameCell port _ (kept.noteArrival port _ (kept.withSerial port _ h)))

theorem takeStrobed (strobe : Bool) (bytes : List Byte) (h : P s) : P (takeStrobed strobe bytes s) := by
  have begun : P (if strobe then Machine.withStrobed StrobedPort.strobe s else s) := by
    split
    · exact kept.withStrobed _ h
    · exact h
  simp only [Machine.takeStrobed]
  split
  · exact h
  split
  · exact begun
  split
  · exact kept.withStrobed _ begun
  · simp only [frameStrobed]
    split
    · exact kept.checkHeader .l _ (kept.withStrobed _ begun)
    · exact kept.withStrobed _ (kept.withStrobed _ begun)

theorem cellArrival {port : Port} {bytes : List Byte} (h : P s) (answered : exec (.cellArrival port bytes) s = .next t) :
    P t := whenRunning_keeps h (kept.takeBytes port bytes h) answered

theorem portLCell {strobe : Bool} {bytes : List Byte} (h : P s) (answered : exec (.portLCell strobe bytes) s = .next t) :
    P t := whenRunning_keeps h (kept.takeStrobed strobe bytes h) answered

end KeptByFraming

/-! ### The gate (R163) -/

theorem gateOk_keptByResets : KeptByResets State.GateOk where
  warm _ _ _ := rfl
  cold _ := rfl
  power _ _ h := h
  lane _ _ _ _ h _ := h

theorem gateOk_keptByFraming : KeptByFraming State.GateOk where
  cin _ _ h := h
  emit _ _ h := gateOk_of_pgt (by simp) h
  send _ _ h := h
  resync _ _ h := h
  take k c s h := by
    rw [takeCell]
    split
    · exact h
    · exact useCell_gateOk _ _ _ _ _ h

/-- Settles O7: an event at the PGT composes the gate afresh, and nothing else touches the gate record. -/
theorem everyStepKeepsTheGateComposed : Obligations.EveryStepKeepsTheGateComposed := by
  have context (s : State) (h : s.GateOk) : (takeGateContext s).GateOk := by
    rw [takeGateContext]
    split
    · exact gateEvent_gateOk _ _
    · exact h
  have dscPosting (s : State) (h : s.GateOk) : (takeDscPosting s).GateOk := by
    rw [takeDscPosting]
    split
    · exact gateEvent_gateOk _ _
    · exact h
  have pluPosting (s : State) (h : s.GateOk) : (takePluPosting s).GateOk := by
    rw [takePluPosting]
    split
    · exact gateEvent_gateOk _ _
    · exact h
  refine step_keeps (fun _ _ h => h) (fun i s t h answered => ?_) (fun s h => gateOk_of_pgt (by simp) h)
  rcases exec_pgt_cases s answered with same | ⟨cause, rfl⟩ | rfl | ⟨poster, rfl⟩ | rfl | ⟨port, bytes, rfl⟩
    | ⟨strobe, bytes, rfl⟩ | rfl
  · exact gateOk_of_pgt same h
  · exact gateOk_keptByResets.warmReset h answered
  · exact gateOk_keptByResets.coldStart answered
  · cases poster
    · exact whenRunning_keeps h (dscPosting s h) answered
    · exact whenRunning_keeps h (pluPosting s h) answered
  · exact whenRunning_keeps h (context s h) answered
  · exact gateOk_keptByFraming.cellArrival h answered
  · exact gateOk_keptByFraming.portLCell h answered
  · exact gateOk_keptByResets.dataLaneCellSent h answered

end Sys2Proof.Machine
end

section
/-! The clock kept within its limits by every step (R36, R40, R42, R45, R48, R51, R52). -/

namespace Sys2Proof.Machine

/-- The Time Base within the limits that `State.ClockOk` gives it. -/
def Tmb.WithinLimits (t : Tmb) : Prop :=
  -4096 ≤ t.trim ∧ t.trim ≤ 4096 ∧ t.good < 3 ∧ t.ntFraction < 16777216 ∧ t.w ≤ 4294967295
    ∧ (-720 ≤ t.offset ∧ t.offset ≤ 840)
    ∧ ∀ time offset, t.pendingChange = some (time, offset) → -720 ≤ offset ∧ offset ≤ 840

theorem clockOk_iff (s : State) : s.ClockOk ↔ s.tmb.WithinLimits := .rfl

theorem State.ClockOk.of_tmb {s t : State} (h : s.ClockOk) (same : t.tmb = s.tmb) : t.ClockOk := by
  rw [clockOk_iff, same]
  exact h

theorem offsetOk_iff (offset : Int) : offsetOk offset = true ↔ -720 ≤ offset ∧ offset ≤ 840 := by simp [offsetOk]

/-! ### Running and stamps -/

namespace Tmb.WithinLimits
variable {t : Tmb} (h : t.WithinLimits)
include h

theorem runMs : t.runMs.WithinLimits := by
  obtain ⟨low, high, good, -, rest⟩ := h
  exact ⟨low, high, good, Nat.mod_lt _ (by decide), rest⟩

theorem correct (e : Int) : (t.correct e).WithinLimits := by
  obtain ⟨-, -, rest⟩ := h
  exact ⟨le_max_left _ _, max_le (by decide) (min_le_left _ _), rest⟩

theorem pullIn (e : Int) : (t.pullIn e).1.WithinLimits := by
  obtain ⟨low, high, -, rest⟩ := correct h e
  simp only [Tmb.pullIn]
  generalize (if e.natAbs ≤ 400 then t.good + 1 else 0) = good
  split
  · exact ⟨low, high, Nat.zero_lt_succ 2, rest⟩
  · rename_i few
    exact ⟨low, high, Nat.not_le.mp few, rest⟩

theorem load (stamp : NetTime) : (t.load stamp).WithinLimits := by
  obtain ⟨low, high, -, rest⟩ := h
  exact ⟨low, high, Nat.zero_lt_succ 2, rest⟩

theorem stepTo (stamp : NetTime) : (t.stepTo stamp).WithinLimits := by
  obtain ⟨low, high, -, rest⟩ := h
  exact ⟨low, high, Nat.zero_lt_succ 2, rest⟩

theorem stamp (stamp : NetTime) (flag : Bool) : (t.stamp stamp flag).1.WithinLimits := by
  have noted : Tmb.WithinLimits { t with
      lastError := some (t.phaseError stamp), lastStamp := some t.localTime, stamps := satInc max32 t.stamps } := h
  simp only [Tmb.stamp]
  split
  · exact load noted _
  split
  · exact stepTo noted _
  split
  · exact correct noted _
  · exact pullIn noted _

/-- W moves by an advance up to its limit, and by a rewind downwards (R46). -/
theorem check : t.check.1.WithinLimits := by
  obtain ⟨low, high, good, fraction, w, rest⟩ := h
  simp only [Tmb.check]
  split
  · exact ⟨low, high, good, fraction, w, rest⟩
  split
  · exact ⟨low, high, good, fraction, min_le_right _ _, rest⟩
  split
  · rename_i back
    split
    · exact ⟨low, high, good, fraction, Nat.zero_le _, rest⟩
    · refine ⟨low, high, good, fraction, ?_, rest⟩
      simp only [ticksPerSecond] at back ⊢
      omega
  · exact ⟨low, high, good, fraction, w, rest⟩

end Tmb.WithinLimits

theorem applyCheck_tmb (first : List Event) (s : State) : (applyCheck first s).tmb = s.tmb.check.1 := by
  simp [applyCheck]

theorem applyCheck_clock (first : List Event) {s : State} (h : s.ClockOk) : (applyCheck first s).ClockOk := by
  rw [clockOk_iff, applyCheck_tmb]
  exact Tmb.WithinLimits.check h

theorem stampArrival_clock (payload : List Byte) {s : State} (h : s.ClockOk) : (stampArrival payload s).ClockOk :=
  applyCheck_clock _ (show State.ClockOk { s with tmb := _ } from Tmb.WithinLimits.stamp h _ _)

theorem clockOk_keptByFraming : KeptByFraming State.ClockOk where
  cin _ _ h := h
  emit _ _ h := h.of_tmb (by simp)
  send _ _ h := h
  resync _ _ h := h
  take k c s h := by
    rw [takeCell]
    split
    · exact h
    rename_i r _
    have counted : State.ClockOk { s with routes := setAt s.routes k (some (r.take c)) } := h
    simp only [useCell]
    split
    case h_5 =>
      split
      · exact counted.of_tmb (by simp)
      · exact stampArrival_clock _ counted
    all_goals exact counted.of_tmb (by (repeat' split) <;> simp)

/-! ### TIME sections and offset changes -/

theorem setOffset_clock {offset : Int} (within : -720 ≤ offset ∧ offset ≤ 840) {s : State} (h : s.ClockOk) :
    (setOffset offset s).ClockOk := by
  obtain ⟨low, high, good, fraction, w, -, pending⟩ := h
  rw [setOffset_eq]
  exact ⟨low, high, good, fraction, w, within, pending⟩

theorem applyNext_clock {next : Option (Nat × Int)} (within : next.all (fun n => offsetOk n.2) = true) {s : State}
    (h : s.ClockOk) : (applyNext next s).ClockOk := by
  have dropped : State.ClockOk { s with tmb := { s.tmb with pendingChange := none } } := by
    obtain ⟨low, high, good, fraction, w, offset, -⟩ := h
    exact ⟨low, high, good, fraction, w, offset, fun _ _ e => nomatch e⟩
  simp only [applyNext]
  split
  · rename_i time offset
    have ok := (offsetOk_iff offset).mp within
    split
    · refine State.ClockOk.of_tmb (s := { s with tmb := { s.tmb with pendingChange := some (time, offset) } }) ?_ (by simp)
      obtain ⟨low, high, good, fraction, w, held, -⟩ := h
      refine ⟨low, high, good, fraction, w, held, fun time' offset' e => ?_⟩
      cases e
      exact ok
    · exact (setOffset_clock ok dropped).of_tmb (by simp)
  · exact dropped.of_tmb (by simp)

theorem applyTimeSection_clock (x : Section) {s : State} (h : s.ClockOk) : (applyTimeSection x s).ClockOk := by
  rw [applyTimeSection]
  split
  · exact h
  rename_i b accepted
  have accepts : s.tmb.accepts b = true := (Option.filter_eq_some_iff.mp accepted).2
  simp only [Tmb.accepts, Bool.and_eq_true, decide_eq_true_eq] at accepts
  obtain ⟨⟨⟨⟨-, offset⟩, next⟩, -⟩, inRange⟩ := accepts
  have counted : State.ClockOk { s with tmb := { s.tmb with applied := satInc max32 s.tmb.applied } } := h
  have anchored : State.ClockOk (if s.tmb.wallValid
      then realign b { s with tmb := { s.tmb with applied := satInc max32 s.tmb.applied } }
      else setWall b { s with tmb := { s.tmb with applied := satInc max32 s.tmb.applied } }) := by
    split
    · exact applyCheck_clock _ counted
    · obtain ⟨low, high, good, fraction, -, rest⟩ := counted
      exact ⟨low, high, good, fraction, Int.toNat_le.mpr inRange, rest⟩
  have moved := applyNext_clock next (setOffset_clock ((offsetOk_iff _).mp offset) anchored)
  by_cases wall : s.tmb.wallValid = true
  · simpa only [wall, if_true] using moved
  · simp only [wall, Bool.false_eq_true, if_false] at moved ⊢
    exact moved.of_tmb (by simp)

/-! ### Every step -/

theorem clockOk_keptByResets : KeptByResets State.ClockOk where
  warm _ _ _ := resetMeetsTheInvariants.2.2.2.2.2.2.1
  cold _ := resetMeetsTheInvariants.2.2.2.2.2.2.1
  power _ _ h := h
  lane _ _ _ _ h _ := h

theorem execOffsetChangeFiring_clock {s t : State} (h : s.ClockOk) (answered : execOffsetChangeFiring s = .next t) :
    t.ClockOk := by
  refine whenRunning_keeps h ?_ answered
  split
  · dsimp only
    split
    · rename_i time offset pending
      split
      · obtain ⟨low, high, good, fraction, w, held, within⟩ := h
        exact setOffset_clock (within time offset pending)
          ⟨low, high, good, fraction, w, held, fun _ _ e => nomatch e⟩
      · exact h
    · exact h
  · exact h

theorem readTable_clock (table first count : Nat) {s : State} (h : s.ClockOk) : (readTable table first count s).ClockOk := by
  rw [readTable]
  split
  · exact h.of_tmb (by simp)
  split
  · exact h.of_tmb (by simp)
  rw [clearTrimLimit]
  split
  · rw [clockOk_iff, (answerRecords_frame s _ _ _).2.2.2.1]
    exact h
  · exact h.of_tmb (by simp)

/-- Settles O10: NETWORK time runs within its rate, stamps and TIME sections pass their checks, and W is held at its limit. -/
theorem everyStepKeepsTheClockWithinLimits : Obligations.EveryStepKeepsTheClockWithinLimits := by
  refine step_keeps (fun _ _ h => h) (fun i s t h answered => ?_) (fun s h => ?_)
  · rcases exec_tmb_cases s answered with same | ⟨cause, rfl⟩ | rfl | ⟨port, bytes, rfl⟩ | ⟨strobe, bytes, rfl⟩ | rfl
      | rfl | rfl | rfl | rfl | rfl
    · exact h.of_tmb same
    · exact clockOk_keptByResets.warmReset h answered
    · exact clockOk_keptByResets.coldStart answered
    · exact clockOk_keptByFraming.cellArrival h answered
    · exact clockOk_keptByFraming.portLCell h answered
    · refine whenRunning_keeps h ?_ answered
      split
      · exact State.ClockOk.of_tmb (s := { s with tmb := { s.tmb with recovery := .holdover } }) h (by simp)
      · exact h
    · exact whenRunning_keeps h (applyCheck_clock [] h) answered
    · exact whenRunning_keeps h (consume_keeps h fun x _ => applyTimeSection_clock x h) answered
    · exact execOffsetChangeFiring_clock h answered
    · simp only [exec, execReadTable] at answered
      refine whenRunning_keeps h ?_ answered
      split
      · exact readTable_clock _ _ _ h
      · exact h
    · exact clockOk_keptByResets.dataLaneCellSent h answered
  · rw [tick]
    split
    · exact Tmb.WithinLimits.runMs h
    · exact h

end Sys2Proof.Machine
end

section
/-! The profiles kept within their ranges by every step (R148, R157). -/

namespace Sys2Proof.Machine

/-! ### What leaves the profiles as they were -/

/-- Two parts with the same profiles and the same active profile. -/
def State.SameProfiles (t s : State) : Prop := t.plu.profiles = s.plu.profiles ∧ t.plu.active = s.plu.active

theorem State.SameProfiles.of_plu {s t : State} (same : t.plu = s.plu) : t.SameProfiles s :=
  ⟨congrArg Plu.profiles same, congrArg Plu.active same⟩

theorem State.ProfilesOk.of_same {s t : State} (h : s.ProfilesOk) (same : t.SameProfiles s) : t.ProfilesOk := by
  obtain ⟨profiles, active⟩ := same
  rw [State.ProfilesOk, Plu.profile, profiles, active]
  exact h

theorem evalRating_profiles (s : State) : (evalRating s).SameProfiles s := ⟨rfl, rfl⟩

theorem evalLocked_profiles (s : State) : (evalLocked s).SameProfiles s := ⟨rfl, rfl⟩

theorem evalHours_profiles (s : State) : (evalHours s).SameProfiles s := ⟨rfl, rfl⟩

theorem evalBudget_profiles (s : State) : (evalBudget s).SameProfiles s := ⟨rfl, rfl⟩

theorem stopOverride_profiles (cause : OverrideCause) (s : State) : (stopOverride cause s).SameProfiles s := by
  rw [stopOverride]
  split
  · exact ⟨rfl, rfl⟩
  · dsimp only
    split <;> simp [State.SameProfiles, evalMask, withPosted]

theorem beginOverride_profiles (scope : Option Nat) (minutes : Nat) (s : State) :
    (beginOverride scope minutes s).SameProfiles s := by
  simp [State.SameProfiles, beginOverride, evalMask, withPosted]

theorem override_profiles (minutes scope : Nat) (s : State) : (override minutes scope s).SameProfiles s := by
  have refused (result : Result) : (reply result s).SameProfiles s := .of_plu (by simp)
  rw [override]
  split
  · exact refused _
  split
  · exact refused _
  split
  · exact beginOverride_profiles _ _ _
  split
  · exact refused _
  · exact beginOverride_profiles _ _ _

theorem applyRatingSection_profiles (x : Section) (s : State) : (applyRatingSection x s).SameProfiles s := by
  simp only [applyRatingSection]
  (repeat' split) <;> exact ⟨rfl, rfl⟩

theorem takeContext_profiles (cause : ContextCause) (service mapStream : Option Nat) (s : State) :
    (takeContext cause service mapStream s).SameProfiles s := by
  simp only [takeContext]
  split
  · exact stopOverride_profiles _ _
  · exact ⟨rfl, rfl⟩

theorem lockChanged_profiles (n : Nat) (s : State) : (lockChanged n s).SameProfiles s := by
  rw [lockChanged]
  split <;> exact ⟨rfl, rfl⟩

theorem spentTest_profiles (n : Nat) (before : Profile) (s : State) : (spentTest n before s).SameProfiles s := by
  simp only [spentTest]
  split
  · exact .of_plu (by simp)
  · exact ⟨rfl, rfl⟩

/-! ### One profile changed -/

theorem profile_cold_ok : Profile.cold.Ok :=
  ⟨by decide, by decide, by decide, by decide, by decide, by decide, .nil, fun _ h => absurd h List.not_mem_nil⟩

theorem State.ProfilesOk.profile {s : State} (h : s.ProfilesOk) (n : Nat) : (s.plu.profile n).Ok := by
  obtain ⟨-, -, each, -⟩ := h
  rw [Plu.profile, List.getD_eq_getElem?_getD]
  rcases found : s.plu.profiles[n]? with _ | p
  · exact profile_cold_ok
  · exact each p (List.mem_of_getElem? found)

/-- A profile within its ranges may take the place of one; profile 0 stays no follower (R148). -/
theorem withProfile_ok {n : Nat} {f : Profile → Profile} {s : State} (h : s.ProfilesOk) (ok : (f (s.plu.profile n)).Ok)
    (leader : n = 0 → (s.plu.profile n).follow = false → (f (s.plu.profile n)).follow = false) :
    (withProfile n f s).ProfilesOk := by
  obtain ⟨four, active, each, first⟩ := h
  refine ⟨by simpa [withProfile, setAt] using four, active, fun p hp => ?_, ?_⟩
  · rcases List.mem_or_eq_of_mem_set hp with old | rfl
    · exact each p old
    · exact ok
  · by_cases zero : n = 0
    · subst zero
      have leads := leader rfl first
      simpa [withProfile, setAt, Plu.profile, four] using leads
    · simpa [withProfile, setAt, Plu.profile, List.getElem?_set, zero] using first

theorem warnTest_ok (n : Nat) {s : State} (h : s.ProfilesOk) : (warnTest n s).ProfilesOk := by
  have warned : (withProfile n (fun p => { p with warned := true }) s).ProfilesOk :=
    withProfile_ok h (h.profile n) fun _ leads => leads
  rw [warnTest]
  split
  · exact warned.of_same (.of_plu (by simp))
  · exact h

theorem budgetTests_ok (n : Nat) (before : Profile) {s : State} (h : s.ProfilesOk) :
    (budgetTests n before s).ProfilesOk :=
  (warnTest_ok n h).of_same (spentTest_profiles n before _)

/-! ### The accrual and the day roll -/

theorem addMinute_ok {p : Profile} (h : p.Ok) : p.addMinute.Ok := by
  obtain ⟨ceiling, budget, latch, -, -, rest⟩ := h
  exact ⟨ceiling, budget, latch, min_le_left _ _, Nat.zero_le _, rest⟩

theorem accrueMinute_ok {s : State} (h : s.ProfilesOk) : (accrueMinute s).ProfilesOk := by
  rw [accrueMinute]
  have added : (withProfile s.plu.active Profile.addMinute s).ProfilesOk :=
    withProfile_ok h (addMinute_ok (h.profile _)) fun _ leads => leads
  exact (budgetTests_ok _ _ added).of_same (evalBudget_profiles _)

theorem addSecond_ok {p : Profile} (h : p.Ok) (early : p.seconds < 59) : Profile.Ok { p with seconds := p.seconds + 1 } := by
  obtain ⟨ceiling, budget, latch, used, -, rest⟩ := h
  exact ⟨ceiling, budget, latch, used, early, rest⟩

theorem accrueSecond_ok {s : State} (h : s.ProfilesOk) : (accrueSecond s).ProfilesOk := by
  rw [accrueSecond]
  generalize s.plu.remainder - 1000 = left
  have counted : State.ProfilesOk { s with plu := { s.plu with remainder := left } } := h
  split
  · exact accrueMinute_ok counted
  · rename_i early
    exact withProfile_ok counted (addSecond_ok (h.profile s.plu.active) (Nat.not_le.mp early)) fun _ leads => leads

theorem roll_ok {p : Profile} (h : p.Ok) : p.roll.Ok := by
  rw [Profile.roll]
  split
  · obtain ⟨ceiling, -, latch, -, -, rest⟩ := h
    exact ⟨ceiling, latch, latch, Nat.zero_le _, Nat.zero_le _, rest⟩
  · exact h

theorem roll_follow (p : Profile) : p.roll.follow = p.follow := by
  rw [Profile.roll]
  split <;> rfl

theorem rollTests_ok (before : Plu) {s : State} (h : s.ProfilesOk) : (rollTests before s).ProfilesOk := by
  rw [rollTests]
  generalize List.range 4 = numbers
  induction numbers generalizing s with
  | nil => exact h
  | cons n rest ih =>
    refine ih ?_
    dsimp only
    split
    · exact budgetTests_ok _ _ h
    · exact h

theorem rollDay_ok (stored : Int) {s : State} (h : s.ProfilesOk) : (rollDay stored s).ProfilesOk := by
  have rolled : State.ProfilesOk { s with plu := { s.plu with
      profiles := s.plu.profiles.map Profile.roll, dayNumber := some s.tmb.day } } := by
    obtain ⟨four, active, each, first⟩ := h
    refine ⟨by simpa using four, active, fun p hp => ?_, ?_⟩
    · obtain ⟨q, hq, rfl⟩ := List.mem_map.mp hp
      exact roll_ok (each q hq)
    · rcases found : s.plu.profiles[0]? with _ | p <;> simp_all [Plu.profile, Profile.cold, roll_follow]
  exact (rollTests_ok _ (rolled.of_same (.of_plu (by simp)))).of_same ⟨rfl, rfl⟩

theorem rollIfRisen_ok {s : State} (h : s.ProfilesOk) : (rollIfRisen s).ProfilesOk := by
  rw [rollIfRisen]
  split
  · split
    · exact rollDay_ok _ h
    · exact h
  · exact h

theorem rollAtWallSet_ok {s : State} (h : s.ProfilesOk) : (rollAtWallSet s).ProfilesOk := by
  rw [rollAtWallSet]
  split
  · split
    · exact h
    · exact rollDay_ok _ h
  · exact h

/-! ### Requests -/

theorem State.ProfilesOk.replied {s : State} (h : s.ProfilesOk) (result : Result) : (reply result s).ProfilesOk :=
  h.of_same (.of_plu (by simp))

theorem setBudget_ok (profile mode minutes timing : Nat) {s : State} (h : s.ProfilesOk) :
    (setBudget profile mode minutes timing s).ProfilesOk := by
  rw [setBudget]
  split
  · exact h.replied _
  split
  · exact h.replied _
  rename_i inRange
  simp only [Bool.or_eq_true, decide_eq_true_eq, not_or, Nat.not_lt] at inRange
  obtain ⟨⟨⟨-, minutesOk⟩, -⟩, -⟩ := inRange
  obtain ⟨ceiling, budget, latch, rest⟩ := h.profile profile
  split
  · exact (withProfile_ok h ⟨ceiling, budget, minutesOk, rest⟩ fun _ leads => leads).replied _
  · exact (budgetTests_ok _ _ ((withProfile_ok h ⟨ceiling, minutesOk, minutesOk, rest⟩ fun _ leads => leads).replied _)).of_same
      (evalBudget_profiles _)

theorem selectProfile_ok (n : Nat) {s : State} (h : s.ProfilesOk) : (selectProfile n s).ProfilesOk := by
  rw [selectProfile]
  split
  · exact h.replied _
  · rename_i inRange
    have selected : State.ProfilesOk { s with plu := { s.plu with active := n } } := by
      obtain ⟨four, -, rest⟩ := h
      exact ⟨four, Nat.not_lt.mp inRange, rest⟩
    have stopped := (selected.replied .ok).of_same (stopOverride_profiles .profile _)
    refine State.ProfilesOk.of_same ?_ (evalBudget_profiles _)
    refine State.ProfilesOk.of_same ?_ (evalHours_profiles _)
    refine State.ProfilesOk.of_same ?_ (evalLocked_profiles _)
    refine State.ProfilesOk.of_same ?_ (evalRating_profiles _)
    exact stopped.of_same ⟨rfl, rfl⟩

theorem setProfileLimits_ok (profile ceiling blocked policy follow : Nat) {s : State} (h : s.ProfilesOk) :
    (setProfileLimits profile ceiling blocked policy follow s).ProfilesOk := by
  rw [setProfileLimits]
  split
  · exact h.replied _
  rename_i inRange
  simp only [Bool.or_eq_true, decide_eq_true_eq, Bool.and_eq_true, beq_iff_eq, not_or, Nat.not_lt, not_and] at inRange
  obtain ⟨⟨⟨⟨⟨-, ceilingOk⟩, -⟩, -⟩, -⟩, leader⟩ := inRange
  have limited := (withProfile_ok (f := fun p =>
      { p with ceiling, blocked := BitVec.ofNat 4 blocked, blockUnrated := policy == 1, follow := follow == 1 }) h
    (by
      obtain ⟨-, rest⟩ := h.profile profile
      exact ⟨ceilingOk, rest⟩)
    fun zero _ => beq_eq_false_iff_ne.mpr (leader zero)).replied .ok
  dsimp only
  split
  · exact limited.of_same (evalRating_profiles _)
  · exact limited

theorem lockService_ok (profile service : Nat) {s : State} (h : s.ProfilesOk) : (lockService profile service s).ProfilesOk := by
  rw [lockService]
  split
  · exact h.replied _
  rename_i inRange
  split
  · exact h.replied _
  rename_i absent
  split
  · exact h.replied _
  rename_i room
  obtain ⟨ceiling, budget, latch, used, seconds, -, distinct, each⟩ := h.profile profile
  refine ((withProfile_ok h ⟨ceiling, budget, latch, used, seconds, ?_, ?_, ?_⟩ fun _ leads => leads).replied _).of_same
    (lockChanged_profiles _ _)
  · simpa using room
  · refine List.nodup_append.mpr ⟨distinct, List.nodup_singleton _, fun m hm k hk same => ?_⟩
    obtain rfl := List.mem_singleton.mp hk
    exact absent (by simpa [same] using hm)
  · intro m hm
    rcases List.mem_append.mp hm with old | new
    · exact each m old
    · obtain rfl := List.mem_singleton.mp new
      simp only [Bool.or_eq_true, not_or] at inRange
      simpa [serviceOk, Nat.one_le_iff_ne_zero] using inRange.2

theorem unlockService_ok (profile service : Nat) {s : State} (h : s.ProfilesOk) :
    (unlockService profile service s).ProfilesOk := by
  rw [unlockService]
  split
  · exact h.replied _
  split
  · exact h.replied _
  obtain ⟨ceiling, budget, latch, used, seconds, room, distinct, each⟩ := h.profile profile
  exact ((withProfile_ok h ⟨ceiling, budget, latch, used, seconds, (List.length_filter_le _ _).trans room,
    distinct.filter _, fun m hm => each m (List.mem_of_mem_filter hm)⟩ fun _ leads => leads).replied _).of_same
    (lockChanged_profiles _ _)

theorem endOverride_profiles (s : State) : (endOverride s).SameProfiles s := by
  rw [endOverride]
  split
  · obtain ⟨profiles, active⟩ := stopOverride_profiles .ended (reply .ok s)
    exact ⟨profiles.trans (by simp), active.trans (by simp)⟩
  · exact .of_plu (by simp)

theorem hostMute_profiles (value : Nat) (s : State) : (hostMute value s).SameProfiles s := by
  rw [hostMute]
  split
  · exact .of_plu (by simp)
  · simp [State.SameProfiles, withPosted]

/-! ### Every step -/

theorem pluEvent_ok {effect : State → State} {s : State} (h : (effect s).ProfilesOk) : (pluEvent effect s).ProfilesOk := by
  rw [pluEvent_eq]
  exact h

theorem profilesOk_keptByResets : KeptByResets State.ProfilesOk where
  warm _ _ h := h
  cold _ := resetMeetsTheInvariants.2.2.2.2.2.2.2.1
  power _ _ h := h
  lane _ _ _ _ h _ := h

/-- Settles O11: each event at the PLU keeps the profiles, and nothing else touches them. -/
theorem everyStepKeepsTheProfilesWithinRanges : Obligations.EveryStepKeepsTheProfilesWithinRanges := by
  refine step_keeps (fun _ _ h => h) (fun i s t h answered => ?_) (fun s h => h.of_same (tick_profiles s))
  rcases exec_plu_cases s answered with same | ⟨cause, rfl⟩ | rfl | rfl | rfl | rfl | rfl | rfl | rfl | rfl | rfl | rfl
    | rfl | rfl | rfl | rfl | rfl | rfl | rfl | rfl | rfl | rfl | rfl
  · exact h.of_same (.of_plu same)
  · exact profilesOk_keptByResets.warmReset h answered
  · exact profilesOk_keptByResets.coldStart answered
  · exact whenRunning_keeps h (consume_keeps h fun x _ => pluEvent_ok (h.of_same (applyRatingSection_profiles x _))) answered
  · simp only [exec, execNowEventNotice] at answered
    refine whenRunning_keeps h ?_ answered
    split
    · exact pluEvent_ok (h.of_same ⟨rfl, rfl⟩)
    · exact h
  · simp only [exec, execPluContextChange] at answered
    refine whenRunning_keeps h ?_ answered
    split
    · exact pluEvent_ok (h.of_same (takeContext_profiles _ _ _ _))
    · exact h
  · simp only [exec, execWindowStatesHandover] at answered
    refine whenRunning_keeps h ?_ answered
    split
    · exact pluEvent_ok (h.of_same ⟨rfl, rfl⟩)
    · exact h
  · simp only [exec, execGateStateHandover] at answered
    refine whenRunning_keeps h ?_ answered
    split
    · exact pluEvent_ok (h.of_same ⟨rfl, rfl⟩)
    · exact h
  · simp only [exec, execBudgetAccrualMinute] at answered
    refine whenRunning_keeps h ?_ answered
    split
    · exact pluEvent_ok (accrueSecond_ok h)
    · exact h
  · simp only [exec, execDayRollFiring] at answered
    refine whenRunning_keeps h ?_ answered
    split
    · exact pluEvent_ok (rollIfRisen_ok h)
    · exact h
  · simp only [exec, execPluOffsetChange] at answered
    refine whenRunning_keeps h ?_ answered
    split
    · exact pluEvent_ok (rollIfRisen_ok h)
    · exact h
  · simp only [exec, execPluWallSet] at answered
    refine whenRunning_keeps h ?_ answered
    split
    · exact pluEvent_ok (rollAtWallSet_ok h)
    · exact h
  · simp only [exec, execSelectProfile] at answered
    refine whenRunning_keeps h ?_ answered
    split
    · exact pluEvent_ok (selectProfile_ok _ h)
    · exact h
  · simp only [exec, execSetProfileLimits] at answered
    refine whenRunning_keeps h ?_ answered
    split
    · exact pluEvent_ok (setProfileLimits_ok _ _ _ _ _ h)
    · exact h
  · simp only [exec, execLockService] at answered
    refine whenRunning_keeps h ?_ answered
    split
    · exact pluEvent_ok (lockService_ok _ _ h)
    · exact h
  · simp only [exec, execUnlockService] at answered
    refine whenRunning_keeps h ?_ answered
    split
    · exact pluEvent_ok (unlockService_ok _ _ h)
    · exact h
  · simp only [exec, execSetBudget] at answered
    refine whenRunning_keeps h ?_ answered
    split
    · exact pluEvent_ok (setBudget_ok _ _ _ _ h)
    · exact h
  · simp only [exec, execOverride] at answered
    refine whenRunning_keeps h ?_ answered
    split
    · exact pluEvent_ok (h.of_same (override_profiles _ _ s))
    · exact h
  · simp only [exec, execEndOverride] at answered
    refine whenRunning_keeps h ?_ answered
    split
    · exact pluEvent_ok (h.of_same (endOverride_profiles s))
    · exact h
  · simp only [exec, execOverrideEndFiring] at answered
    refine whenRunning_keeps h ?_ answered
    split
    · split
      · exact pluEvent_ok (h.of_same (stopOverride_profiles _ _))
      · exact h
    · exact h
  · simp only [exec, execHostMute] at answered
    refine whenRunning_keeps h ?_ answered
    split
    · exact pluEvent_ok (h.of_same (hostMute_profiles _ s))
    · exact h
  · exact profilesOk_keptByResets.dataLaneCellSent h answered
  · simp only [exec, execBudgetAccrualSecond] at answered
    refine whenRunning_keeps h ?_ answered
    split
    · exact pluEvent_ok (accrueSecond_ok h)
    · exact h

end Sys2Proof.Machine
end

section
/-! What the route table's operations keep of the fixed routes (R9, R10, R15). -/

namespace Sys2Proof.Machine

/-- What R10 gives of a fixed route: all of a route but its counts, its continuity and its context. -/
def Route.Alike (r q : Route) : Prop :=
  q.port = r.port ∧ q.stream = r.stream ∧ q.use = r.use ∧ q.state = r.state ∧ q.owner = r.owner ∧ q.binding = r.binding

theorem Route.Alike.refl (r : Route) : r.Alike r := ⟨rfl, rfl, rfl, rfl, rfl, rfl⟩

theorem Route.Alike.trans {r q p : Route} (h : r.Alike q) (h' : q.Alike p) : r.Alike p := by
  obtain ⟨a, b, c, d, e, f⟩ := h
  obtain ⟨a', b', c', d', e', f'⟩ := h'
  exact ⟨a'.trans a, b'.trans b, c'.trans c, d'.trans d, e'.trans e, f'.trans f⟩

/-- A LIVE route of owner FIXED. -/
def Route.StandsFixed (r : Route) : Prop := r.state = .live ∧ r.owner = .fixed

theorem Route.Alike.standsFixed {r q : Route} (h : r.Alike q) (fixed : r.StandsFixed) : q.StandsFixed := by
  obtain ⟨-, -, -, state, owner, -⟩ := h
  exact ⟨state.trans fixed.1, owner.trans fixed.2⟩

/-- From one table to the next every LIVE route of owner FIXED stays in its entry, but for its counts, its continuity and its
context. -/
def RouteTable.KeepsFixed (t t' : RouteTable) : Prop :=
  t'.length = t.length
    ∧ ∀ (k : Nat) (r : Route), t[k]? = some (some r) → r.StandsFixed → ∃ q, t'[k]? = some (some q) ∧ r.Alike q

namespace RouteTable.KeepsFixed
variable {t t' t'' : RouteTable}

theorem refl (t : RouteTable) : t.KeepsFixed t := ⟨rfl, fun _ r h _ => ⟨r, h, .refl r⟩⟩

theorem trans (h : t.KeepsFixed t') (h' : t'.KeepsFixed t'') : t.KeepsFixed t'' := by
  refine ⟨h'.1.trans h.1, fun k r entry fixed => ?_⟩
  obtain ⟨q, entry', alike⟩ := h.2 k r entry fixed
  obtain ⟨p, entry'', alike'⟩ := h'.2 k q entry' (alike.standsFixed fixed)
  exact ⟨p, entry'', alike.trans alike'⟩

/-- Entries changed each by itself. -/
theorem map {f : Option Route → Option Route} (h : ∀ r : Route, r.StandsFixed → ∃ q, f (some r) = some q ∧ r.Alike q) :
    t.KeepsFixed (t.map f) := by
  refine ⟨t.length_map f, fun k r entry fixed => ?_⟩
  obtain ⟨q, e, alike⟩ := h r fixed
  exact ⟨q, by rw [List.getElem?_map, entry, Option.map_some, e], alike⟩

theorem mapRoutes {f : Route → Route} (h : ∀ r : Route, r.StandsFixed → r.Alike (f r)) : t.KeepsFixed (t.mapRoutes f) :=
  map fun r fixed => ⟨f r, rfl, h r fixed⟩

theorem free {p : Route → Bool} (h : ∀ r : Route, r.StandsFixed → p r = false) : t.KeepsFixed (t.free p) :=
  map fun r fixed => ⟨r, by simp [Option.filter, h r fixed], .refl r⟩

/-- One entry set, which held no route to be kept or holds the like of it. -/
theorem setAt {k : Nat} {entry : Option Route}
    (h : ∀ r : Route, t[k]? = some (some r) → r.StandsFixed → ∃ q, entry = some q ∧ r.Alike q) :
    t.KeepsFixed (setAt t k entry) := by
  refine ⟨List.length_set, fun j r held fixed => ?_⟩
  by_cases same : k = j
  · subst same
    obtain ⟨q, rfl, alike⟩ := h r held fixed
    have inside : k < t.length := (List.getElem?_eq_some_iff.mp held).1
    exact ⟨q, by simp [Machine.setAt, inside], alike⟩
  · exact ⟨r, by simp [Machine.setAt, same, held], .refl r⟩

end RouteTable.KeepsFixed

/-! ### Entries found -/

theorem RouteTable.route_eq_some {t : RouteTable} {k : Nat} {r : Route} : t.route k = some r ↔ t[k]? = some (some r) := by
  simp [RouteTable.route, Option.join_eq_some_iff]

/-- What a search finds is in the table, and passes the test. -/
theorem RouteTable.find_eq_some {t : RouteTable} {p : Route → Bool} {k : Nat} (h : t.find p = some k) :
    ∃ r, t[k]? = some (some r) ∧ p r = true := by
  obtain ⟨inside, test, -⟩ := List.findIdx?_eq_some_iff_getElem.mp h
  rcases entry : t[k] with _ | r
  · simp [entry] at test
  · exact ⟨r, by rw [List.getElem?_eq_getElem inside, entry], by simpa [entry] using test⟩

theorem RouteTable.find_eq_none {t : RouteTable} {p : Route → Bool} :
    t.find p = none ↔ ∀ r, some r ∈ t → p r = false := by
  simp only [RouteTable.find, indexOf, List.findIdx?_eq_none_iff]
  constructor
  · intro h r hr
    simpa using h (some r) hr
  · intro h entry hentry
    cases entry with
    | none => rfl
    | some r => simpa using h r hentry

theorem RouteTable.lowestFree_eq_some {t : RouteTable} {k : Nat} (h : t.lowestFree = some k) : t[k]? = some none := by
  obtain ⟨inside, test, -⟩ := List.findIdx?_eq_some_iff_getElem.mp h
  rw [List.getElem?_eq_getElem inside, Option.isNone_iff_eq_none.mp test]

/-! ### The table's operations -/

namespace RouteTable.KeepsFixed
variable {t t' : RouteTable}

theorem freeLive : t.KeepsFixed (t.free Route.liveChange) :=
  free fun r fixed => by simp [Route.liveChange, fixed.2]

theorem freeArmed : t.KeepsFixed (t.free Route.isArmed) :=
  free fun r fixed => by simp [Route.isArmed, fixed.1]

theorem resync (port : Port) : t.KeepsFixed (t.resync port) :=
  mapRoutes fun r _ => by
    split <;> exact ⟨rfl, rfl, rfl, rfl, rfl, rfl⟩

theorem convert : t.KeepsFixed t.convert :=
  freeLive.trans (mapRoutes fun r fixed => by
    rw [Route.convert, if_neg (by simp [fixed.1])]
    exact .refl r)

theorem displaced {hosts : List Route} (h : ∀ r ∈ hosts, r.owner = .host) : t.KeepsFixed (t.free fun r => hosts.contains r) :=
  free fun r fixed => by
    rw [List.contains_eq_mem, decide_eq_false_iff_not]
    exact fun listed => by simpa [fixed.2] using h r listed

theorem place {r : Route} (h : t.place r = some t') : t.KeepsFixed t' := by
  obtain ⟨k, lowest, rfl⟩ := Option.map_eq_some_iff.mp h
  exact setAt fun q held => by simp [lowestFree_eq_some lowest] at held

theorem insertArmed {stream : Nat} {use : RouteUse} {binding : Binding} (h : t.insertArmed stream use binding = some t') :
    t.KeepsFixed t' := by
  unfold RouteTable.insertArmed at h
  split at h
  · rename_i k classes found
    obtain ⟨r, held, armed⟩ := find_eq_some found
    split at h
    · cases h
      refine setAt fun q held' fixed => ?_
      cases held.symm.trans held'
      simp [Route.isAt, fixed.1] at armed
    · cases h
  · cases h
  · split at h
    · cases h
    · exact place h

theorem insertArmed_getD (stream : Nat) (use : RouteUse) (binding : Binding) :
    t.KeepsFixed ((t.insertArmed stream use binding).getD t) := by
  rcases inserted : t.insertArmed stream use binding with _ | t'
  · exact refl t
  · exact insertArmed inserted

theorem insertChosen {use : RouteUse} {binding : Binding} {stream : Option Nat}
    (h : insertChosen use binding stream t = some t') : t.KeepsFixed t' := by
  cases stream with
  | none => cases h; exact refl t
  | some n => exact insertArmed h

theorem armedTable {m : ProgMap} {streams : LaneStreams} (h : armedTable m streams t = some t') : t.KeepsFixed t' := by
  simp only [Machine.armedTable, Option.bind_eq_some_iff] at h
  obtain ⟨t1, video, t2, audio, t3, data, key⟩ := h
  exact (((insertChosen video).trans (insertChosen audio)).trans (insertChosen data)).trans (insertChosen key)

theorem rebindLanes (before after : LaneStreams) : t.KeepsFixed (rebindLanes before after t) :=
  map fun r fixed => ⟨r, by simp [Route.liveChange, fixed.2], .refl r⟩

theorem insertLive (stream : Nat) (use : RouteUse) (binding : Binding) : t.KeepsFixed (t.insertLive stream use binding) := by
  rw [RouteTable.insertLive]
  split
  · exact refl t
  · rcases placed : t.place (.fresh .a stream use .live .change binding) with _ | t'
    · exact refl t
    · exact place placed

theorem insertLanes (keyed : Bool) (before after : LaneStreams) : t.KeepsFixed (insertLanes keyed before after t) := by
  rw [Machine.insertLanes]
  generalize presentUses = uses
  induction uses generalizing t with
  | nil => exact refl t
  | cons u rest ih =>
    refine trans ?_ ih
    dsimp only
    split
    · exact insertLive _ _ _
    · exact refl t

theorem rearmAudio {m : ProgMap} {audio : Option Lang} (h : rearmAudio m audio t = some t') : t.KeepsFixed t' := by
  rw [Machine.rearmAudio] at h
  split at h
  · split at h
    · cases h; exact refl t
    split at h
    · cases h
    · refine trans (free fun r fixed => ?_) (insertArmed h)
      simp [Route.isArmed, fixed.1]
  · cases h; exact refl t

theorem moveAudio {p : Presentation} {audio : Option Lang} {live : LaneStreams}
    (h : moveAudio p audio t = some (t', live)) : t.KeepsFixed t' := by
  simp only [Machine.moveAudio] at h
  split at h
  · split at h
    · cases h; exact refl t
    split at h
    · cases h
    · cases h; exact rebindLanes _ _
  · cases h; exact refl t

end RouteTable.KeepsFixed

end Sys2Proof.Machine
end

section
/-! What the channel change engine keeps: a predicate of the route table and the descrambler that the table's operations on routes
not fixed, and the four operations on the key records, leave standing (R15, R82 to R101). -/

namespace Sys2Proof.Machine

/-- What lets a predicate stand through the engine's operations. -/
structure KeptByEngine (P : State → Prop) : Prop where
  frame : ∀ {s t : State}, P s → t.routes = s.routes → t.dsc = s.dsc → t.rpq = s.rpq →
    t.rqh.inProgress = s.rqh.inProgress → P t
  emit : ∀ e {s}, P s → P (emit e s)
  answer : ∀ result data {s}, P s → P (answer result data s)
  table : ∀ {s : State} {routes : RouteTable}, P s → RouteTable.KeepsFixed s.routes routes → P { s with routes }
  freeActive : ∀ {s}, P s → P (freeActive s)
  freeArming : ∀ {s}, P s → P (freeArming s)
  claimArming : ∀ service stream {s}, P s → P (claimArming service stream s)
  swapRecords : ∀ parity {s}, P s → P (swapRecords parity s)

namespace KeptByEngine
variable {P : State → Prop} (kept : KeptByEngine P) {s t : State}
include kept

/-! ### Changes from their start to their end -/

theorem emitAll (es : List Event) (h : P s) : P (emitAll es s) :=
  List.foldlRecOn (motive := P) es _ h fun _ h e _ => kept.emit e h

theorem withCce (cce : Cce) (h : P s) : P { s with cce } := kept.frame h rfl rfl rfl rfl

theorem reply (result : Result) (h : P s) : P (reply result s) := kept.answer _ _ h

theorem enter (e : Engine) (c : Change) (h : P s) : P (enter e c s) := kept.frame h rfl rfl rfl rfl

theorem restartPortA (h : P s) : P (restartPortA s) := kept.frame (kept.table h (.resync .a)) rfl rfl rfl rfl

theorem enterWaitMap (c : Change) (h : P s) : P (enterWaitMap c s) :=
  kept.enter _ _ (kept.table h (.insertArmed_getD _ _ _))

theorem dropPresented (cause : ContextCause) (h : P s) : P (dropPresented cause s) :=
  kept.frame (kept.freeActive (kept.table h .freeLive)) rfl rfl rfl rfl

theorem startCross (c : Change) (h : P s) : P (startCross c s) :=
  kept.emit _ (kept.enter _ _ (kept.restartPortA (kept.dropPresented _ h)))

theorem startChange (target : Service) (audio : Option Lang) (h : P s) : P (startChange target audio s) := by
  simp only [Machine.startChange]
  split
  · split
    · exact kept.enter _ _ h
    · exact kept.startCross _ h
  · split
    · exact kept.enterWaitMap _ h
    · exact kept.startCross _ h

theorem releaseChange (h : P s) : P (releaseChange s) := kept.freeArming (kept.table h .freeArmed)

theorem enterIdle (h : P s) : P (enterIdle s) := by
  have idle : P { s with cce := { s.cce with engine := .idle, change := none, pendingTune := none } } := kept.frame h rfl rfl rfl rfl
  simp only [Machine.enterIdle]
  split
  · exact idle
  · split
    · exact kept.startChange _ _ idle
    · exact kept.emit _ idle

theorem endChange (reason : DoneReason) (h : P s) : P (endChange reason s) := by
  rw [Machine.endChange]
  split
  · exact h
  · exact kept.enterIdle (kept.emit _ (kept.releaseChange h))

theorem failTuning (reason : DoneReason) (h : P s) : P (failTuning reason s) := kept.endChange _ (kept.frame h rfl rfl rfl rfl)

theorem displaceHosts (h : P s) : P (displaceHosts s) := by
  refine kept.emitAll _ (kept.table h (.displaced (hosts := RouteTable.displaced s.routes) fun r hr => ?_))
  have isHost := (List.mem_filter.mp hr).2
  simp only [Bool.and_eq_true, beq_iff_eq] at isHost
  exact isHost.1

theorem splice (reason : DoneReason) (h : P s) : P (splice reason s) := by
  rw [Machine.splice]
  split
  · exact h
  · rename_i c _
    have swapped := kept.swapRecords c.parity (kept.displaceHosts (kept.table h .convert))
    exact kept.enterIdle (kept.withCce _ (kept.emit (.changeDone c.service reason) (kept.frame swapped rfl rfl rfl rfl)))

theorem enterWaitSplice (c : Change) (h : P s) : P (enterWaitSplice c s) := by
  simp only [Machine.enterWaitSplice]
  split
  · exact kept.enter _ _ h
  · exact kept.splice _ (kept.enter _ _ h)

theorem testWaitKey (h : P s) : P (testWaitKey s) := by
  rw [Machine.testWaitKey]
  split
  · split
    · exact kept.enterWaitSplice _ h
    · exact h
  · exact h

theorem parityReport (k : Slot) (h : P s) : P (parityReport k s) := by
  rw [Machine.parityReport]
  split
  · exact h
  · exact kept.testWaitKey (kept.frame h rfl rfl rfl rfl)

theorem testHandshake (h : P s) : P (testHandshake s) := by
  rw [Machine.testHandshake]
  split
  · split
    · exact kept.enterWaitMap _ h
    · exact h
  · exact h

/-! ### Programme maps -/

theorem armChange (c : Change) (m : ProgMap) (h : P s) : P (armChange c m s) := by
  simp only [Machine.armChange]
  split
  · exact kept.endChange _ h
  · rename_i armed
    split
    · exact kept.claimArming _ _ (kept.enter _ _ (kept.table h (.armedTable armed)))
    · exact kept.enterWaitSplice _ (kept.table h (.armedTable armed))

theorem countBadMap (h : P s) : P (countBadMap s) := kept.frame h rfl rfl rfl rfl

theorem liveUpdate (p : Presentation) (m : ProgMap) (h : P s) : P (liveUpdate p m s) := by
  simp only [Machine.liveUpdate]
  split
  · exact kept.countBadMap h
  · refine kept.emit _ (kept.displaceHosts ?_)
    exact kept.frame (kept.table h (.trans (.rebindLanes p.live (m.choose p.audio)) (.insertLanes _ _ _))) rfl rfl rfl rfl

theorem applyMapSection (x : Section) (h : P s) : P (applyMapSection x s) := by
  rw [Machine.applyMapSection]
  split
  · split
    · exact kept.countBadMap h
    · exact kept.armChange _ _ h
  · split
    · exact kept.countBadMap h
    · exact kept.liveUpdate _ _ h
  · exact h

/-! ### Requests -/

theorem tune (service : Nat) (audio : Option Lang) (h : P s) : P (tune service audio s) := by
  rw [Machine.tune]
  split
  · exact kept.reply _ h
  split
  · exact kept.reply _ h
  split
  · exact kept.reply _ h
  · dsimp only
    split
    · exact kept.frame (kept.reply .accepted h) rfl rfl rfl rfl
    · exact kept.startChange _ _ (kept.reply _ h)
    · exact kept.startChange _ _ (kept.releaseChange (kept.reply _ h))

theorem cancel (h : P s) : P (cancel s) := by
  rw [Machine.cancel]
  split
  · exact kept.reply _ h
  · exact kept.reply _ h
  · exact kept.endChange _ (kept.reply _ h)

theorem tunerReady (frequency : Nat) (h : P s) : P (tunerReady frequency s) := by
  rw [Machine.tunerReady]
  split
  · exact kept.reply _ h
  · exact kept.testHandshake (kept.frame (kept.reply .ok h) rfl rfl rfl rfl)

theorem tunerFail (frequency : Nat) (h : P s) : P (tunerFail frequency s) := by
  rw [Machine.tunerFail]
  split
  · exact kept.reply _ h
  · exact kept.failTuning _ (kept.reply _ h)

theorem setAudio (audio : Option Lang) (h : P s) : P (setAudio audio s) := by
  rw [Machine.setAudio]
  split
  · exact kept.reply _ h
  · split
    · exact kept.reply _ h
    · rename_i moved
      exact kept.reply _ (kept.frame (kept.table h (.moveAudio moved)) rfl rfl rfl rfl)
  · exact kept.reply _ h
  · exact kept.reply _ (kept.enter _ _ h)
  · exact kept.reply _ (kept.enter _ _ h)
  · rename_i c _ _ _ _ _
    split
    · exact kept.reply _ h
    · rename_i rearmed
      refine kept.reply _ (kept.enter _ _ (kept.table h ?_))
      rcases armed : c.map with _ | m <;> rw [armed] at rearmed
      · cases rearmed
        exact .refl _
      · exact .rearmAudio rearmed

theorem enterStandby (h : P s) : P (enterStandby s) := by
  simp only [Machine.enterStandby]
  split
  · exact kept.reply _ h
  · exact kept.withCce _ (kept.dropPresented .standby (kept.endChange .cancelled (kept.withCce _ (kept.reply .ok h))))

theorem wake (resume : Nat) (h : P s) : P (wake resume s) := by
  rw [Machine.wake]
  split
  · exact kept.reply _ h
  split
  · exact kept.reply _ h
  split
  · exact kept.reply _ (kept.frame h rfl rfl rfl rfl)
  dsimp only
  split
  · exact kept.reply _ (kept.frame h rfl rfl rfl rfl)
  · exact kept.startChange _ _ (kept.reply _ (kept.frame h rfl rfl rfl rfl))

theorem addRoute (port stream : Nat) (h : P s) : P (addRoute port stream s) := by
  rw [Machine.addRoute]
  split
  · exact kept.reply _ h
  split
  · exact kept.reply _ h
  split
  · exact kept.reply _ h
  split
  · exact kept.reply _ h
  split
  · exact kept.reply _ h
  · rename_i lowest
    refine kept.answer _ _ (kept.table h (.setAt fun q held => ?_))
    simp [RouteTable.lowestFree_eq_some lowest] at held

theorem dropRoute (port stream : Nat) (h : P s) : P (dropRoute port stream s) := by
  simp only [Machine.dropRoute]
  split
  · refine kept.reply _ (kept.table h (.free fun r fixed => ?_))
    simp [fixed.2]
  · exact kept.reply _ h

/-! ### The commands -/

/-- Every command of the engine and of the host's routes keeps such a predicate. -/
theorem command {i : Instr} (listed : i ∈ [Instr.tune, .portALockReport, .portAHuntReport, .tunerReady, .tunerFail, .tuneTimeout,
      .mapSection, .noMapTimeout, .armingReport, .waitKeyTimeout, .forcedSplice, .cancel, .setAudio, .standby, .wake, .addRoute,
      .dropRoute]) (h : P s) (answered : exec i s = .next t) : P t := by
  fin_cases listed
  · simp only [exec, execTune] at answered
    refine whenRunning_keeps h ?_ answered
    split
    · exact kept.tune _ _ h
    · exact h
  · simp only [exec, execPortALockReport] at answered
    refine whenRunning_keeps h ?_ answered
    split
    · split
      · exact kept.testHandshake (kept.enter _ _ (kept.frame h rfl rfl rfl rfl))
      · exact kept.frame h rfl rfl rfl rfl
    · exact h
  · simp only [exec, execPortAHuntReport] at answered
    refine whenRunning_keeps h ?_ answered
    split
    · split
      · exact kept.enter _ _ (kept.frame h rfl rfl rfl rfl)
      · exact kept.frame h rfl rfl rfl rfl
    · exact h
  · simp only [exec, execTunerReady] at answered
    refine whenRunning_keeps h ?_ answered
    split
    · exact kept.tunerReady _ h
    · exact h
  · simp only [exec, execTunerFail] at answered
    refine whenRunning_keeps h ?_ answered
    split
    · exact kept.tunerFail _ h
    · exact h
  · simp only [exec, execTuneTimeout] at answered
    refine whenRunning_keeps h ?_ answered
    split
    · exact kept.failTuning _ h
    · exact h
  · exact whenRunning_keeps h (consume_keeps h fun x rest => kept.applyMapSection x (kept.frame h rfl rfl rfl rfl)) answered
  · simp only [exec, execNoMapTimeout] at answered
    refine whenRunning_keeps h ?_ answered
    split
    · exact kept.endChange _ h
    · exact h
  · simp only [exec, execArmingReport] at answered
    refine whenRunning_keeps h ?_ answered
    split
    · exact kept.testWaitKey (kept.frame h rfl rfl rfl rfl)
    · exact h
  · simp only [exec, execWaitKeyTimeout] at answered
    refine whenRunning_keeps h ?_ answered
    split
    · split
      · exact kept.enterWaitSplice _ h
      · exact h
    · exact h
  · simp only [exec, execForcedSplice] at answered
    refine whenRunning_keeps h ?_ answered
    split
    · exact kept.splice _ (kept.frame h rfl rfl rfl rfl)
    · exact h
  · simp only [exec, execCancel] at answered
    refine whenRunning_keeps h ?_ answered
    split
    · exact kept.cancel h
    · exact h
  · simp only [exec, execSetAudio] at answered
    refine whenRunning_keeps h ?_ answered
    split
    · split
      · exact kept.setAudio _ h
      · exact kept.reply _ h
    · exact h
  · simp only [exec, execStandby] at answered
    refine whenRunning_keeps h ?_ answered
    split
    · exact kept.enterStandby h
    · exact h
  · simp only [exec, execWake] at answered
    refine whenRunning_keeps h ?_ answered
    split
    · exact kept.wake _ h
    · exact h
  · simp only [exec, execAddRoute] at answered
    refine whenRunning_keeps h ?_ answered
    split
    · exact kept.addRoute _ _ h
    · exact h
  · simp only [exec, execDropRoute] at answered
    refine whenRunning_keeps h ?_ answered
    split
    · exact kept.dropRoute _ _ h
    · exact h

/-! ### Cells -/

theorem gateEvent (change : Pgt → Pgt) (h : P s) : P (gateEvent change s) := by
  simp only [Machine.gateEvent]
  split
  · exact kept.frame h rfl rfl rfl rfl
  · have counted (pgt : Pgt) : P { s with pgt } := kept.frame h rfl rfl rfl rfl
    split
    · exact kept.frame (kept.emit _ (counted _)) rfl rfl rfl rfl
    · exact kept.emit _ (counted _)

theorem gateCatchUp (channels : List Channel) (h : P s) : P (gateCatchUp channels s) := by
  refine List.foldlRecOn (motive := P) s.inFlight _ h fun u h x _ => ?_
  split
  · unfold takeAtGate
    split
    · rw [takeDscPosting]
      split
      · exact kept.gateEvent _ (kept.frame h rfl rfl rfl rfl)
      · exact h
    · rw [takeGateContext]
      split
      · exact kept.gateEvent _ (kept.frame h rfl rfl rfl rfl)
      · exact h
    · exact h
  · exact h

theorem stampArrival (payload : List Byte) (h : P s) : P (stampArrival payload s) :=
  kept.emitAll _ (kept.frame h (by simp) (by simp) (by simp) (by simp))

/-- A cell forwarded by a LIVE present route, where a scrambled one keeps the predicate at the descrambler. -/
theorem forward (scrambled : ∀ (record : KeyRecord) k (c : Cell) (s : State), s.dsc.active = some record → P s →
    P (scrambledCell record k c s).2) (r : Route) (broken : Bool) (c : Cell) (h : P s) : P (forward r broken c s) := by
  refine kept.frame (s := (clearCell r c s).2) ?_ (by simp [Machine.forward]) (by simp [Machine.forward]) (by simp [Machine.forward])
    (by simp [Machine.forward])
  rw [clearCell]
  split
  · exact h
  · split
    · rename_i active
      exact scrambled _ _ _ _ active h
    · exact kept.frame h (by simp) (by simp) (by simp) (by simp)

theorem spliceOn (forwarded : ∀ (r : Route) (broken : Bool) (c : Cell) (s : State), P s → P (Machine.forward r broken c s))
    (k : Nat) (c : Cell) (h : P s) : P (spliceOn k c s) := by
  have spliced := kept.splice .ok h
  simp only [Machine.spliceOn]
  split
  · split
    · exact forwarded _ _ _ _ (kept.gateCatchUp _ spliced)
    · exact spliced
  · exact spliced

theorem observe (forwarded : ∀ (r : Route) (broken : Bool) (c : Cell) (s : State), P s → P (Machine.forward r broken c s))
    (k : Nat) (r : Route) (c : Cell) (h : P s) : P (observe k r c s) := by
  have ending {u : State} (hu : P u) : P (if r.use == .video && c.start && c.marker && u.cce.engine == .waitSplice
      then Machine.spliceOn k c u else u) := by
    split
    · exact kept.spliceOn forwarded _ _ hu
    · exact hu
  rw [Machine.observe]
  split
  · exact ending (kept.parityReport _ h)
  · exact ending h

theorem assemble (k : Nat) (c : Cell) (h : P s) : P (assemble k c s) := by
  rw [Machine.assemble]
  split
  · rename_i r found
    split
    · refine kept.frame (kept.table h (.setAt (k := k) fun q held _ => ⟨_, rfl, ?_⟩)) rfl rfl rfl rfl
      cases (RouteTable.route_eq_some.mp found).symm.trans held
      exact ⟨rfl, rfl, rfl, rfl, rfl, rfl⟩
    · exact h
  · exact h

theorem abandonEntry (k : Nat) (h : P s) : P (abandonEntry k s) := by
  refine kept.table h (.setAt fun q held _ => ⟨q.abandon, ?_, rfl, rfl, rfl, rfl, rfl, rfl⟩)
  rw [RouteTable.route_eq_some.mpr held, Option.map_some]

theorem sectionsCell (k : Nat) (r : Route) (broken : Bool) (c : Cell) (h : P s) : P (sectionsCell k r broken c s) := by
  rw [Machine.sectionsCell]
  split
  · exact kept.abandonEntry k (kept.frame h (by simp) (by simp) (by simp) (by simp))
  · split
    · exact kept.assemble k c (kept.abandonEntry k h)
    · exact kept.assemble k c h

theorem takeCell (scrambled : ∀ (record : KeyRecord) k (c : Cell) (s : State), s.dsc.active = some record → P s →
    P (scrambledCell record k c s).2) (k : Nat) (c : Cell) (h : P s) : P (takeCell k c s) := by
  rw [Machine.takeCell]
  split
  · exact h
  rename_i r found
  have taken : P { s with routes := setAt s.routes k (some (r.take c)) } := by
    refine kept.table h (.setAt fun q held _ => ⟨_, rfl, ?_⟩)
    cases (RouteTable.route_eq_some.mp found).symm.trans held
    exact ⟨rfl, rfl, rfl, rfl, rfl, rfl⟩
  have presented : P (if (r.take c).state = .live
      then Machine.forward (r.take c) (r.broken c) c { s with routes := setAt s.routes k (some (r.take c)) }
      else Machine.observe k (r.take c) c { s with routes := setAt s.routes k (some (r.take c)) }) := by
    split
    · exact kept.forward scrambled _ _ _ taken
    · exact kept.observe (fun _ _ _ _ => kept.forward scrambled _ _ _) _ _ _ taken
  rw [useCell]
  split
  · exact presented
  · exact presented
  · exact presented
  · exact kept.sectionsCell _ _ _ _ taken
  · split
    · exact kept.frame taken (by simp) (by simp) (by simp) (by simp)
    · exact kept.stampArrival _ taken
  · split <;> exact kept.frame taken (by simp) (by simp) (by simp) (by simp)
  · exact kept.frame taken rfl rfl rfl rfl

theorem framing (scrambled : ∀ (record : KeyRecord) k (c : Cell) (s : State), s.dsc.active = some record → P s →
    P (scrambledCell record k c s).2) : KeptByFraming P where
  cin _ _ h := kept.frame h rfl rfl rfl rfl
  emit _ _ h := kept.emit _ h
  send _ _ h := kept.frame h rfl rfl rfl rfl
  resync port _ h := kept.table h (.resync port)
  take _ _ _ h := kept.takeCell scrambled _ _ h

end KeptByEngine

/-! ### The fixed routes -/

theorem fixedRoutesOk_keptByEngine : KeptByEngine State.FixedRoutesOk where
  frame h routes _ _ _ := by
    rw [State.FixedRoutesOk]
    simp only [State.hasFixed, routes]
    exact h
  emit _ _ h := by simpa [State.FixedRoutesOk, State.hasFixed] using h
  answer _ _ _ h := by simpa [State.FixedRoutesOk, State.hasFixed] using h
  table {s routes} h kept := by
    have held {k : Nat} {port : Port} {stream : Nat} {use : RouteUse} (standing : s.hasFixed k port stream use) :
        State.hasFixed { s with routes } k port stream use := by
      obtain ⟨r, entry, hport, hstream, huse, hstate, howner, hbinding⟩ := standing
      obtain ⟨q, entry', port', stream', use', state', owner', binding'⟩ := kept.2 k r entry ⟨hstate, howner⟩
      exact ⟨q, entry', port'.trans hport, stream'.trans hstream, use'.trans huse, state'.trans hstate,
        owner'.trans howner, binding'.trans hbinding⟩
    obtain ⟨length, h0, h1, h2, h3, h4, h5⟩ := h
    exact ⟨kept.1.trans length, held h0, held h1, held h2, held h3, held h4, held h5⟩
  freeActive h := by simpa [State.FixedRoutesOk, State.hasFixed] using h
  freeArming h := h
  claimArming _ _ _ h := h
  swapRecords _ _ h := by simpa [State.FixedRoutesOk, State.hasFixed] using h

theorem fixedRoutesOk_keptByResets : KeptByResets State.FixedRoutesOk where
  warm _ _ _ := resetMeetsTheInvariants.2.2.2.2.2.2.2.2.1
  cold _ := resetMeetsTheInvariants.2.2.2.2.2.2.2.2.1
  power _ _ h := h
  lane _ _ _ _ h _ := h

/-- Settles O12: every change of the table keeps the LIVE routes of owner FIXED in their entries. -/
theorem everyStepKeepsTheFixedRoutes : Obligations.EveryStepKeepsTheFixedRoutes := by
  refine step_keeps (fun _ _ h => h) (fun i s t h answered => ?_)
    (fun s h => by simpa [State.FixedRoutesOk, State.hasFixed] using h)
  have framing : KeptByFraming State.FixedRoutesOk := fixedRoutesOk_keptByEngine.framing fun _ _ _ _ _ h => by
    simpa [State.FixedRoutesOk, State.hasFixed] using h
  rcases exec_routes_cases s answered with same | ⟨cause, rfl⟩ | rfl | ⟨port, bytes, rfl⟩ | ⟨strobe, bytes, rfl⟩ | rest
  · simpa [State.FixedRoutesOk, State.hasFixed, same] using h
  · exact fixedRoutesOk_keptByResets.warmReset h answered
  · exact fixedRoutesOk_keptByResets.coldStart answered
  · exact framing.cellArrival h answered
  · exact framing.portLCell h answered
  by_cases lane : i = .dataLaneCellSent
  · subst lane
    exact fixedRoutesOk_keptByResets.dataLaneCellSent h answered
  · exact fixedRoutesOk_keptByEngine.command (by simp only [List.mem_cons]; tauto) h answered

end Sys2Proof.Machine
end

section
/-! Control words under an ENTITLED verdict alone, kept by every step (R99 to R106). -/

namespace Sys2Proof.Machine

theorem State.KeysOk.of_dsc {s t : State} (h : s.KeysOk) (same : t.dsc = s.dsc) : t.KeysOk := by
  rw [State.KeysOk, same]
  exact h

/-! ### Records -/

theorem claim_ok (service stream : Nat) : (KeyRecord.claim service stream).Ok := by
  rintro (h | h) <;> cases h

/-- The verdict is one of two (R127). -/
theorem verdictOf_cases (s : State) (service : Nat) (criteria : Criteria) :
    s.verdictOf service criteria = .entitled ∨ s.verdictOf service criteria = .notEntitled :=
  ite_eq_or_eq _ _ _

/-- A recomputed record holds words under ENTITLED alone, as NOT_ENTITLED empties both slots (R106). -/
theorem recompute_ok (s : State) {r : KeyRecord} (h : r.Ok) : (r.recompute s).Ok := by
  rw [KeyRecord.recompute]
  split
  · rename_i without
    intro held
    exact absurd (h held).2 (by simp [without])
  · rename_i criteria given
    dsimp only
    split
    · rintro (held | held) <;> cases held
    · rename_i entitled
      have verdict := (verdictOf_cases s r.service criteria).resolve_right entitled
      exact fun _ => ⟨verdict, by simp [given]⟩

/-- With criteria, a recomputed record holds its words under ENTITLED whatever it held before (R104, R106). -/
theorem recompute_ok_of_criteria (s : State) {r : KeyRecord} {criteria : Criteria} (given : r.criteria = some criteria) :
    (r.recompute s).Ok ∧ (r.recompute s).criteria = some criteria := by
  rw [KeyRecord.recompute, given]
  dsimp only
  split
  · refine ⟨?_, rfl⟩
    rintro (held | held) <;> cases held
  · rename_i entitled
    have verdict := (verdictOf_cases s r.service criteria).resolve_right entitled
    exact ⟨fun _ => ⟨verdict, rfl⟩, rfl⟩

/-- A slot write leaves the verdict and the criteria, and writes under ENTITLED alone (R105). -/
theorem write_ok (b : KeyBody) {r : KeyRecord} (h : r.Ok) (given : r.criteria.isSome) :
    (r.write b).Ok ∧ (r.write b).verdict = r.verdict := by
  have filled (word : ControlWord) (entitled : r.verdict = .entitled) : (r.fill b.slot word).Ok ∧ (r.fill b.slot word).verdict = r.verdict := by
    cases b.slot <;> exact ⟨fun _ => ⟨entitled, given⟩, rfl⟩
  rw [KeyRecord.write]
  split
  · rename_i entitled
    dsimp only
    split
    · exact filled _ entitled
    · split
      · exact ⟨h, rfl⟩
      split
      · exact ⟨h, rfl⟩
      · exact filled _ entitled
  · exact ⟨h, rfl⟩

theorem applyKey_ok (s : State) (b : KeyBody) (r : KeyRecord) : (r.applyKey s b).Ok := by
  obtain ⟨ok, criteria⟩ := recompute_ok_of_criteria s (r := { r with criteria := some b.criteria }) rfl
  exact (write_ok b ok (by rw [criteria]; rfl)).1

theorem fault_ok (x : Section) {r : KeyRecord} (h : r.Ok) : (r.fault x).Ok := by
  rw [KeyRecord.fault]
  split <;> exact h

theorem fault_verdict (x : Section) (r : KeyRecord) : (r.fault x).verdict = r.verdict := by
  rw [KeyRecord.fault]
  split <;> rfl

/-! ### Operations of the descrambler -/

theorem postDsc_keys {noKey notEntitled : Bool} {s : State} (active : ∀ r, s.dsc.active = some r → r.Ok)
    (arming : ∀ r, s.dsc.arming = some r → r.Ok)
    (posted : notEntitled = s.dsc.active.any fun r => r.verdict == Verdict.notEntitled) : (postDsc noKey notEntitled s).KeysOk := by
  rw [postDsc_eq]
  exact ⟨active, arming, posted⟩

theorem updateActive_keys {f : KeyRecord → KeyRecord} {s : State} (ok : ∀ r, r.Ok → (f r).Ok) (h : s.KeysOk) :
    (updateActive f s).KeysOk := by
  obtain ⟨active, arming, posted⟩ := h
  rw [updateActive]
  split
  · exact ⟨active, arming, posted⟩
  · rename_i r claimed
    refine postDsc_keys (fun q hq => ?_) arming rfl
    cases hq
    exact ok r (active r claimed)

theorem updateArming_keys {f : KeyRecord → KeyRecord} {s : State} (ok : ∀ r, r.Ok → (f r).Ok) (h : s.KeysOk) :
    (updateArming f s).KeysOk := by
  obtain ⟨active, arming, posted⟩ := h
  rw [updateArming]
  split
  · exact ⟨active, arming, posted⟩
  · rename_i r claimed
    have updated : State.KeysOk { s with dsc := { s.dsc with arming := some (f r) } } := by
      refine ⟨active, fun q hq => ?_, posted⟩
      cases hq
      exact ok r (arming r claimed)
    dsimp only
    split
    · exact updated
    · exact updated

theorem recomputeVerdicts_keys {s : State} (h : s.KeysOk) : (recomputeVerdicts s).KeysOk :=
  updateArming_keys (fun _ => recompute_ok s) (updateActive_keys (fun _ => recompute_ok s) h)

theorem keyFault_keys (x : Section) (matched : Matched) (reason : KeyFault) {s : State} (h : s.KeysOk) :
    (keyFault x matched reason s).KeysOk := by
  obtain ⟨active, arming, posted⟩ := h
  have counted : State.KeysOk { s with dsc := { s.dsc with
      active := s.dsc.active.map (KeyRecord.fault x), arming := s.dsc.arming.map (KeyRecord.fault x)
      faulted := satInc max32 s.dsc.faulted } } := by
    refine ⟨fun q hq => ?_, fun q hq => ?_, ?_⟩
    · obtain ⟨r, claimed, rfl⟩ := Option.map_eq_some_iff.mp hq
      exact fault_ok x (active r claimed)
    · obtain ⟨r, claimed, rfl⟩ := Option.map_eq_some_iff.mp hq
      exact fault_ok x (arming r claimed)
    · simpa [Option.any_map, Function.comp_def, fault_verdict] using posted
  exact counted.of_dsc (by simp [keyFault])

theorem applyKeySection_keys (x : Section) {s : State} (h : s.KeysOk) : (applyKeySection x s).KeysOk := by
  have counted : State.KeysOk { s with dsc := { s.dsc with applied := satInc max32 s.dsc.applied } } := h
  rw [applyKeySection]
  split
  · exact h
  split
  · exact keyFault_keys _ _ _ h
  split
  · exact keyFault_keys _ _ _ h
  rename_i matched _ _ _ b _
  have first : State.KeysOk (if matched = .arming then { s with dsc := { s.dsc with applied := satInc max32 s.dsc.applied } }
      else updateActive (KeyRecord.applyKey s b) { s with dsc := { s.dsc with applied := satInc max32 s.dsc.applied } }) := by
    split
    · exact counted
    · exact updateActive_keys (fun r _ => applyKey_ok s b r) counted
  dsimp only
  split
  · exact first
  · exact updateArming_keys (fun r _ => applyKey_ok s b r) first

/-- A scrambled cell leaves the verdict and the words of the ACTIVE record as they were (R108, R109). -/
theorem scrambledCell_keys {record : KeyRecord} (k : Slot) (c : Cell) {s : State} (active : s.dsc.active = some record)
    (h : s.KeysOk) : (scrambledCell record k c s).2.KeysOk := by
  obtain ⟨ok, arming, posted⟩ := h
  have same (q : KeyRecord) (hq : q.Ok) (verdict : q.verdict = record.verdict) (noKey : Bool) :
      (postDsc noKey s.dsc.notEntitled { s with dsc := { s.dsc with active := some q } }).KeysOk := by
    refine postDsc_keys (fun p hp => ?_) arming ?_
    · cases hp
      exact hq
    · rw [posted, active, Option.any_some, Option.any_some, verdict]
  rw [scrambledCell]
  split
  · exact (same { record with live := some k } (ok record active) rfl false).of_dsc (by simp)
  · exact same { record with noKeyCells := satInc max32 record.noKeyCells } (ok record active) rfl true

theorem keysOk_keptByEngine : KeptByEngine State.KeysOk where
  frame h _ dsc _ _ := h.of_dsc dsc
  emit _ _ h := h.of_dsc (by simp)
  answer _ _ _ h := h.of_dsc (by simp)
  table h _ := h
  freeActive {s} h := by
    obtain ⟨active, arming, posted⟩ := h
    rw [freeActive]
    split
    · exact ⟨active, arming, posted⟩
    · exact postDsc_keys (fun _ claimed => nomatch claimed) arming rfl
  freeArming h := ⟨h.1, (fun _ claimed => nomatch claimed), h.2.2⟩
  claimArming service stream {s} h := by
    obtain ⟨active, -, posted⟩ := h
    refine ⟨active, fun q claimed => ?_, posted⟩
    cases claimed
    exact claim_ok service stream
  swapRecords parity {s} h := by
    obtain ⟨-, arming, -⟩ := h
    refine postDsc_keys (fun q claimed => ?_) (fun _ claimed => nomatch claimed) rfl
    obtain ⟨r, armed, rfl⟩ := Option.map_eq_some_iff.mp claimed
    exact arming r armed

/-! ### Every step -/

theorem keysOk_keptByResets : KeptByResets State.KeysOk where
  warm _ _ _ := resetMeetsTheInvariants.2.2.1
  cold _ := resetMeetsTheInvariants.2.2.1
  power _ _ h := h
  lane _ _ _ _ h _ := h

/-- Settles O6: words are written and recomputed under their verdict, and NOT_ENTITLED is posted with it. -/
theorem everyStepKeepsWordsUnderEntitlement : Obligations.EveryStepKeepsWordsUnderEntitlement := by
  refine step_keeps (fun _ _ h => h) (fun i s t h answered => ?_) (fun s h => h.of_dsc (by simp))
  have framing : KeptByFraming State.KeysOk :=
    keysOk_keptByEngine.framing fun _ k c _ active h => scrambledCell_keys k c active h
  rcases exec_dsc_cases s answered with same | ⟨cause, rfl⟩ | rfl | ⟨port, bytes, rfl⟩ | ⟨strobe, bytes, rfl⟩ | rfl | rfl
    | rfl | rfl | rfl | rfl | rfl | rfl | rfl | rfl | rfl | rfl | rfl | rfl | rfl
  · exact h.of_dsc same
  · exact keysOk_keptByResets.warmReset h answered
  · exact keysOk_keptByResets.coldStart answered
  · exact framing.cellArrival h answered
  · exact framing.portLCell h answered
  iterate 11 exact keysOk_keptByEngine.command (by simp) h answered
  · exact whenRunning_keeps h (consume_keeps h fun x rest => applyKeySection_keys x (h.of_dsc rfl)) answered
  · simp only [exec, execEntChangeNotice] at answered
    refine whenRunning_keeps h ?_ answered
    split
    · exact recomputeVerdicts_keys (h.of_dsc rfl)
    · exact h
  · simp only [exec, execDscWallSet] at answered
    refine whenRunning_keeps h ?_ answered
    split
    · exact recomputeVerdicts_keys (h.of_dsc rfl)
    · exact h
  · exact keysOk_keptByResets.dataLaneCellSent h answered

end Sys2Proof.Machine
end

section
/-! The schedule table in order of due time and within its quotas, kept by every step (R56 to R65). -/

namespace Sys2Proof.Machine

/-! ### Tables of entries -/

/-- The ids of a table's reminders. -/
def reminderIds (table : List Entry) : List Nat := table.filterMap Entry.reminderId

/-- A table in order of due time, with distinct reminder ids and at most one entry of each device kind (R56). -/
def TableOk (table : List Entry) : Prop :=
  table.Pairwise (fun x y => x.due ≤ y.due) ∧ (reminderIds table).Nodup ∧ ∀ k, table.countP (Entry.isDevice k) ≤ 1

theorem scheduleOk_iff (s : State) :
    s.ScheduleOk ↔ TableOk s.scp.target ∧ (reminderIds s.scp.target).length ≤ 35 := by
  simp only [State.ScheduleOk, TableOk, reminderIds]
  tauto

theorem State.ScheduleOk.of_target {s t : State} (h : s.ScheduleOk) (same : t.scp.target = s.scp.target) : t.ScheduleOk := by
  rw [State.ScheduleOk, same]
  exact h

theorem TableOk.sublist {table part : List Entry} (h : TableOk table) (sub : part.Sublist table) : TableOk part := by
  obtain ⟨order, distinct, devices⟩ := h
  exact ⟨order.sublist sub, distinct.sublist (sub.filterMap _), fun k => sub.countP_le.trans (devices k)⟩

theorem insertEntry_perm (e : Entry) (table : List Entry) : (insertEntry e table).Perm (e :: table) := by
  obtain ⟨before, after, rfl, inserted, -, -⟩ := insertEntry_split e table
  rw [inserted]
  exact List.perm_middle

theorem reminderIds_insertEntry (e : Entry) (table : List Entry) :
    (reminderIds (insertEntry e table)).Perm (reminderIds (e :: table)) := (insertEntry_perm e table).filterMap _

/-- An entry takes its place in the order of due time (R57). -/
theorem insertEntry_ordered {e : Entry} {table : List Entry} (h : table.Pairwise fun x y => x.due ≤ y.due) :
    (insertEntry e table).Pairwise fun x y => x.due ≤ y.due := by
  obtain ⟨before, after, rfl, inserted, low, high⟩ := insertEntry_split e table
  rw [List.pairwise_append] at h
  obtain ⟨hbefore, hafter, across⟩ := h
  rw [inserted, List.pairwise_append, List.pairwise_cons]
  have later : ∀ x ∈ after, e.due ≤ x.due := by
    cases after with
    | nil => simp
    | cons y ys =>
      have first : e.due ≤ y.due := (high y rfl).le
      rintro x (_ | ⟨_, hx⟩)
      · exact first
      · exact first.trans (List.rel_of_pairwise_cons hafter hx)
  refine ⟨hbefore, ⟨later, hafter⟩, fun x hx y hy => ?_⟩
  rcases List.mem_cons.mp hy with rfl | hy
  · exact low x hx
  · exact across x hx y hy

/-- An entry may join a table that has no reminder of its id and no entry of its device kind. -/
theorem TableOk.insert {e : Entry} {table : List Entry} (h : TableOk table) (fresh : (reminderIds (e :: table)).Nodup)
    (alone : ∀ k, e.isDevice k = true → table.countP (Entry.isDevice k) = 0) : TableOk (insertEntry e table) := by
  obtain ⟨order, -, devices⟩ := h
  refine ⟨insertEntry_ordered order, (reminderIds_insertEntry e table).nodup_iff.mpr fresh, fun k => ?_⟩
  rw [(insertEntry_perm e table).countP_eq, List.countP_cons]
  split
  · rename_i isKind
    simp [alone k isKind]
  · exact devices k

/-! ### Device entries (R57) -/

theorem removeDevice_sublist (k : DeviceKind) (table : List Entry) : (removeDevice k table).Sublist table := List.filter_sublist

theorem reminderIds_removeDevice (k : DeviceKind) (table : List Entry) :
    reminderIds (removeDevice k table) = reminderIds table := by
  rw [reminderIds, removeDevice, List.filterMap_filter]
  refine List.filterMap_congr fun e _ => ?_
  rcases kind : e.kind with _ | j <;> simp [Entry.isDevice, Entry.reminderId, kind]

theorem countP_removeDevice (k : DeviceKind) (table : List Entry) : (removeDevice k table).countP (Entry.isDevice k) = 0 := by
  rw [List.countP_eq_zero]
  intro e he
  simpa using (List.mem_filter.mp he).2

theorem deviceAt_ok (k : DeviceKind) (due : Nat) (service event : Option Nat) {table : List Entry} (h : TableOk table) :
    TableOk (deviceAt k due service event table) := by
  have removed := h.sublist (removeDevice_sublist k table)
  refine removed.insert removed.2.1 fun j isKind => ?_
  obtain rfl : k = j := by simpa [Entry.isDevice] using isKind
  exact countP_removeDevice k table

theorem reminderIds_deviceAt (k : DeviceKind) (due : Nat) (service event : Option Nat) (table : List Entry) :
    (reminderIds (deviceAt k due service event table)).Perm (reminderIds table) := by
  have ids := reminderIds_insertEntry { kind := .device k, due := min due wallMax, service, event } (removeDevice k table)
  rw [← reminderIds_removeDevice k table]
  exact ids

theorem State.ScheduleOk.keyed {s : State} (h : s.ScheduleOk) (k : DeviceKind) (due : Nat) (service event : Option Nat) :
    (keyEntry k due service event s).ScheduleOk := by
  rw [keyEntry]
  split
  · rw [scheduleOk_iff] at h ⊢
    exact ⟨deviceAt_ok k due service event h.1, (reminderIds_deviceAt k due service event _).length_eq.trans_le h.2⟩
  · exact h

theorem State.ScheduleOk.cleared {s : State} (h : s.ScheduleOk) (k : DeviceKind) : (clearEntry k s).ScheduleOk := by
  rw [scheduleOk_iff] at h ⊢
  exact ⟨h.1.sublist (removeDevice_sublist k _), by simpa [reminderIds_removeDevice] using h.2⟩

/-! ### Reminders (R58 to R63) -/

theorem reminderIds_removeReminder (id : Nat) (table : List Entry) :
    reminderIds (removeReminder id table) = (reminderIds table).filter (· != id) := by
  rw [reminderIds, removeReminder, List.filterMap_filter, reminderIds, List.filter_filterMap]
  refine List.filterMap_congr fun e _ => ?_
  rcases e.reminderId with _ | i
  · rfl
  · by_cases same : i = id <;> simp [same, Option.filter]

/-- The table after a reminder has fired holds reminders that it held, and the one that fired (R63). -/
theorem rescheduled_ok (e : Entry) (id period w : Nat) {table : List Entry} (h : TableOk table) :
    TableOk (rescheduled e id period w table)
      ∧ ∀ i ∈ reminderIds (rescheduled e id period w table), i = id ∨ i ∈ reminderIds table := by
  have removed : TableOk (removeReminder id table) := h.sublist List.filter_sublist
  have others : ∀ i ∈ reminderIds (removeReminder id table), i ≠ id ∧ i ∈ reminderIds table := by
    intro i hi
    rw [reminderIds_removeReminder, List.mem_filter] at hi
    exact ⟨by simpa using hi.2, hi.1⟩
  rw [rescheduled]
  split
  · exact ⟨removed, fun i hi => .inr (others i hi).2⟩
  · refine ⟨removed.insert ?_ fun _ isKind => by simp [Entry.isDevice] at isKind, fun i hi => ?_⟩
    · exact List.nodup_cons.mpr ⟨fun held => (others id held).1 rfl, removed.2.1⟩
    · rcases List.mem_cons.mp ((reminderIds_insertEntry _ _).mem_iff.mp hi) with rfl | old
      · exact .inl rfl
      · exact .inr (others i old).2

/-- An entry with its due-held mark set where it is the reminder of an id (R60). -/
def Entry.marked (id : Nat) (e : Entry) : Entry :=
  match e.kind with
  | .reminder i period _ => if i = id then { e with kind := .reminder i period true } else e
  | .device _ => e

theorem markHeld_eq (id : Nat) (table : List Entry) : markHeld id table = table.map (Entry.marked id) := rfl

/-- A mark changes neither the due time, nor the id, nor the kind of an entry. -/
theorem Entry.marked_spec (id : Nat) (e : Entry) : (e.marked id).due = e.due ∧ (e.marked id).reminderId = e.reminderId
    ∧ ∀ k, (e.marked id).isDevice k = e.isDevice k := by
  rcases kind : e.kind with ⟨i, period, held⟩ | k
  · rw [Entry.marked, kind]
    dsimp only
    split
    · simp [Entry.reminderId, Entry.isDevice, kind]
    · exact ⟨rfl, rfl, fun _ => rfl⟩
  · rw [Entry.marked, kind]
    exact ⟨rfl, rfl, fun _ => rfl⟩

theorem reminderIds_markHeld (id : Nat) (table : List Entry) : reminderIds (markHeld id table) = reminderIds table := by
  rw [markHeld_eq, reminderIds, List.filterMap_map]
  exact List.filterMap_congr fun e _ => (e.marked_spec id).2.1

theorem markHeld_ok (id : Nat) {table : List Entry} (h : TableOk table) : TableOk (markHeld id table) := by
  obtain ⟨order, distinct, devices⟩ := h
  refine ⟨?_, by rwa [reminderIds_markHeld], fun k => ?_⟩
  · rw [markHeld_eq, List.pairwise_map]
    exact order.imp fun {x y} le => by rwa [(x.marked_spec id).1, (y.marked_spec id).1]
  · rw [markHeld_eq, List.countP_map]
    exact (List.countP_congr fun e _ => by simp [(e.marked_spec id).2.2 k]).trans_le (devices k)

/-! ### Passes and releases (R61, R62) -/

/-- A table that holds reminders of a list of ids alone. -/
def TableWithin (ids : List Nat) (table : List Entry) : Prop := TableOk table ∧ ∀ i ∈ reminderIds table, i ∈ ids

theorem TableWithin.scheduleOk {s : State} {ids : List Nat} (h : TableWithin ids s.scp.target) (few : ids.length ≤ 35) :
    s.ScheduleOk :=
  (scheduleOk_iff s).mpr ⟨h.1, (List.subperm_of_subset h.1.2.1 h.2).length_le.trans few⟩

theorem fireReminder_within {ids : List Nat} {e : Entry} {id period w : Nat} {s : State} (listed : id ∈ ids)
    (h : TableWithin ids s.scp.target) : TableWithin ids (fireReminder e id period w s).scp.target := by
  have fired : (fireReminder e id period w s).scp.target = rescheduled e id period w s.scp.target := by
    simp [fireReminder]
  obtain ⟨ok, old⟩ := rescheduled_ok e id period w h.1
  rw [fired]
  refine ⟨ok, fun i hi => ?_⟩
  rcases old i hi with rfl | held
  · exact listed
  · exact h.2 i held

theorem keyEntry_within {ids : List Nat} (k : DeviceKind) (due : Nat) (service event : Option Nat) {s : State}
    (h : TableWithin ids s.scp.target) : TableWithin ids (keyEntry k due service event s).scp.target := by
  rw [keyEntry]
  split
  · exact ⟨deviceAt_ok k due service event h.1, fun i hi => h.2 i ((reminderIds_deviceAt k due service event _).mem_iff.mp hi)⟩
  · exact h

theorem visit_within {ids : List Nat} {wn : Nat} {e : Entry} {s : State} (listed : ∀ i, e.reminderId = some i → i ∈ ids)
    (h : TableWithin ids s.scp.target) : TableWithin ids (visit wn s e).scp.target := by
  rw [visit]
  split
  · rename_i id period held kind
    split
    · exact ⟨markHeld_ok id h.1, fun i hi => h.2 i (by rwa [← reminderIds_markHeld id])⟩
    · exact fireReminder_within (listed id (by rw [Entry.reminderId, kind])) h
  · rename_i k _
    have removed : TableWithin ids (removeDevice k s.scp.target) :=
      ⟨h.1.sublist (removeDevice_sublist k _), fun i hi => h.2 i (by rwa [← reminderIds_removeDevice k])⟩
    rw [fireDevice]
    split
    · exact keyEntry_within _ _ _ _ removed
    · exact removed

theorem releaseEntry_within {ids : List Nat} {e : Entry} {s : State} (listed : ∀ i, e.reminderId = some i → i ∈ ids)
    (h : TableWithin ids s.scp.target) : TableWithin ids (releaseEntry s e).scp.target := by
  rw [releaseEntry]
  split
  · rename_i id period held kind
    exact fireReminder_within (listed id (by rw [Entry.reminderId, kind])) h
  · exact h

/-- Entries dealt with one after another, each a reminder of the list or a device entry. -/
theorem foldl_within {ids : List Nat} {deal : State → Entry → State}
    (deals : ∀ (s : State) (e : Entry), (∀ i, e.reminderId = some i → i ∈ ids) → TableWithin ids s.scp.target →
      TableWithin ids (deal s e).scp.target) {es : List Entry} (listed : ∀ e ∈ es, ∀ i, e.reminderId = some i → i ∈ ids)
    {s : State} (h : TableWithin ids s.scp.target) : TableWithin ids (es.foldl deal s).scp.target := by
  induction es generalizing s with
  | nil => exact h
  | cons e rest ih =>
    exact ih (fun x hx => listed x (List.mem_cons_of_mem _ hx)) (deals s e (listed e List.mem_cons_self) h)

theorem reminderId_mem {table : List Entry} {e : Entry} (he : e ∈ table) (i : Nat) (hi : e.reminderId = some i) :
    i ∈ reminderIds table := List.mem_filterMap.mpr ⟨e, he, hi⟩

theorem State.ScheduleOk.within {s : State} (h : s.ScheduleOk) : TableWithin (reminderIds s.scp.target) s.scp.target :=
  ⟨((scheduleOk_iff s).mp h).1, fun _ hi => hi⟩

theorem firingPass_schedule (wn : Nat) {s : State} (h : s.ScheduleOk) : (firingPass wn s).ScheduleOk := by
  have passed : TableWithin (reminderIds s.scp.target) (firingPass wn s).scp.target :=
    foldl_within (fun _ _ => visit_within)
      (fun e he i hi => reminderId_mem (List.mem_of_mem_filter he) i hi) h.within
  exact passed.scheduleOk ((scheduleOk_iff s).mp h).2

theorem releaseReminders_schedule {s : State} (h : s.ScheduleOk) : (releaseReminders s).ScheduleOk := by
  have opened : (reply .ok { s with scp := { s.scp with hold := false } }).ScheduleOk := h.of_target (by simp)
  rw [releaseReminders]
  split
  · have released := foldl_within (es := s.scp.target.filter Entry.isHeld) (fun _ _ => releaseEntry_within)
      (fun e he i hi => reminderId_mem (List.mem_of_mem_filter he) i hi)
      (s := reply .ok { s with scp := { s.scp with hold := false } }) (by simpa using h.within)
    exact released.scheduleOk ((scheduleOk_iff s).mp h).2
  · exact opened

/-! ### The other commands of the comparator -/

theorem evaluateRanges_target (s : State) : (evaluateRanges s).scp.target = s.scp.target := by
  rw [evaluateRanges]
  split <;> rfl

theorem evaluateIfMoved_target (s : State) : (evaluateIfMoved s).scp.target = s.scp.target := by
  rw [evaluateIfMoved]
  split
  · exact evaluateRanges_target s
  · rfl

theorem advanceTo_schedule (wn : Nat) {s : State} (h : s.ScheduleOk) : (advanceTo wn s).ScheduleOk := by
  have passed := firingPass_schedule wn h
  rw [advanceTo]
  split
  · exact passed
  · exact passed.of_target (evaluateIfMoved_target _)

theorem addReminder_schedule (id due period service event presence : Nat) {s : State} (h : s.ScheduleOk) :
    (addReminder id due period service event presence s).ScheduleOk := by
  have refused (result : Result) : (reply result s).ScheduleOk := h.of_target (by simp)
  unfold addReminder
  extract_lets service event
  split
  · exact refused _
  split
  · exact refused _
  split
  · exact refused _
  split
  · exact refused _
  rename_i absent
  split
  · exact refused _
  rename_i room
  refine State.ScheduleOk.of_target (s := { s with scp := { s.scp with
    target := insertEntry { kind := .reminder id period false, due, service, event } s.scp.target } }) ?_ (by simp)
  rw [scheduleOk_iff] at h ⊢
  have fresh : id ∉ reminderIds s.scp.target := fun held => by
    obtain ⟨e, he, hid⟩ := List.mem_filterMap.mp held
    exact absent (List.any_eq_true.mpr ⟨e, he, by simp [hid]⟩)
  have few : (reminderIds s.scp.target).length < 35 := by
    have counted : (reminderIds s.scp.target).length = s.scp.reminders.length := by
      rw [reminderIds, List.length_filterMap_eq_countP, Scp.reminders, List.countP_eq_length_filter]
    exact counted ▸ Nat.not_le.mp room
  refine ⟨h.1.insert (List.nodup_cons.mpr ⟨fresh, h.1.2.1⟩) fun _ isKind => by simp [Entry.isDevice] at isKind, ?_⟩
  rw [(reminderIds_insertEntry _ _).length_eq]
  exact few

theorem dropReminder_schedule (id : Nat) {s : State} (h : s.ScheduleOk) : (dropReminder id s).ScheduleOk := by
  rw [dropReminder]
  split
  · refine State.ScheduleOk.of_target (s := { s with scp := { s.scp with target := removeReminder id s.scp.target } }) ?_
      (by simp)
    rw [scheduleOk_iff] at h ⊢
    exact ⟨h.1.sublist List.filter_sublist, by
      rw [reminderIds_removeReminder]
      exact (List.length_filter_le _ _).trans h.2⟩
  · exact h.of_target (by simp)

theorem setRange_schedule (index profile lower upper : Nat) {s : State} (h : s.ScheduleOk) :
    (setRange index profile lower upper s).ScheduleOk := by
  rw [setRange]
  split
  · exact h.of_target (by simp)
  split
  · exact h.of_target (by simp)
  · exact h.of_target ((evaluateRanges_target _).trans (by simp))

/-! ### Entries that other blocks keep -/

theorem setOffset_schedule (o : Int) {s : State} (h : s.ScheduleOk) : (setOffset o s).ScheduleOk :=
  h.of_target (by simp)

theorem applyNext_schedule (next : Option (Nat × Int)) {s : State} (h : s.ScheduleOk) : (applyNext next s).ScheduleOk := by
  simp only [applyNext]
  split
  · rename_i time offset
    split
    · have pending : State.ScheduleOk { s with tmb := { s.tmb with pendingChange := some (time, offset) } } := h
      exact pending.keyed _ _ _ _
    · have dropped : State.ScheduleOk { s with tmb := { s.tmb with pendingChange := none } } := h
      exact (setOffset_schedule offset dropped).cleared _
  · exact State.ScheduleOk.cleared (s := { s with tmb := _ }) h _

theorem applyTimeSection_schedule (x : Section) {s : State} (h : s.ScheduleOk) : (applyTimeSection x s).ScheduleOk := by
  rw [applyTimeSection]
  split
  · exact h
  rename_i b _
  have anchored : State.ScheduleOk (if s.tmb.wallValid
      then realign b { s with tmb := { s.tmb with applied := satInc max32 s.tmb.applied } }
      else setWall b { s with tmb := { s.tmb with applied := satInc max32 s.tmb.applied } }) := by
    split <;> exact h.of_target (by simp)
  have moved := applyNext_schedule b.next (setOffset_schedule b.offset anchored)
  by_cases wall : s.tmb.wallValid = true
  · simpa only [wall, if_true] using moved
  · simp only [wall, Bool.false_eq_true, if_false] at moved ⊢
    exact moved.of_target (by simp)

theorem keepEntExpiry_schedule {s : State} (h : s.ScheduleOk) : (keepEntExpiry s).ScheduleOk := by
  rw [keepEntExpiry]
  split
  · exact h.keyed _ _ _ _
  · exact h.cleared _

theorem entChanged_schedule (cause : EntCause) {s : State} (h : s.ScheduleOk) : (entChanged cause s).ScheduleOk :=
  (keepEntExpiry_schedule h).of_target (by simp [entChanged])

theorem applyEntitlementSection_schedule (x : Section) {s : State} (h : s.ScheduleOk) :
    (applyEntitlementSection x s).ScheduleOk := by
  rw [applyEntitlementSection]
  split
  · exact h
  split
  · exact h
  rename_i m _
  cases m with
  | entitle items =>
    simp only [applyMessage, entitle]
    split
    · exact entChanged_schedule _ h
    · exact h
  | revoke tiers =>
    simp only [applyMessage, revoke]
    split
    · exact h
    · exact entChanged_schedule _ h
  | credit granted through => exact h.of_target (by simp [applyMessage])
  | group number position => exact h

theorem expireEntitlements_schedule {s : State} (h : s.ScheduleOk) : (expireEntitlements s).ScheduleOk := by
  simp only [expireEntitlements]
  split
  · exact keepEntExpiry_schedule h
  · exact entChanged_schedule _ h

theorem purchase_schedule (service event : Nat) {s : State} (h : s.ScheduleOk) : (purchase service event s).ScheduleOk := by
  have refused (result : Result) : (reply result s).ScheduleOk := h.of_target (by simp)
  have carried (price seq : Nat) : (carryOutPurchase service event price seq s).ScheduleOk := by
    have bought : (entChanged .purchase (answer .ok (beBytes 4 seq ++ beBytes 4 (s.grantExpiry service event))
        { s with enu := s.bought service event price seq })).ScheduleOk :=
      entChanged_schedule _ (h.of_target (by simp))
    exact bought.of_target (by simp [carryOutPurchase]; rfl)
  rw [purchase]
  (repeat' split) <;> first
    | exact refused _
    | exact carried _ _

theorem keepEventEnd_schedule {s : State} (h : s.ScheduleOk) : (keepEventEnd s).ScheduleOk := by
  have requested : (requestEventEnd s).ScheduleOk := by
    rw [requestEventEnd]
    split
    · exact h.keyed _ _ _ _
    · exact h.keyed _ _ _ _
    · exact h.cleared _
  exact requested

theorem applyGuideSection_schedule (x : Section) {s : State} (h : s.ScheduleOk) : (applyGuideSection x s).ScheduleOk := by
  have completed (before : Gds) (service segment version : Nat) (others : Bool) {u : State} (hu : u.ScheduleOk) :
      (completeGuide before service segment version others u).ScheduleOk := by
    have kept : State.ScheduleOk (if (u.gds.followed.any fun n => before.eventsOf n != u.gds.eventsOf n)
        then keepEventEnd u else u) := by
      split
      · exact keepEventEnd_schedule hu
      · exact hu
    rw [completeGuide]
    split
    · exact kept
    · exact kept.of_target (by simp)
  simp only [applyGuideSection]
  split
  · exact h
  split
  · exact h
  split
  · exact h
  split
  · exact h
  · exact completed _ _ _ _ _ h

theorem stopOverride_schedule (cause : OverrideCause) {s : State} (h : s.ScheduleOk) : (stopOverride cause s).ScheduleOk := by
  rw [stopOverride]
  split
  · exact h
  · dsimp only
    split
    · exact h.of_target (by simp)
    · exact (State.ScheduleOk.cleared (s := { s with plu := { s.plu with override := none } }) h .overrideEnd).of_target
        (by simp)

theorem takeContext_schedule (cause : ContextCause) (service mapStream : Option Nat) {s : State} (h : s.ScheduleOk) :
    (takeContext cause service mapStream s).ScheduleOk := by
  simp only [takeContext]
  split
  · exact stopOverride_schedule _ h
  · exact h

theorem override_schedule (minutes scope : Nat) {s : State} (h : s.ScheduleOk) : (override minutes scope s).ScheduleOk := by
  have refused (result : Result) : (reply result s).ScheduleOk := h.of_target (by simp)
  have begun (scope : Option Nat) (minutes : Nat) : (beginOverride scope minutes s).ScheduleOk :=
    (State.ScheduleOk.keyed
        (s := { s with plu := { s.plu with override := some { scope, stop := s.tmb.w + 60 * minutes } } }) h .overrideEnd
        (s.tmb.w + 60 * minutes) scope none).of_target (by simp [beginOverride])
  rw [override]
  (repeat' split) <;> first
    | exact refused _
    | exact begun _ _

theorem endOverride_schedule {s : State} (h : s.ScheduleOk) : (endOverride s).ScheduleOk := by
  rw [endOverride]
  split
  · exact stopOverride_schedule _ (h.of_target (by simp))
  · exact h.of_target (by simp)

theorem selectProfile_schedule (n : Nat) {s : State} (h : s.ScheduleOk) : (selectProfile n s).ScheduleOk := by
  rw [selectProfile]
  split
  · exact h.of_target (by simp)
  · have stopped := stopOverride_schedule .profile (h.of_target (t := reply .ok { s with plu := { s.plu with active := n } })
      (by simp))
    exact stopped.of_target (by simp)

theorem pluEvent_schedule {effect : State → State} {s : State} (h : (effect s).ScheduleOk) : (pluEvent effect s).ScheduleOk := by
  rw [pluEvent_eq]
  exact h

/-! ### Every step -/

theorem scheduleOk_keptByResets : KeptByResets State.ScheduleOk where
  warm _ _ _ := resetMeetsTheInvariants.2.2.2.2.2.1
  cold _ := resetMeetsTheInvariants.2.2.2.2.2.1
  power _ _ h := h
  lane _ _ _ _ h _ := h

/-- Settles O9: entries are inserted at their due time, a device kind's in place of its entry, and a reminder's under its own id. -/
theorem everyStepKeepsTheScheduleOrdered : Obligations.EveryStepKeepsTheScheduleOrdered := by
  refine step_keeps (fun _ _ h => h) (fun i s t h answered => ?_) (fun s h => h.of_target (by simp))
  rcases exec_scp_cases s answered with same | ⟨cause, rfl⟩ | rfl | rfl | rfl | rfl | rfl | rfl | rfl | rfl | rfl | rfl | rfl
    | rfl | rfl | rfl | rfl | rfl | rfl | rfl | rfl | rfl | rfl | rfl | rfl | rfl | rfl | rfl | rfl
  · exact h.of_target (by rw [same])
  · exact scheduleOk_keptByResets.warmReset h answered
  · exact scheduleOk_keptByResets.coldStart answered
  · exact whenRunning_keeps h (consume_keeps h fun x _ => applyTimeSection_schedule x h) answered
  · simp only [exec, execFiringPass] at answered
    refine whenRunning_keeps h ?_ answered
    split
    · exact advanceTo_schedule _ h
    · exact h
  · simp only [exec, execScpWallSet] at answered
    refine whenRunning_keeps h ?_ answered
    split
    · exact (State.ScheduleOk.keyed (s := s.taking _) h _ _ _ _).of_target (evaluateRanges_target _)
    · exact h
  · simp only [exec, execScpRewind] at answered
    refine whenRunning_keeps h ?_ answered
    split
    · exact (State.ScheduleOk.keyed (s := s.taking _) h _ _ _ _).of_target (evaluateIfMoved_target _)
    · exact h
  · simp only [exec, execScpOffsetChange] at answered
    refine whenRunning_keeps h ?_ answered
    split
    · exact (State.ScheduleOk.keyed (s := s.taking _) h _ _ _ _).of_target (evaluateRanges_target _)
    · exact h
  · simp only [exec, execScpProfileChange] at answered
    refine whenRunning_keeps h ?_ answered
    split
    · exact h.of_target (evaluateRanges_target _)
    · exact h
  · simp only [exec, execAddReminder] at answered
    refine whenRunning_keeps h ?_ answered
    split
    · exact addReminder_schedule _ _ _ _ _ _ h
    · exact h
  · simp only [exec, execDropReminder] at answered
    refine whenRunning_keeps h ?_ answered
    split
    · exact dropReminder_schedule _ h
    · exact h
  · simp only [exec, execHoldReminders] at answered
    refine whenRunning_keeps h ?_ answered
    split
    · exact h.of_target (by simp)
    · exact h
  · simp only [exec, execReleaseReminders] at answered
    refine whenRunning_keeps h ?_ answered
    split
    · exact releaseReminders_schedule h
    · exact h
  · simp only [exec, execSetRange] at answered
    refine whenRunning_keeps h ?_ answered
    split
    · exact setRange_schedule _ _ _ _ h
    · exact h
  · exact whenRunning_keeps h (consume_keeps h fun x _ => applyEntitlementSection_schedule x h) answered
  · simp only [exec, execEntExpiryFiring] at answered
    refine whenRunning_keeps h ?_ answered
    split
    · exact expireEntitlements_schedule h
    · exact h
  · simp only [exec, execEnuWallSet] at answered
    refine whenRunning_keeps h ?_ answered
    split
    · exact keepEntExpiry_schedule h
    · exact h
  · simp only [exec, execPurchase] at answered
    refine whenRunning_keeps h ?_ answered
    split
    · exact purchase_schedule _ _ h
    · exact h
  · exact whenRunning_keeps h (consume_keeps h fun x _ => applyGuideSection_schedule x h) answered
  · simp only [exec, execEventEndFiring] at answered
    refine whenRunning_keeps h ?_ answered
    split
    · exact keepEventEnd_schedule h
    · exact h
  · simp only [exec, execGdsContextChange] at answered
    refine whenRunning_keeps h ?_ answered
    split
    · exact keepEventEnd_schedule h
    · exact h
  · simp only [exec, execGdsRewind] at answered
    refine whenRunning_keeps h ?_ answered
    split
    · exact keepEventEnd_schedule h
    · exact h
  · simp only [exec, execGdsWallSet] at answered
    refine whenRunning_keeps h ?_ answered
    split
    · exact keepEventEnd_schedule h
    · exact h
  · simp only [exec, execPluContextChange] at answered
    refine whenRunning_keeps h ?_ answered
    split
    · exact pluEvent_schedule (takeContext_schedule _ _ _ h)
    · exact h
  · simp only [exec, execSelectProfile] at answered
    refine whenRunning_keeps h ?_ answered
    split
    · exact pluEvent_schedule (selectProfile_schedule _ h)
    · exact h
  · simp only [exec, execOverride] at answered
    refine whenRunning_keeps h ?_ answered
    split
    · exact pluEvent_schedule (override_schedule _ _ h)
    · exact h
  · simp only [exec, execEndOverride] at answered
    refine whenRunning_keeps h ?_ answered
    split
    · exact pluEvent_schedule (endOverride_schedule h)
    · exact h
  · simp only [exec, execOverrideEndFiring] at answered
    refine whenRunning_keeps h ?_ answered
    split
    · split
      · exact pluEvent_schedule (stopOverride_schedule _ h)
      · exact h
    · exact h
  · exact scheduleOk_keptByResets.dataLaneCellSent h answered

end Sys2Proof.Machine
end

section
/-! The guide store kept by every step (R132, R133). -/

namespace Sys2Proof.Machine

/-! ### Lists kept in the order of a key -/

section Ordered

variable {α : Type} {key : α → Nat} {n : Nat} {x y : α} {l : List α}

theorem mem_of_mem_putOrdered {same after : α → Bool} (h : y ∈ putOrdered same after x l) : y = x ∨ y ∈ l := by
  induction l with
  | nil => simpa [putOrdered] using h
  | cons z zs ih =>
    rw [putOrdered] at h
    split at h
    · simp only [List.mem_cons] at h ⊢
      exact h.imp_right .inr
    split at h
    · simpa using h
    · rcases List.mem_cons.mp h with rfl | h
      · exact .inr List.mem_cons_self
      · exact (ih h).imp_right (List.mem_cons_of_mem _)

theorem length_putOrdered_le (same after : α → Bool) : (putOrdered same after x l).length ≤ l.length + 1 := by
  induction l with
  | nil => simp [putOrdered]
  | cons z zs ih =>
    rw [putOrdered]
    split
    · simp
    split
    · simp
    · simpa using ih

/-- A record put at its place keeps the order of the keys. -/
theorem putOrdered_ordered (keyed : key x = n) (ordered : l.Pairwise fun a b => key a < key b) :
    (putOrdered (fun y => key y == n) (fun y => decide (n < key y)) x l).Pairwise fun a b => key a < key b := by
  subst keyed
  induction l with
  | nil => simp [putOrdered]
  | cons z zs ih =>
    obtain ⟨first, rest⟩ := List.pairwise_cons.mp ordered
    rw [putOrdered]
    split
    · rename_i same
      have same : key z = key x := by simpa using same
      exact List.pairwise_cons.mpr ⟨same ▸ first, rest⟩
    split
    · rename_i after
      have after : key x < key z := by simpa using after
      refine List.pairwise_cons.mpr ⟨fun y hy => ?_, ordered⟩
      rcases List.mem_cons.mp hy with rfl | hy
      · exact after
      · exact after.trans (first y hy)
    · rename_i different notAfter
      refine List.pairwise_cons.mpr ⟨fun y hy => ?_, ih rest⟩
      rcases mem_of_mem_putOrdered hy with rfl | hy
      · simp at different notAfter
        omega
      · exact first y hy

/-- A record put in place of the one with its key leaves the length. -/
theorem length_putOrdered_of_mem (ordered : l.Pairwise fun a b => key a < key b) (held : ∃ y ∈ l, key y = n) :
    (putOrdered (fun y => key y == n) (fun y => decide (n < key y)) x l).length = l.length := by
  induction l with
  | nil => simp at held
  | cons z zs ih =>
    obtain ⟨first, rest⟩ := List.pairwise_cons.mp ordered
    rw [putOrdered]
    split
    · simp
    rename_i different
    have held : ∃ y ∈ zs, key y = n := by
      obtain ⟨y, hy, keyed⟩ := held
      rcases List.mem_cons.mp hy with rfl | hy
      · simp [keyed] at different
      · exact ⟨y, hy, keyed⟩
    split
    · rename_i after
      obtain ⟨y, hy, keyed⟩ := held
      have := first y hy
      simp at after
      omega
    · simpa using ih rest held

end Ordered

/-! ### The event records -/

/-- The event records within their capacity, in store order, each of a length to store (R133). -/
def EventsOk (events : List GuideEvent) : Prop :=
  events.length ≤ 4096 ∧ events.Pairwise GuideEvent.precedes ∧ ∀ e ∈ events, 60 ≤ e.duration ∧ e.duration ≤ 86400

theorem guideOk_iff {s : State} : s.GuideOk ↔
    (s.gds.services.length ≤ 256 ∧ s.gds.services.Pairwise fun x y => x.number < y.number) ∧ EventsOk s.gds.events :=
  and_assoc.symm

theorem EventsOk.sublist {l l' : List GuideEvent} (h : EventsOk l) (sub : l'.Sublist l) : EventsOk l' := by
  obtain ⟨room, ordered, lengths⟩ := h
  exact ⟨sub.length_le.trans room, ordered.sublist sub, fun e he => lengths e (sub.subset he)⟩

theorem overlaps_eq_false_iff {x e : GuideEvent} :
    x.overlaps e = false ↔ x.service ≠ e.service ∨ x.stop ≤ e.start ∨ e.stop ≤ x.start := by
  simp only [GuideEvent.overlaps, Bool.and_eq_false_iff, beq_eq_false_iff_ne, decide_eq_false_iff_not, or_assoc, not_lt]
  tauto

/-- An event ahead of another that it does not overlap precedes it. -/
theorem precedes_of_before {x e : GuideEvent} (before : x.before e = true) (apart : x.overlaps e = false)
    (lasts : 0 < e.duration) : x.precedes e := by
  rw [overlaps_eq_false_iff] at apart
  simp [GuideEvent.before, GuideEvent.precedes, GuideEvent.stop] at *
  omega

theorem precedes_of_not_before {x e : GuideEvent} (after : ¬x.before e = true) (apart : x.overlaps e = false)
    (lasts : 0 < x.duration) : e.precedes x := by
  rw [overlaps_eq_false_iff] at apart
  simp [GuideEvent.before, GuideEvent.precedes, GuideEvent.stop] at *
  omega

theorem precedes_trans {x y z : GuideEvent} (xy : x.precedes y) (yz : y.precedes z) : x.precedes z := by
  simp only [GuideEvent.precedes, GuideEvent.stop] at *
  omega

theorem mem_insertEvent {e y : GuideEvent} {l : List GuideEvent} : y ∈ insertEvent e l ↔ y = e ∨ y ∈ l := by
  induction l with
  | nil => simp [insertEvent]
  | cons x xs ih =>
    rw [insertEvent]
    split
    · simp only [List.mem_cons, ih]
      tauto
    · simp

theorem length_insertEvent (e : GuideEvent) (l : List GuideEvent) : (insertEvent e l).length = l.length + 1 := by
  induction l with
  | nil => rfl
  | cons x xs ih =>
    rw [insertEvent]
    split <;> simp [ih]

theorem insertEvent_ordered {e : GuideEvent} {l : List GuideEvent} (ordered : l.Pairwise GuideEvent.precedes)
    (apart : ∀ x ∈ l, x.overlaps e = false ∧ 0 < x.duration) (lasts : 0 < e.duration) :
    (insertEvent e l).Pairwise GuideEvent.precedes := by
  induction l with
  | nil => exact List.pairwise_singleton _ _
  | cons x xs ih =>
    obtain ⟨first, rest⟩ := List.pairwise_cons.mp ordered
    obtain ⟨xApart, xLasts⟩ := apart x List.mem_cons_self
    rw [insertEvent]
    split
    · rename_i before
      refine List.pairwise_cons.mpr ⟨fun y hy => ?_, ih rest fun y hy => apart y (List.mem_cons_of_mem _ hy)⟩
      rcases mem_insertEvent.mp hy with rfl | hy
      · exact precedes_of_before before xApart lasts
      · exact first y hy
    · rename_i after
      have ahead : e.precedes x := precedes_of_not_before after xApart xLasts
      refine List.pairwise_cons.mpr ⟨fun y hy => ?_, ordered⟩
      rcases List.mem_cons.mp hy with rfl | hy
      · exact ahead
      · exact precedes_trans ahead (first y hy)

theorem EventsOk.insertEvent {e : GuideEvent} {l : List GuideEvent} (h : EventsOk l) (room : l.length < 4096)
    (apart : ∀ x ∈ l, x.overlaps e = false) (fits : 60 ≤ e.duration ∧ e.duration ≤ 86400) :
    EventsOk (insertEvent e l) := by
  obtain ⟨-, ordered, lengths⟩ := h
  refine ⟨?_, insertEvent_ordered ordered (fun x hx => ⟨apart x hx, ?_⟩) ?_, fun x hx => ?_⟩
  · rw [length_insertEvent]
    omega
  · have := lengths x hx
    omega
  · omega
  · rcases mem_insertEvent.mp hx with rfl | hx
    · exact fits
    · exact lengths x hx

theorem mem_of_latestEvent {l : List GuideEvent} {last : GuideEvent} (h : latestEvent l = some last) : last ∈ l := by
  refine List.foldlRecOn (motive := fun best => best = some last → last ∈ l) l _ (by simp) (fun best ih e he picked => ?_) h
  split at picked
  · exact Option.some.inj picked ▸ he
  · split at picked
    · exact Option.some.inj picked ▸ he
    · exact ih picked

/-! ### Inserting an event -/

theorem GuideWork.purge_events (t : Tmb) (service : Nat) (g : GuideWork) :
    (g.purge t service).events.Sublist g.events := by
  rw [GuideWork.purge]
  split
  · exact List.filter_sublist
  · exact .refl _

section Insert

variable {t : Tmb} {e : GuideEvent} {g : GuideWork} (apart : ∀ x ∈ g.events, x.overlaps e = false)
  (fits : 60 ≤ e.duration ∧ e.duration ≤ 86400)

include apart fits

theorem EventsOk.evictFor (h : EventsOk g.events) : EventsOk (g.evictFor e).events := by
  rw [GuideWork.evictFor]
  split
  · exact h
  rename_i last found
  split
  · exact h
  · have sub : (g.events.erase last).Sublist g.events := List.erase_sublist
    refine (h.sublist sub).insertEvent ?_ (fun x hx => apart x (sub.subset hx)) fits
    have held := mem_of_latestEvent found
    have := List.length_pos_of_mem held
    rw [List.length_erase_of_mem held]
    have room := h.1
    omega

theorem EventsOk.insert (h : EventsOk g.events) : EventsOk (g.insert t e).events := by
  have sub : (g.purge t e.service).events.Sublist g.events := g.purge_events t e.service
  have apartPurged (x : GuideEvent) (hx : x ∈ (g.purge t e.service).events) : x.overlaps e = false := apart x (sub.subset hx)
  rw [GuideWork.insert]
  split
  · rename_i room
    exact h.insertEvent room apart fits
  dsimp only
  split
  · rename_i room
    exact (h.sublist sub).insertEvent room apartPurged fits
  · exact (h.sublist sub).evictFor apartPurged fits

end Insert

theorem EventsOk.arrive {t : Tmb} {segmentStart : Nat} {g : GuideWork} (h : EventsOk g.events) (e : GuideEvent) :
    EventsOk (g.arrive t segmentStart e).events := by
  have fits : 60 ≤ e.fit.duration ∧ e.fit.duration ≤ 86400 := by
    simp only [GuideEvent.fit]
    omega
  rw [GuideWork.arrive]
  split
  · exact h
  split
  · exact h
  rw [GuideWork.take]
  split
  · exact h
  · exact EventsOk.insert (g := { g with
        events := g.events.filter fun x => !x.overlaps e.fit
        counts := { g.counts with
          displaced := addCount (g.events.filter fun x => x.overlaps e.fit).length g.counts.displaced } })
      (fun x hx => by simpa using (List.mem_filter.mp hx).2) fits (h.sublist List.filter_sublist)

/-! ### The store as a whole -/

theorem State.GuideOk.of_gds {s t : State} (h : s.GuideOk) (same : t.gds = s.gds) : t.GuideOk := by
  rw [State.GuideOk, same]
  exact h

theorem State.GuideOk.of_records {s t : State} (h : s.GuideOk) (services : t.gds.services = s.gds.services)
    (events : t.gds.events = s.gds.events) : t.GuideOk := by
  rw [State.GuideOk, services, events]
  exact h

theorem guideOk_keptByResets : KeptByResets State.GuideOk where
  warm _ _ _ := resetMeetsTheInvariants.2.2.2.2.1
  cold _ := resetMeetsTheInvariants.2.2.2.2.1
  power _ _ h := h
  lane _ _ _ _ h _ := h

theorem keepEventEnd_guide {s : State} (h : s.GuideOk) : (keepEventEnd s).GuideOk := by
  rw [keepEventEnd_eq]
  exact h

theorem purgeEnded_guide {s : State} (h : s.GuideOk) : (purgeEnded s).GuideOk := by
  rw [guideOk_iff] at h ⊢
  exact h.imp_right fun events => events.sublist List.filter_sublist

theorem pairwise_storeVersion (service segment version : Nat) {services : List GuideService}
    (h : services.Pairwise fun x y => x.number < y.number) :
    (storeVersion service segment version services).Pairwise fun x y => x.number < y.number := by
  have number (r : GuideService) : (if r.number = service then
      { r with versions := setAt r.versions segment (some version) } else r).number = r.number := by
    split <;> rfl
  simpa only [storeVersion, List.pairwise_map, number] using h

/-- A section's service finds its record or gets one, where there is room for it (R132). -/
theorem withService_ok {service : Nat} {services : List GuideService}
    (h : services.length ≤ 256 ∧ services.Pairwise fun x y => x.number < y.number)
    (room : services.any (fun r => r.number == service) = false → services.length < 256) :
    (withService service services).length ≤ 256 ∧ (withService service services).Pairwise fun x y => x.number < y.number := by
  rw [withService]
  split
  · exact h
  · rename_i absent
    have fewer := room (Bool.eq_false_iff.mpr absent)
    exact ⟨(length_putOrdered_le _ _).trans fewer, putOrdered_ordered (key := GuideService.number) rfl h.2⟩

theorem completeGuide_guide (before : Gds) (service segment version : Nat) (others : Bool) {s : State} (h : s.GuideOk) :
    (completeGuide before service segment version others s).GuideOk := by
  have kept : State.GuideOk
      (if (s.gds.followed.any fun n => before.eventsOf n != s.gds.eventsOf n) then keepEventEnd s else s) := by
    split
    · exact keepEventEnd_guide h
    · exact h
  rw [completeGuide]
  split
  · exact kept
  · exact kept.of_gds (by simp)

theorem applyGuideSection_guide (x : Section) {s : State} (h : s.GuideOk) : (applyGuideSection x s).GuideOk := by
  simp only [applyGuideSection]
  split
  · exact h
  rename_i segmentStart events _
  split
  · exact h
  split
  · exact h
  split
  · exact h
  rename_i roomy
  refine completeGuide_guide _ _ _ _ _ ?_
  rw [guideOk_iff] at h ⊢
  obtain ⟨services, stored⟩ := h
  obtain ⟨bound, ordered⟩ := withService_ok (service := x.key) services fun absent => by
    simpa [Gds.hasService, absent] using roomy
  refine ⟨⟨?_, pairwise_storeVersion _ _ _ ordered⟩, ?_⟩
  · simpa [applyGuideEvents, storeVersion] using bound
  · exact List.foldlRecOn (motive := fun g : GuideWork => EventsOk g.events) _ _ (stored.sublist List.filter_sublist)
      fun g hg e _ => hg.arrive e

/-- Settles O8: the store is kept by the application of a section, by a purge, and by keeping EVENT_END. -/
theorem everyStepKeepsTheGuideStoreOrdered : Obligations.EveryStepKeepsTheGuideStoreOrdered := by
  refine step_keeps (fun _ _ h => h) (fun i s t h answered => ?_) (fun s h => h.of_gds (by simp))
  rcases exec_gds_cases s answered with same | ⟨cause, rfl⟩ | rfl | rfl | rfl | rfl | rfl | rfl | rfl | rfl
  · exact h.of_gds same
  · exact guideOk_keptByResets.warmReset h answered
  · exact guideOk_keptByResets.coldStart answered
  · exact whenRunning_keeps h (consume_keeps h fun x _ => applyGuideSection_guide x h) answered
  · simp only [exec, execEventEndFiring] at answered
    refine whenRunning_keeps h ?_ answered
    split
    · exact keepEventEnd_guide h
    · exact h
  · simp only [exec, execGdsContextChange] at answered
    refine whenRunning_keeps h ?_ answered
    split
    · exact keepEventEnd_guide h
    · exact h
  · simp only [exec, execGdsRewind] at answered
    refine whenRunning_keeps h ?_ answered
    split
    · exact keepEventEnd_guide h
    · exact h
  · simp only [exec, execGdsWallSet] at answered
    refine whenRunning_keeps h ?_ answered
    split
    · exact keepEventEnd_guide h
    · exact h
  · simp only [exec, execDayRollPurge] at answered
    refine whenRunning_keeps h ?_ answered
    split
    · exact purgeEnded_guide h
    · exact h
  · exact guideOk_keptByResets.dataLaneCellSent h answered

end Sys2Proof.Machine
end

section
/-! The reply queue kept by every step: event records leave 4 of its 32 places, and a reply takes the room reserved for it
(R177, R182). -/

namespace Sys2Proof.Machine

/-- The records held fit the queue, and a request in progress has its records reserved. -/
def State.RepliesFit (s : State) : Prop :=
  s.held ≤ 32 ∧ ∀ p, s.rqh.inProgress = some p → 1 ≤ p.reserved ∧ (p.request = .gridRead → 10 ≤ p.reserved)

theorem replyQueueOk_iff {s : State} : s.ReplyQueueOk ↔ s.RepliesFit ∧ s.gwn.rows ≤ 10 := by
  simp only [State.ReplyQueueOk, State.RepliesFit]
  tauto

/-! ### Event records and replies -/

theorem State.RepliesFit.frame {s t : State} (h : s.RepliesFit) (rpq : t.rpq = s.rpq)
    (inProgress : t.rqh.inProgress = s.rqh.inProgress) : t.RepliesFit := by
  simpa only [State.RepliesFit, State.held, Rqh.reserved, rpq, inProgress] using h

theorem emit_fits (e : Event) {s : State} (h : s.RepliesFit) : (emit e s).RepliesFit := by
  rw [emit]
  split
  · exact h
  split
  · rename_i few
    refine ⟨?_, h.2⟩
    simp only [State.held, List.length_append, List.length_singleton] at few ⊢
    omega
  · exact h

theorem emitAll_fits (es : List Event) {s : State} (h : s.RepliesFit) : (emitAll es s).RepliesFit :=
  List.foldlRecOn (motive := State.RepliesFit) es _ h fun _ h e _ => emit_fits e h

/-- A reply of as many records as are reserved fits. -/
theorem answerRecords_fits (result : Result) (endMark : Bool) (datas : List (List Byte)) {s : State} (h : s.RepliesFit)
    (room : ∀ p, s.rqh.inProgress = some p → datas.length ≤ p.reserved) :
    (answerRecords result endMark datas s).RepliesFit := by
  rw [answerRecords]
  split
  · exact h
  · rename_i p taken
    refine ⟨?_, nofun⟩
    have roomy := room p taken
    have bound := h.1
    simp only [State.held, Rqh.reserved, taken, Option.map_some, Option.map_none, Option.getD_some, Option.getD_none,
      List.length_append, List.length_map, List.length_zipIdx] at bound ⊢
    omega

theorem answer_fits (result : Result) (data : List Byte) {s : State} (h : s.RepliesFit) : (answer result data s).RepliesFit :=
  answerRecords_fits _ _ _ h fun p taken => (h.2 p taken).1

theorem reply_fits (result : Result) {s : State} (h : s.RepliesFit) : (reply result s).RepliesFit := answer_fits _ _ h

theorem fits_keptByEngine : KeptByEngine State.RepliesFit where
  frame h _ _ rpq inProgress := h.frame rpq inProgress
  emit e _ h := emit_fits e h
  answer _ _ _ h := answer_fits _ _ h
  table h _ := h
  freeActive h := h.frame (by simp) (by simp)
  freeArming h := h
  claimArming _ _ _ h := h
  swapRecords _ _ h := h.frame (by simp) (by simp)

theorem fits_keptByFraming : KeptByFraming State.RepliesFit :=
  fits_keptByEngine.framing fun record k c s _ h => by
    rw [scrambledCell]
    split
    · exact fits_keptByEngine.gateCatchUp _ (h.frame (by simp) (by simp))
    · exact h.frame (by simp) (by simp)

/-! ### The ports and the gate -/

theorem searchByte_fits (port : Port) (byte : Byte) {s : State} (h : s.RepliesFit) : (searchByte port byte s).RepliesFit := by
  have reported (u : State) (hu : u.RepliesFit) : (reportLock port u).RepliesFit := by
    simp only [reportLock]
    split
    · exact (emit_fits _ hu).frame rfl rfl
    · exact emit_fits _ hu
  simp only [searchByte]
  split
  · exact h
  split
  · exact h
  split
  · exact reported _ (h.frame (by simp) (by simp))
  · exact h.frame (by simp) (by simp)

theorem takeDscPosting_fits {s : State} (h : s.RepliesFit) : (takeDscPosting s).RepliesFit := by
  rw [takeDscPosting]
  split
  · exact fits_keptByEngine.gateEvent _ (h.frame rfl rfl)
  · exact h

theorem takePluPosting_fits {s : State} (h : s.RepliesFit) : (takePluPosting s).RepliesFit := by
  rw [takePluPosting]
  split
  · exact fits_keptByEngine.gateEvent _ (h.frame rfl rfl)
  · exact h

theorem takeGateContext_fits {s : State} (h : s.RepliesFit) : (takeGateContext s).RepliesFit := by
  rw [takeGateContext]
  split
  · exact fits_keptByEngine.gateEvent _ (h.frame rfl rfl)
  · exact h

/-! ### The descrambler and the wall -/

theorem applyKeySection_fits (x : Section) {s : State} (h : s.RepliesFit) : (applyKeySection x s).RepliesFit := by
  simp only [applyKeySection]
  split
  · exact h
  split
  · exact emit_fits _ h
  split
  · exact emit_fits _ h
  · refine h.frame ?_ ?_ <;> (repeat' split) <;> simp

theorem applyCheck_fits (first : List Event) {s : State} (h : s.RepliesFit) : (applyCheck first s).RepliesFit :=
  emitAll_fits _ (h.frame (by simp) (by simp))

theorem applyTimeSection_fits (x : Section) {s : State} (h : s.RepliesFit) : (applyTimeSection x s).RepliesFit := by
  rw [applyTimeSection]
  split
  · exact h
  rename_i b _
  have anchored : State.RepliesFit (if s.tmb.wallValid
      then realign b { s with tmb := { s.tmb with applied := satInc max32 s.tmb.applied } }
      else setWall b { s with tmb := { s.tmb with applied := satInc max32 s.tmb.applied } }) := by
    split
    · exact applyCheck_fits [] h
    · exact h.frame (by simp) (by simp)
  have moved (u : State) (hu : u.RepliesFit) : (applyNext b.next (setOffset b.offset u)).RepliesFit :=
    hu.frame (by simp) (by simp)
  have settled := moved _ anchored
  by_cases wall : s.tmb.wallValid = true
  · simpa only [wall, if_true] using settled
  · simp only [wall, Bool.false_eq_true, if_false] at settled ⊢
    exact emit_fits _ settled

/-! ### The schedule -/

theorem fireReminder_fits (e : Entry) (id period w : Nat) {s : State} (h : s.RepliesFit) :
    (fireReminder e id period w s).RepliesFit := (emit_fits _ h).frame rfl rfl

theorem visit_fits (wn : Nat) (e : Entry) {s : State} (h : s.RepliesFit) : (visit wn s e).RepliesFit := by
  rw [visit]
  split
  · split
    · exact h
    · exact fireReminder_fits _ _ _ _ h
  · exact h.frame (by simp) (by simp)

theorem advanceTo_fits (wn : Nat) {s : State} (h : s.RepliesFit) : (advanceTo wn s).RepliesFit := by
  have passed : (firingPass wn s).RepliesFit :=
    List.foldlRecOn (motive := State.RepliesFit) _ _ h fun _ h e _ => visit_fits wn e h
  simp only [advanceTo]
  split
  · exact passed
  · exact passed.frame (by simp) (by simp)

theorem addReminder_fits (id due period service event presence : Nat) {s : State} (h : s.RepliesFit) :
    (addReminder id due period service event presence s).RepliesFit := by
  have replied (result : Result) : (reply result s).RepliesFit := reply_fits _ h
  unfold addReminder
  extract_lets service event
  split
  · exact replied _
  split
  · exact replied _
  split
  · exact replied _
  split
  · exact replied _
  split
  · exact replied _
  · exact reply_fits _ h

theorem dropReminder_fits (id : Nat) {s : State} (h : s.RepliesFit) : (dropReminder id s).RepliesFit := by
  rw [dropReminder]
  split <;> exact reply_fits _ h

theorem releaseReminders_fits {s : State} (h : s.RepliesFit) : (releaseReminders s).RepliesFit := by
  have replied : (reply .ok { s with scp := { s.scp with hold := false } }).RepliesFit := reply_fits _ h
  rw [releaseReminders]
  dsimp only
  split
  · refine List.foldlRecOn (motive := State.RepliesFit) _ _ replied fun u h e _ => ?_
    rw [releaseEntry]
    split
    · exact fireReminder_fits _ _ _ _ h
    · exact h
  · exact replied

theorem setRange_fits (index profile lower upper : Nat) {s : State} (h : s.RepliesFit) :
    (setRange index profile lower upper s).RepliesFit := by
  rw [setRange]
  split
  · exact reply_fits _ h
  split
  · exact reply_fits _ h
  · rename_i r _ _
    have replied (ranges : List HoursRange) : (reply .ok { s with scp := { s.scp with ranges } }).RepliesFit :=
      reply_fits _ h
    exact (replied _).frame (by simp; rfl) (by simp)

/-! ### Entitlements and the directory -/

theorem entChanged_fits (cause : EntCause) {s : State} (h : s.RepliesFit) : (entChanged cause s).RepliesFit :=
  emit_fits _ (h.frame (by simp) (by simp))

theorem creditChanged_fits (cause : CreditCause) {s : State} (h : s.RepliesFit) : (creditChanged cause s).RepliesFit :=
  emit_fits _ h

theorem applyMessage_fits (m : Message) {s : State} (h : s.RepliesFit) : (applyMessage m s).RepliesFit := by
  cases m with
  | entitle items =>
    simp only [applyMessage, entitle]
    split
    · exact entChanged_fits _ h
    · exact h
  | revoke tiers =>
    simp only [applyMessage, revoke]
    split
    · exact h
    · exact entChanged_fits _ h
  | credit granted through =>
    simp only [applyMessage, credit]
    split
    · exact h
    · exact creditChanged_fits _ h
  | group number position => exact h

theorem applyEntitlementSection_fits (x : Section) {s : State} (h : s.RepliesFit) :
    (applyEntitlementSection x s).RepliesFit := by
  rw [applyEntitlementSection]
  split
  · exact h
  split
  · exact h
  · exact applyMessage_fits _ h

theorem expireEntitlements_fits {s : State} (h : s.RepliesFit) : (expireEntitlements s).RepliesFit := by
  simp only [expireEntitlements]
  split
  · exact h.frame (by simp) (by simp)
  · exact entChanged_fits _ h

theorem purchase_fits (service event : Nat) {s : State} (h : s.RepliesFit) : (purchase service event s).RepliesFit := by
  have refused (result : Result) : (reply result s).RepliesFit := reply_fits _ h
  have carried (price seq : Nat) : (carryOutPurchase service event price seq s).RepliesFit :=
    creditChanged_fits _ (entChanged_fits _ (answer_fits _ _ h))
  rw [purchase]
  (repeat' split) <;> first
    | exact refused _
    | exact carried _ _

theorem applyDirectorySection_fits (x : Section) {s : State} (h : s.RepliesFit) :
    (applyDirectorySection x s).RepliesFit := by
  rw [applyDirectorySection]
  split
  · split
    · exact h
    · exact emit_fits _ h
  · exact h

/-! ### The guide -/

theorem completeGuide_fits (before : Gds) (service segment version : Nat) (others : Bool) {s : State} (h : s.RepliesFit) :
    (completeGuide before service segment version others s).RepliesFit := by
  have kept : State.RepliesFit
      (if (s.gds.followed.any fun n => before.eventsOf n != s.gds.eventsOf n) then keepEventEnd s else s) := by
    split
    · exact h.frame (by simp) (by simp)
    · exact h
  rw [completeGuide]
  split
  · exact kept
  · exact emit_fits _ kept

theorem applyGuideSection_fits (x : Section) {s : State} (h : s.RepliesFit) : (applyGuideSection x s).RepliesFit := by
  simp only [applyGuideSection]
  split
  · exact h
  split
  · exact h
  split
  · exact h
  split
  · exact h
  · exact completeGuide_fits _ _ _ _ _ h

/-! ### Parental limits -/

theorem send_fits (x : Handover) {s : State} (h : s.RepliesFit) : (send x s).RepliesFit := h.frame rfl rfl

theorem evalBudget_fits {s : State} (h : s.RepliesFit) : (evalBudget s).RepliesFit := h.frame rfl rfl

theorem evalLocked_fits {s : State} (h : s.RepliesFit) : (evalLocked s).RepliesFit := h.frame rfl rfl

theorem evalRating_fits {s : State} (h : s.RepliesFit) : (evalRating s).RepliesFit := h.frame rfl rfl

theorem evalHours_fits {s : State} (h : s.RepliesFit) : (evalHours s).RepliesFit := h.frame rfl rfl

theorem evalMask_fits {s : State} (h : s.RepliesFit) : (evalMask s).RepliesFit := h.frame rfl rfl

theorem withProfile_fits (n : Nat) (f : Profile → Profile) {s : State} (h : s.RepliesFit) :
    (withProfile n f s).RepliesFit := h.frame rfl rfl

theorem pluEvent_fits {effect : State → State} {s : State} (h : (effect s).RepliesFit) : (pluEvent effect s).RepliesFit := by
  rw [pluEvent_eq]
  exact h

theorem budgetTests_fits (n : Nat) (before : Profile) {s : State} (h : s.RepliesFit) : (budgetTests n before s).RepliesFit := by
  have warned : (warnTest n s).RepliesFit := by
    simp only [warnTest]
    split
    · exact emit_fits _ h
    · exact h
  simp only [budgetTests, spentTest]
  split
  · exact emit_fits _ warned
  · exact warned

theorem accrueSecond_fits {s : State} (h : s.RepliesFit) : (accrueSecond s).RepliesFit := by
  simp only [accrueSecond]
  generalize s.plu.remainder - 1000 = left
  split
  · exact evalBudget_fits (budgetTests_fits _ _ (withProfile_fits _ _ h))
  · exact h

theorem rollDay_fits (stored : Int) {s : State} (h : s.RepliesFit) : (rollDay stored s).RepliesFit := by
  have tested (before : Plu) {u : State} (hu : u.RepliesFit) : (rollTests before u).RepliesFit := by
    refine List.foldlRecOn (motive := State.RepliesFit) _ _ hu fun u hu n _ => ?_
    split
    · exact budgetTests_fits _ _ hu
    · exact hu
  exact send_fits _ (evalBudget_fits (tested _ (emit_fits _ h)))

theorem rollIfRisen_fits {s : State} (h : s.RepliesFit) : (rollIfRisen s).RepliesFit := by
  rw [rollIfRisen]
  split
  · split
    · exact rollDay_fits _ h
    · exact h
  · exact h

theorem rollAtWallSet_fits {s : State} (h : s.RepliesFit) : (rollAtWallSet s).RepliesFit := by
  rw [rollAtWallSet]
  split
  · split
    · exact h
    · exact rollDay_fits _ h
  · exact h

theorem stopOverride_fits (cause : OverrideCause) {s : State} (h : s.RepliesFit) : (stopOverride cause s).RepliesFit := by
  rw [stopOverride]
  split
  · exact h
  · dsimp only
    split
    · exact evalMask_fits (emit_fits _ h)
    · exact evalMask_fits (emit_fits _ (h.frame (by simp) (by simp)))

theorem takeContext_fits (cause : ContextCause) (service mapStream : Option Nat) {s : State} (h : s.RepliesFit) :
    (takeContext cause service mapStream s).RepliesFit := by
  simp only [takeContext]
  split
  · exact evalLocked_fits (evalRating_fits (stopOverride_fits _ h))
  · exact evalLocked_fits (evalRating_fits h)

theorem setBudget_fits (profile mode minutes timing : Nat) {s : State} (h : s.RepliesFit) :
    (setBudget profile mode minutes timing s).RepliesFit := by
  rw [setBudget]
  split
  · exact reply_fits _ h
  split
  · exact reply_fits _ h
  split
  · exact reply_fits _ h
  · exact evalBudget_fits (budgetTests_fits _ _ (reply_fits _ (withProfile_fits _ _ h)))

theorem override_fits (minutes scope : Nat) {s : State} (h : s.RepliesFit) : (override minutes scope s).RepliesFit := by
  have begun (scope : Option Nat) (minutes : Nat) : (beginOverride scope minutes s).RepliesFit :=
    evalMask_fits (answer_fits _ _ (h.frame (by simp) (by simp)))
  rw [override]
  split
  · exact reply_fits _ h
  split
  · exact reply_fits _ h
  split
  · exact begun _ _
  split
  · exact reply_fits _ h
  · exact begun _ _

theorem endOverride_fits {s : State} (h : s.RepliesFit) : (endOverride s).RepliesFit := by
  rw [endOverride]
  split
  · exact stopOverride_fits _ (reply_fits _ h)
  · exact reply_fits _ h

theorem selectProfile_fits (n : Nat) {s : State} (h : s.RepliesFit) : (selectProfile n s).RepliesFit := by
  rw [selectProfile]
  split
  · exact reply_fits _ h
  · have stopped : (stopOverride .profile (reply .ok { s with plu := { s.plu with active := n } })).RepliesFit :=
      stopOverride_fits _ (reply_fits _ h)
    exact evalBudget_fits (evalHours_fits (evalLocked_fits (evalRating_fits (send_fits _ (stopped.frame rfl rfl)))))

theorem setProfileLimits_fits (profile ceiling blocked policy follow : Nat) {s : State} (h : s.RepliesFit) :
    (setProfileLimits profile ceiling blocked policy follow s).RepliesFit := by
  rw [setProfileLimits]
  split
  · exact reply_fits _ h
  · dsimp only
    split
    · exact evalRating_fits (reply_fits _ (withProfile_fits _ _ h))
    · exact reply_fits _ (withProfile_fits _ _ h)

theorem lockChanged_fits (profile : Nat) {s : State} (h : s.RepliesFit) : (lockChanged profile s).RepliesFit := by
  rw [lockChanged]
  split
  · exact evalLocked_fits h
  · exact h

theorem lockService_fits (profile service : Nat) {s : State} (h : s.RepliesFit) : (lockService profile service s).RepliesFit := by
  rw [lockService]
  split
  · exact reply_fits _ h
  split
  · exact reply_fits _ h
  split
  · exact reply_fits _ h
  · exact lockChanged_fits _ (reply_fits _ (withProfile_fits _ _ h))

theorem unlockService_fits (profile service : Nat) {s : State} (h : s.RepliesFit) :
    (unlockService profile service s).RepliesFit := by
  rw [unlockService]
  split
  · exact reply_fits _ h
  split
  · exact reply_fits _ h
  · exact lockChanged_fits _ (reply_fits _ (withProfile_fits _ _ h))

theorem hostMute_fits (value : Nat) {s : State} (h : s.RepliesFit) : (hostMute value s).RepliesFit := by
  rw [hostMute]
  split <;> exact reply_fits _ h

/-! ### The guide window -/

theorem gridSet_fits (top rows columns start : Nat) {s : State} (h : s.RepliesFit) :
    (gridSet top rows columns start s).RepliesFit := by
  rw [gridSet]
  split
  · exact reply_fits _ h
  split
  · exact reply_fits _ h
  · exact answer_fits _ _ h

theorem cursorMove_fits (code : Nat) {s : State} (h : s.RepliesFit) : (cursorMove code s).RepliesFit := by
  rw [cursorMove]
  split
  · exact reply_fits _ h
  split
  · exact reply_fits _ h
  split
  · exact reply_fits _ h
  · exact answer_fits _ _ h

theorem length_gridRecords (s : State) (s0 : Nat) : (gridRecords s s0).length ≤ max 1 s.gwn.rows := by
  rw [gridRecords]
  split
  · exact Nat.le_max_left _ _
  · simp [Gwn.visible]

/-- GRID_READ finds the 10 records that were reserved for it, as the window shows at most 10 rows (R168, R177). -/
theorem gridRead_fits {s : State} (h : s.RepliesFit) (rows : s.gwn.rows ≤ 10) (asked : s.asked = some .gridRead) :
    (gridRead s).RepliesFit := by
  rw [gridRead]
  split
  · exact reply_fits _ h
  split
  · refine answerRecords_fits _ _ _ h fun p taken => ?_
    have reserved := (h.2 p taken).2 (by simpa [State.asked, taken] using asked)
    have := length_gridRecords s ‹Nat›
    omega
  · exact reply_fits _ h

/-! ### Request intake, and the requests of the handler and the queue -/

/-- A payload's code spells the request of that code (R190). -/
theorem code_of_requestForm {code n : Nat} {p : List Byte} {r : Request} (h : requestForm code p = some (n, r)) :
    r.code = code := by
  unfold requestForm at h
  dsimp only at h
  split at h <;> cases h <;> rfl

theorem code_of_requestOf {payload : List Byte} {r : Request} (h : requestOf payload = some r) :
    r.code = fieldAt payload 0 1 := by
  rw [requestOf] at h
  split at h
  · cases h
  rename_i formed
  split at h
  · cases h
    exact code_of_requestForm formed
  · cases h

theorem intakeRequest_fits {s : State} (h : s.RepliesFit) : (intakeRequest s).RepliesFit := by
  rw [intakeRequest]
  split
  · exact h
  split
  · rename_i payload rest _ able
    obtain ⟨⟨idle, -⟩, room⟩ : (s.rqh.inProgress = none ∧ s.rqh.stopped = false) ∧ s.held + recordsNeeded payload ≤ 32 := by
      simpa [State.canTake] using able
    have needed : 1 ≤ recordsNeeded payload := by
      rw [recordsNeeded]
      split <;> omega
    simp only [State.held, Rqh.reserved, idle, Option.map_none, Option.getD_none] at room
    rw [takeRequest]
    split
    · refine ⟨?_, fun p taken => by simp [idle] at taken⟩
      simp only [State.held, Rqh.reserved, idle, Option.map_none, Option.getD_none, List.length_append,
        List.length_singleton]
      omega
    · rename_i request parsed
      refine ⟨by simpa [State.held, Rqh.reserved] using room, fun p taken => ?_⟩
      cases taken
      refine ⟨needed, fun grid => ?_⟩
      have code : fieldAt payload 0 1 = 0x62 := by
        have asked : request = .gridRead := grid
        rw [← code_of_requestOf parsed, asked]
        rfl
      simp [recordsNeeded, code]
  · exact h

theorem readTable_fits (table first count : Nat) {s : State} (h : s.RepliesFit) : (readTable table first count s).RepliesFit := by
  rw [readTable]
  split
  · exact reply_fits _ h
  split
  · exact reply_fits _ h
  · rename_i records _ _
    have answered : (answerRecords .ok (reachesEnd records first count) [tableSlice records first count] s).RepliesFit :=
      answerRecords_fits _ _ _ h fun p taken => (h.2 p taken).1
    exact answered.frame (by simp) (by simp)

theorem setEventMask_fits (classes enable : Nat) {s : State} (h : s.RepliesFit) : (setEventMask classes enable s).RepliesFit := by
  rw [setEventMask]
  split
  · exact reply_fits _ h
  · exact reply_fits _ h

theorem fits_keptByResets : KeptByResets State.RepliesFit where
  warm _ _ _ := ⟨Nat.zero_le _, nofun⟩
  cold _ := ⟨Nat.zero_le _, nofun⟩
  power _ _ h := h
  lane _ _ _ _ h sub := ⟨(Nat.add_le_add_right sub.length_le _).trans h.1, h.2⟩

/-! ### The commands -/

theorem exec_fits {i : Instr} {s t : State} (h : s.RepliesFit) (rows : s.gwn.rows ≤ 10) (answered : exec i s = .next t) :
    t.RepliesFit := by
  cases i with
  | warmReset cause => exact fits_keptByResets.warmReset h answered
  | resetPinRelease => exact h.frame (by simp [execResetPinRelease_frame s answered]) (by simp [execResetPinRelease_frame s answered])
  | coldStart => exact fits_keptByResets.coldStart answered
  | syncSearch port byte => exact whenRunning_keeps h (searchByte_fits _ _ h) answered
  | cellArrival port bytes => exact fits_keptByFraming.cellArrival h answered
  | portLCell strobe bytes => exact fits_keptByFraming.portLCell h answered
  | idleWatchExpiry port =>
    simp only [exec, execIdleWatchExpiry] at answered
    refine whenRunning_keeps h ?_ answered
    split
    · exact emit_fits _ (h.frame (by simp) (by simp))
    · exact h
  | holdoverWatchExpiry =>
    simp only [exec, execHoldoverWatchExpiry] at answered
    refine whenRunning_keeps h ?_ answered
    split
    · exact emit_fits _ h
    · exact h
  | secondAdvance => exact whenRunning_keeps h (applyCheck_fits [] h) answered
  | timeSection => exact whenRunning_keeps h (consume_keeps h fun x _ => applyTimeSection_fits x h) answered
  | offsetChangeFiring => exact h.frame (by simp [execOffsetChangeFiring_frame s answered]) (by simp [execOffsetChangeFiring_frame s answered])
  | firingPass =>
    simp only [exec, execFiringPass] at answered
    refine whenRunning_keeps h ?_ answered
    split
    · exact advanceTo_fits _ (h.frame rfl rfl)
    · exact h
  | scpWallSet => exact h.frame (by simp [execScpWallSet_frame s answered]) (by simp [execScpWallSet_frame s answered])
  | scpRewind => exact h.frame (by simp [execScpRewind_frame s answered]) (by simp [execScpRewind_frame s answered])
  | scpOffsetChange => exact h.frame (by simp [execScpOffsetChange_frame s answered]) (by simp [execScpOffsetChange_frame s answered])
  | scpProfileChange => exact h.frame (by simp [execScpProfileChange_frame s answered]) (by simp [execScpProfileChange_frame s answered])
  | addReminder =>
    simp only [exec, execAddReminder] at answered
    refine whenRunning_keeps h ?_ answered
    split
    · exact addReminder_fits _ _ _ _ _ _ h
    · exact h
  | dropReminder =>
    simp only [exec, execDropReminder] at answered
    refine whenRunning_keeps h ?_ answered
    split
    · exact dropReminder_fits _ h
    · exact h
  | holdReminders =>
    simp only [exec, execHoldReminders] at answered
    refine whenRunning_keeps h ?_ answered
    split
    · exact reply_fits _ h
    · exact h
  | releaseReminders =>
    simp only [exec, execReleaseReminders] at answered
    refine whenRunning_keeps h ?_ answered
    split
    · exact releaseReminders_fits h
    · exact h
  | setRange =>
    simp only [exec, execSetRange] at answered
    refine whenRunning_keeps h ?_ answered
    split
    · exact setRange_fits _ _ _ _ h
    · exact h
  | directorySection => exact whenRunning_keeps h (consume_keeps h fun x _ => applyDirectorySection_fits x h) answered
  | tune => exact fits_keptByEngine.command (by simp) h answered
  | portALockReport => exact fits_keptByEngine.command (by simp) h answered
  | portAHuntReport => exact fits_keptByEngine.command (by simp) h answered
  | tunerReady => exact fits_keptByEngine.command (by simp) h answered
  | tunerFail => exact fits_keptByEngine.command (by simp) h answered
  | tuneTimeout => exact fits_keptByEngine.command (by simp) h answered
  | mapSection => exact fits_keptByEngine.command (by simp) h answered
  | noMapTimeout => exact fits_keptByEngine.command (by simp) h answered
  | armingReport => exact fits_keptByEngine.command (by simp) h answered
  | waitKeyTimeout => exact fits_keptByEngine.command (by simp) h answered
  | forcedSplice => exact fits_keptByEngine.command (by simp) h answered
  | cancel => exact fits_keptByEngine.command (by simp) h answered
  | setAudio => exact fits_keptByEngine.command (by simp) h answered
  | standby => exact fits_keptByEngine.command (by simp) h answered
  | wake => exact fits_keptByEngine.command (by simp) h answered
  | addRoute => exact fits_keptByEngine.command (by simp) h answered
  | dropRoute => exact fits_keptByEngine.command (by simp) h answered
  | keySection => exact whenRunning_keeps h (consume_keeps h fun x _ => applyKeySection_fits x h) answered
  | entChangeNotice => exact h.frame (by simp [execEntChangeNotice_frame s answered]) (by simp [execEntChangeNotice_frame s answered])
  | dscWallSet => exact h.frame (by simp [execDscWallSet_frame s answered]) (by simp [execDscWallSet_frame s answered])
  | entitlementSection => exact whenRunning_keeps h (consume_keeps h fun x _ => applyEntitlementSection_fits x h) answered
  | entExpiryFiring =>
    simp only [exec, execEntExpiryFiring] at answered
    refine whenRunning_keeps h ?_ answered
    split
    · exact expireEntitlements_fits (h.frame rfl rfl)
    · exact h
  | enuWallSet => exact h.frame (by simp [execEnuWallSet_frame s answered]) (by simp [execEnuWallSet_frame s answered])
  | purchase =>
    simp only [exec, execPurchase] at answered
    refine whenRunning_keeps h ?_ answered
    split
    · exact purchase_fits _ _ h
    · exact h
  | guideSection => exact whenRunning_keeps h (consume_keeps h fun x _ => applyGuideSection_fits x h) answered
  | eventEndFiring => exact h.frame (by simp [execEventEndFiring_frame s answered]) (by simp [execEventEndFiring_frame s answered])
  | gdsContextChange => exact h.frame (by simp [execGdsContextChange_frame s answered]) (by simp [execGdsContextChange_frame s answered])
  | gdsRewind => exact h.frame (by simp [execGdsRewind_frame s answered]) (by simp [execGdsRewind_frame s answered])
  | gdsWallSet => exact h.frame (by simp [execGdsWallSet_frame s answered]) (by simp [execGdsWallSet_frame s answered])
  | dayRollPurge => exact h.frame (by simp [execDayRollPurge_frame s answered]) (by simp [execDayRollPurge_frame s answered])
  | ratingSection => exact h.frame (by simp [execRatingSection_frame s answered]) (by simp [execRatingSection_frame s answered])
  | nowEventNotice => exact h.frame (by simp [execNowEventNotice_frame s answered]) (by simp [execNowEventNotice_frame s answered])
  | pluContextChange =>
    simp only [exec, execPluContextChange] at answered
    refine whenRunning_keeps h ?_ answered
    split
    · exact pluEvent_fits (takeContext_fits _ _ _ (h.frame rfl rfl))
    · exact h
  | windowStatesHandover => exact h.frame (by simp [execWindowStatesHandover_frame s answered]) (by simp [execWindowStatesHandover_frame s answered])
  | gateStateHandover => exact h.frame (by simp [execGateStateHandover_frame s answered]) (by simp [execGateStateHandover_frame s answered])
  | budgetAccrualMinute =>
    simp only [exec, execBudgetAccrualMinute] at answered
    refine whenRunning_keeps h ?_ answered
    split
    · exact pluEvent_fits (accrueSecond_fits h)
    · exact h
  | dayRollFiring =>
    simp only [exec, execDayRollFiring] at answered
    refine whenRunning_keeps h ?_ answered
    split
    · exact pluEvent_fits (rollIfRisen_fits (h.frame rfl rfl))
    · exact h
  | pluOffsetChange =>
    simp only [exec, execPluOffsetChange] at answered
    refine whenRunning_keeps h ?_ answered
    split
    · exact pluEvent_fits (rollIfRisen_fits (h.frame rfl rfl))
    · exact h
  | pluWallSet =>
    simp only [exec, execPluWallSet] at answered
    refine whenRunning_keeps h ?_ answered
    split
    · exact pluEvent_fits (rollAtWallSet_fits (h.frame rfl rfl))
    · exact h
  | selectProfile =>
    simp only [exec, execSelectProfile] at answered
    refine whenRunning_keeps h ?_ answered
    split
    · exact pluEvent_fits (selectProfile_fits _ h)
    · exact h
  | setProfileLimits =>
    simp only [exec, execSetProfileLimits] at answered
    refine whenRunning_keeps h ?_ answered
    split
    · exact pluEvent_fits (setProfileLimits_fits _ _ _ _ _ h)
    · exact h
  | lockService =>
    simp only [exec, execLockService] at answered
    refine whenRunning_keeps h ?_ answered
    split
    · exact pluEvent_fits (lockService_fits _ _ h)
    · exact h
  | unlockService =>
    simp only [exec, execUnlockService] at answered
    refine whenRunning_keeps h ?_ answered
    split
    · exact pluEvent_fits (unlockService_fits _ _ h)
    · exact h
  | setBudget =>
    simp only [exec, execSetBudget] at answered
    refine whenRunning_keeps h ?_ answered
    split
    · exact pluEvent_fits (setBudget_fits _ _ _ _ h)
    · exact h
  | override =>
    simp only [exec, execOverride] at answered
    refine whenRunning_keeps h ?_ answered
    split
    · exact pluEvent_fits (override_fits _ _ h)
    · exact h
  | endOverride =>
    simp only [exec, execEndOverride] at answered
    refine whenRunning_keeps h ?_ answered
    split
    · exact pluEvent_fits (endOverride_fits h)
    · exact h
  | overrideEndFiring =>
    simp only [exec, execOverrideEndFiring] at answered
    refine whenRunning_keeps h ?_ answered
    split
    · split
      · exact pluEvent_fits (stopOverride_fits _ (h.frame rfl rfl))
      · exact h
    · exact h
  | hostMute =>
    simp only [exec, execHostMute] at answered
    refine whenRunning_keeps h ?_ answered
    split
    · exact pluEvent_fits (hostMute_fits _ h)
    · exact h
  | gatePosting poster =>
    cases poster with
    | dsc => exact whenRunning_keeps h (takeDscPosting_fits h) answered
    | plu => exact whenRunning_keeps h (takePluPosting_fits h) answered
  | pgtContextChange => exact whenRunning_keeps h (takeGateContext_fits h) answered
  | gwnWallSet => exact h.frame (by simp [execGwnWallSet_frame s answered]) (by simp [execGwnWallSet_frame s answered])
  | gridSet =>
    simp only [exec, execGridSet] at answered
    refine whenRunning_keeps h ?_ answered
    split
    · exact gridSet_fits _ _ _ _ h
    · exact h
  | cursorMove =>
    simp only [exec, execCursorMove] at answered
    refine whenRunning_keeps h ?_ answered
    split
    · exact cursorMove_fits _ h
    · exact h
  | gridRead =>
    simp only [exec, execGridRead] at answered
    refine whenRunning_keeps h ?_ answered
    split
    · rename_i asked
      exact gridRead_fits h rows asked
    · exact h
  | requestIntake => exact whenRunning_keeps h (intakeRequest_fits h) answered
  | reset =>
    simp only [exec, execReset] at answered
    refine whenRunning_keeps h ?_ answered
    split
    · exact (reply_fits _ h).frame rfl rfl
    · exact h
  | readTable =>
    simp only [exec, execReadTable] at answered
    refine whenRunning_keeps h ?_ answered
    split
    · exact readTable_fits _ _ _ h
    · exact h
  | setEventMask =>
    simp only [exec, execSetEventMask] at answered
    refine whenRunning_keeps h ?_ answered
    split
    · exact setEventMask_fits _ _ h
    · exact h
  | dataLaneCellSent => exact fits_keptByResets.dataLaneCellSent h answered
  | mainSupplyLoss => exact h.frame (by simp [execMainSupplyLoss_frame s answered]) (by simp [execMainSupplyLoss_frame s answered])
  | budgetAccrualSecond =>
    simp only [exec, execBudgetAccrualSecond] at answered
    refine whenRunning_keeps h ?_ answered
    split
    · exact pluEvent_fits (accrueSecond_fits h)
    · exact h

/-- The window's rows stay within 10, as GRID_SET brings them there (R168, R170). -/
theorem exec_rows {i : Instr} {s t : State} (h : s.gwn.rows ≤ 10) (answered : exec i s = .next t) : t.gwn.rows ≤ 10 := by
  have cleared : Gwn.reset.rows ≤ 10 := by decide
  have kept : KeptByResets fun s : State => s.gwn.rows ≤ 10 :=
    { warm := fun _ _ _ => cleared, cold := fun _ => cleared, power := fun _ _ h => h, lane := fun _ _ _ _ h _ => h }
  rcases exec_gwn_cases s answered with same | ⟨cause, rfl⟩ | rfl | rfl | rfl | rfl | rfl
  · exact same ▸ h
  · exact kept.warmReset h answered
  · exact kept.coldStart answered
  · simp only [exec, execGwnWallSet] at answered
    refine whenRunning_keeps (P := fun s : State => s.gwn.rows ≤ 10) h ?_ answered
    split
    · split <;> exact h
    · exact h
  · simp only [exec, execGridSet] at answered
    refine whenRunning_keeps (P := fun s : State => s.gwn.rows ≤ 10) h ?_ answered
    split
    · simp only [gridSet]
      split
      · simpa using h
      split
      · simpa using h
      · simp [Gwn.place, within]
    · exact h
  · simp only [exec, execCursorMove] at answered
    refine whenRunning_keeps (P := fun s : State => s.gwn.rows ≤ 10) h ?_ answered
    split
    · simp only [cursorMove]
      split
      · simpa using h
      split
      · simpa using h
      split
      · simpa using h
      · rename_i d _ _ _
        have moved (g : Gwn) (ring : List Service) (events : List GuideEvent) (w : Nat) :
            ((g.move ring events w d).scroll w).rows = g.rows := by
          cases d <;> simp only [Gwn.move, Gwn.scroll] <;> split <;> rfl
        simpa [moveCursor, moved, Gwn.normalise] using h
    · exact h
  · exact kept.dataLaneCellSent h answered

/-- Settles O5: what is queued and reserved fits by what each command offers and answers, and the rows of the window bound the
records of GRID_READ. -/
theorem everyStepKeepsTheReplyQueueBound : Obligations.EveryStepKeepsTheReplyQueueBound := by
  refine step_keeps (fun _ _ h => h) (fun i s t h answered => ?_) (fun s h => ?_) <;> rw [replyQueueOk_iff] at h ⊢
  · exact ⟨exec_fits h.1 h.2 answered, exec_rows h.2 answered⟩
  · exact ⟨h.1.frame (by simp) (by simp), by simpa using h.2⟩

end Sys2Proof.Machine
end

section
/-! The rule of the route table under its operations (R9, R15, R96). -/

namespace Sys2Proof.Machine

/-! ### Tables whose routes stand in a relation, entry against entry -/

/-- The part of the table's rule that is about single entries: 24 entries, the quotas of the owners, and each route as its owner
may hold it. -/
def RouteTable.Owned (t : RouteTable) : Prop :=
  t.length = 24 ∧ t.owned .fixed = 6 ∧ t.owned .change ≤ 10 ∧ t.owned .host ≤ 8 ∧ ∀ r, some r ∈ t → r.Ok

/-- Any two routes of the table, in different entries, stand in a relation. -/
def RouteTable.Mutual (rel : Route → Route → Prop) (t : RouteTable) : Prop :=
  ∀ (i j : Nat) (r q : Route), i ≠ j → t[i]? = some (some r) → t[j]? = some (some q) → rel r q

/-- The rule of R9, about a table by itself. -/
def RouteTable.Sound (t : RouteTable) : Prop := t.Owned ∧ t.Mutual Route.apart

theorem Route.apart_comm {r q : Route} (h : r.apart q) : q.apart r := by
  obtain ⟨place, lane⟩ := h
  refine ⟨fun ⟨port, stream, state⟩ => place ⟨port.symm, stream.symm, state.symm⟩, fun ⟨present, use, state⟩ => lane ⟨?_, use.symm, state.symm⟩⟩
  simpa [Route.isPresent, use] using present

theorem routesOk_iff {s : State} : s.RoutesOk ↔ RouteTable.Sound s.routes := by
  have pairs : (List.Pairwise (fun e f => ∀ r q, e = some r → f = some q → r.apart q) s.routes)
      ↔ RouteTable.Mutual Route.apart s.routes := by
    rw [List.pairwise_iff_getElem]
    constructor
    · intro h i j r q different hr hq
      obtain ⟨hi, er⟩ := List.getElem?_eq_some_iff.mp hr
      obtain ⟨hj, eq⟩ := List.getElem?_eq_some_iff.mp hq
      rcases Nat.lt_or_gt_of_ne different with lt | gt
      · exact h i j hi hj lt r q er eq
      · exact Route.apart_comm (h j i hj hi gt q r eq er)
    · intro h i j hi hj lt r q er eq
      exact h i j r q lt.ne (List.getElem?_eq_some_iff.mpr ⟨hi, er⟩) (List.getElem?_eq_some_iff.mpr ⟨hj, eq⟩)
  simp only [State.RoutesOk, RouteTable.Sound, RouteTable.Owned, RouteTable.owned, pairs]
  tauto

section
variable {t t' : RouteTable}

theorem RouteTable.mem_of_getElem? {k : Nat} {r : Route} (h : t[k]? = some (some r)) : some r ∈ t := List.mem_of_getElem? h

/-! ### Entries changed each by itself -/

/-- A change of single entries that frees no FIXED route and leaves each owner. -/
structure KeepsOwners (t : RouteTable) (f : Option Route → Option Route) : Prop where
  free : f none = none
  fixed : ∀ r, some r ∈ t → r.owner = .fixed → f (some r) ≠ none
  image : ∀ r q, some r ∈ t → f (some r) = some q → q.owner = r.owner ∧ q.Ok

theorem RouteTable.Owned.map {f : Option Route → Option Route} (h : t.Owned) (kept : KeepsOwners t f) :
    RouteTable.Owned (t.map f) := by
  obtain ⟨length, fixed, change, host, ok⟩ := h
  have forward (o : Owner) (e : Option Route) (he : e ∈ t) (held : (f e).any (·.owner == o) = true) :
      e.any (·.owner == o) = true := by
    cases e with
    | none => simp [kept.free] at held
    | some r =>
      rcases image : f (some r) with _ | q
      · simp [image] at held
      · simpa [image, (kept.image r q he image).1] using held
  have fewer (o : Owner) : RouteTable.owned (t.map f) o ≤ t.owned o := by
    rw [RouteTable.owned, List.countP_map]
    exact List.countP_mono_left fun e he held => forward o e he held
  refine ⟨by simpa using length, ?_, (fewer _).trans change, (fewer _).trans host, fun q hq => ?_⟩
  · rw [← fixed, RouteTable.owned, List.countP_map]
    refine List.countP_congr fun e he => ⟨forward .fixed e he, fun held => ?_⟩
    cases e with
    | none => simp at held
    | some r =>
      have owner : r.owner = .fixed := by simpa using held
      obtain ⟨q, image⟩ := Option.ne_none_iff_exists'.mp (kept.fixed r he owner)
      simp [image, (kept.image r q he image).1, owner]
  · obtain ⟨e, he, image⟩ := List.mem_map.mp hq
    cases e with
    | none => simp [kept.free] at image
    | some r => exact (kept.image r q he image).2

theorem RouteTable.Mutual.map {rel rel' : Route → Route → Prop} {f : Option Route → Option Route} (h : t.Mutual rel)
    (free : f none = none)
    (image : ∀ r q r' q', some r ∈ t → some q ∈ t → rel r q → f (some r) = some r' → f (some q) = some q' → rel' r' q') :
    RouteTable.Mutual rel' (t.map f) := by
  have origin {k : Nat} {r' : Route} (held : (t.map f)[k]? = some (some r')) : ∃ r, t[k]? = some (some r) ∧ f (some r) = some r' := by
    rw [List.getElem?_map] at held
    obtain ⟨e, he, image⟩ := Option.map_eq_some_iff.mp held
    cases e with
    | none => simp [free] at image
    | some r => exact ⟨r, he, image⟩
  intro i j r' q' different hr hq
  obtain ⟨r, heldR, imageR⟩ := origin hr
  obtain ⟨q, heldQ, imageQ⟩ := origin hq
  exact image r q r' q' (List.mem_of_getElem? heldR) (List.mem_of_getElem? heldQ) (h i j r q different heldR heldQ) imageR imageQ

theorem filter_eq_some {p : Route → Bool} {r q : Route} (h : Option.filter p (some r) = some q) : q = r ∧ p r = true := by
  simp only [Option.filter_some, Option.ite_none_right_eq_some, Option.some.injEq] at h
  exact ⟨h.2.symm, h.1⟩

theorem RouteTable.mem_free {p : Route → Bool} {r : Route} (h : some r ∈ t.free p) : some r ∈ t ∧ p r = false := by
  obtain ⟨e, he, kept⟩ := List.mem_map.mp h
  cases e with
  | none => simp at kept
  | some q =>
    obtain ⟨rfl, test⟩ := filter_eq_some kept
    exact ⟨he, by simpa using test⟩

theorem keepsOwners_free {p : Route → Bool} (h : t.Owned) (fixed : ∀ r, some r ∈ t → r.owner = .fixed → p r = false) :
    KeepsOwners t (Option.filter fun r => !p r) where
  free := rfl
  fixed r hr owner := by simp [Option.filter, fixed r hr owner]
  image r q hr kept := by
    obtain ⟨rfl, -⟩ := filter_eq_some kept
    exact ⟨rfl, h.2.2.2.2 q hr⟩

theorem RouteTable.Mutual.free {rel : Route → Route → Prop} {p : Route → Bool} (h : t.Mutual rel) : (t.free p).Mutual rel :=
  h.map rfl fun r q r' q' _ _ related hr hq => by
    obtain ⟨rfl, -⟩ := filter_eq_some hr
    obtain ⟨rfl, -⟩ := filter_eq_some hq
    exact related

/-- Freeing routes none of which is FIXED keeps the rule. -/
theorem RouteTable.Sound.free {p : Route → Bool} (h : t.Sound) (fixed : ∀ r, some r ∈ t → r.owner = .fixed → p r = false) :
    (t.free p).Sound := ⟨h.1.map (keepsOwners_free h.1 fixed), h.2.free⟩

theorem RouteTable.Owned.fixed_live (h : t.Owned) {r : Route} (hr : some r ∈ t) (owner : r.owner = .fixed) : r.state = .live :=
  ((h.2.2.2.2 r hr).1 owner).1

theorem RouteTable.Owned.armed_change (h : t.Owned) {r : Route} (hr : some r ∈ t) (armed : r.state = .armed) :
    r.owner = .change := by
  obtain ⟨fixed, host, -⟩ := h.2.2.2.2 r hr
  cases owner : r.owner with
  | fixed => simp [armed, owner] at fixed
  | host => simp [armed, owner] at host
  | change => rfl

theorem RouteTable.Owned.armed_portA (h : t.Owned) {r : Route} (hr : some r ∈ t) (armed : r.state = .armed) : r.port = .a :=
  (h.2.2.2.2 r hr).2.2 (h.armed_change hr armed)

theorem RouteTable.Owned.present_change (h : t.Owned) {r : Route} (hr : some r ∈ t) (present : r.isPresent = true) :
    r.owner = .change := by
  obtain ⟨fixed, host, -⟩ := h.2.2.2.2 r hr
  cases owner : r.owner with
  | fixed => simp [present, owner] at fixed
  | host =>
    have pass := (host owner).2.2
    simp [Route.isPresent, pass] at present
  | change => rfl

theorem RouteTable.Sound.freeLive (h : t.Sound) : (t.free Route.liveChange).Sound :=
  h.free fun r _ owner => by simp [Route.liveChange, owner]

theorem RouteTable.Sound.freeArmed (h : t.Sound) : (t.free Route.isArmed).Sound :=
  h.free fun r hr owner => by simp [Route.isArmed, h.1.fixed_live hr owner]

/-! ### Routes with the same place in the table's rule -/

/-- Two routes between which the table's rule makes no difference. -/
def Route.Shaped (r q : Route) : Prop :=
  q.port = r.port ∧ q.stream = r.stream ∧ q.state = r.state ∧ q.owner = r.owner
    ∧ (q.use = r.use ∨ (q.isSections = true ∧ r.isSections = true))

theorem Route.Alike.shaped {r q : Route} (h : r.Alike q) : r.Shaped q := by
  obtain ⟨port, stream, use, state, owner, -⟩ := h
  exact ⟨port, stream, state, owner, .inl use⟩

theorem Route.Shaped.present {r q : Route} (h : r.Shaped q) : q.isPresent = r.isPresent := by
  obtain ⟨-, -, -, -, use | ⟨qSections, rSections⟩⟩ := h
  · simp [Route.isPresent, use]
  · simp only [Route.isSections] at qSections rSections
    simp only [Route.isPresent]
    split at qSections <;> split at rSections <;> simp_all
    rfl

theorem Route.Shaped.use_of_present {r q : Route} (h : r.Shaped q) (present : q.isPresent = true) : q.use = r.use := by
  obtain ⟨-, -, -, -, use | ⟨qSections, -⟩⟩ := h
  · exact use
  · simp only [Route.isSections] at qSections
    split at qSections <;> simp_all [Route.isPresent]

theorem Route.Shaped.ok {r q : Route} (h : r.Shaped q) (ok : r.Ok) : q.Ok := by
  have present := h.present
  obtain ⟨port, stream, state, owner, use⟩ := h
  obtain ⟨fixed, host, change⟩ := ok
  refine ⟨?_, ?_, ?_⟩ <;> rw [owner]
  · rw [state, port, present]
    exact fixed
  · intro isHost
    obtain ⟨live, serial, pass⟩ := host isHost
    refine ⟨state.trans live, port ▸ serial, ?_⟩
    rcases use with use | ⟨-, sections⟩
    · exact use.trans pass
    · simp [Route.isSections, pass] at sections
  · rw [port]
    exact change

theorem Route.Shaped.apart {r q r' q' : Route} (hr : r.Shaped r') (hq : q.Shaped q') (h : r.apart q) : r'.apart q' := by
  obtain ⟨place, lane⟩ := h
  refine ⟨fun ⟨port, stream, state⟩ => place ?_, fun ⟨present, use, state⟩ => lane ?_⟩
  · obtain ⟨portR, streamR, stateR, -⟩ := hr
    obtain ⟨portQ, streamQ, stateQ, -⟩ := hq
    exact ⟨portR.symm.trans (port.trans portQ), streamR.symm.trans (stream.trans streamQ), stateR.symm.trans (state.trans stateQ)⟩
  · have presentQ : q'.isPresent = true := by
      simp only [Route.isPresent, use] at present
      exact present
    have useR := hr.use_of_present present
    have useQ := hq.use_of_present presentQ
    obtain ⟨-, -, stateR, -⟩ := id hr
    obtain ⟨-, -, stateQ, -⟩ := id hq
    exact ⟨hr.present ▸ present, useR.symm.trans (use.trans useQ), stateR.symm.trans (state.trans stateQ)⟩

/-- From one table to the next every entry keeps its route's place in the rule. -/
def RouteTable.SameShape (t t' : RouteTable) : Prop :=
  t'.length = t.length ∧ ∀ (k : Nat) (q : Route), t'[k]? = some (some q) → ∃ r, t[k]? = some (some r) ∧ r.Shaped q

/-- An entry's route replaced by one of its shape. -/
theorem RouteTable.Sound.setAt_shaped {k : Nat} {r q : Route} (h : t.Sound) (held : t[k]? = some (some r)) (shaped : r.Shaped q) :
    RouteTable.Sound (setAt t k (some q)) := by
  obtain ⟨⟨length, fixed, change, host, ok⟩, pairs⟩ := h
  obtain ⟨inside, entry⟩ := List.getElem?_eq_some_iff.mp held
  have owned (o : Owner) : RouteTable.owned (setAt t k (some q)) o = t.owned o := by
    obtain ⟨-, -, -, owner, -⟩ := shaped
    have counted := List.countP_set (p := fun e : Option Route => e.any (·.owner == o)) (a := some q) inside
    simp only [entry, Option.any_some, owner] at counted
    rw [RouteTable.owned, RouteTable.owned, setAt, counted]
    by_cases mine : r.owner = o
    · have positive : 0 < List.countP (fun e : Option Route => e.any (·.owner == o)) t :=
        List.countP_pos_iff.mpr ⟨some r, List.mem_of_getElem? held, by simp [mine]⟩
      simp only [mine, beq_self_eq_true, if_true]
      omega
    · simp [mine]
  refine ⟨⟨by simpa [setAt] using length, (owned _).trans fixed, (owned _).trans_le change, (owned _).trans_le host, ?_⟩, ?_⟩
  · intro p hp
    rcases List.mem_or_eq_of_mem_set hp with old | new
    · exact ok p old
    · cases new
      exact shaped.ok (ok r (List.mem_of_getElem? held))
  · have shapedAt (i : Nat) (p' : Route) (hp : (setAt t k (some q))[i]? = some (some p')) :
        ∃ p, t[i]? = some (some p) ∧ p.Shaped p' := by
      by_cases same : k = i
      · subst same
        simp only [setAt, List.getElem?_set_self inside, Option.some.injEq] at hp
        exact ⟨r, held, hp ▸ shaped⟩
      · simp only [setAt, List.getElem?_set_ne same] at hp
        exact ⟨p', hp, (Route.Alike.refl p').shaped⟩
    intro i j p' x' different hp hx
    obtain ⟨p, heldP, shapedP⟩ := shapedAt i p' hp
    obtain ⟨x, heldX, shapedX⟩ := shapedAt j x' hx
    exact shapedP.apart shapedX (pairs i j p x different heldP heldX)

theorem RouteTable.Sound.mapRoutes {f : Route → Route} (h : t.Sound) (shaped : ∀ r : Route, r.Shaped (f r)) : (t.mapRoutes f).Sound := by
  refine ⟨h.1.map ⟨rfl, fun _ _ _ => nofun, fun r q hr image => ?_⟩, h.2.map rfl fun r q r' q' _ _ apart hr hq => ?_⟩
  · cases image
    exact ⟨(shaped r).2.2.2.1, (shaped r).ok (h.1.2.2.2.2 r hr)⟩
  · cases hr
    cases hq
    exact (shaped r).apart (shaped q) apart

theorem Route.resync_shaped (port : Port) (r : Route) :
    r.Shaped (if r.port = port then { r.abandon with expected := none } else r) := by
  split <;> exact ⟨rfl, rfl, rfl, rfl, .inl rfl⟩

theorem RouteTable.Sound.resync (h : t.Sound) (port : Port) : (t.resync port).Sound :=
  h.mapRoutes (Route.resync_shaped port)

theorem Route.addClasses_shaped {r : Route} (sections : r.isSections = true) (classes : List SectionClass) (binding : Binding) :
    r.Shaped (r.addClasses classes binding) := by
  rw [Route.addClasses]
  split
  · exact ⟨rfl, rfl, rfl, rfl, .inr ⟨rfl, sections⟩⟩
  · exact ⟨rfl, rfl, rfl, rfl, .inl rfl⟩

/-! ### A route in the lowest free entry -/

theorem RouteTable.mem_place {r q : Route} (h : t.place r = some t') (hq : some q ∈ t') : q = r ∨ some q ∈ t := by
  obtain ⟨k, lowest, rfl⟩ := Option.map_eq_some_iff.mp h
  rcases List.mem_or_eq_of_mem_set hq with old | new
  · exact .inr old
  · exact .inl (Option.some.inj new)

/-- A new route within its owner's quota, related to every route of the table. -/
theorem RouteTable.Owned.place {r : Route} (h : t.Owned) (placed : t.place r = some t') (ok : r.Ok)
    (quota : (r.owner = .change ∧ t.owned .change < 10) ∨ (r.owner = .host ∧ t.owned .host < 8)) : t'.Owned := by
  obtain ⟨length, fixed, change, host, oks⟩ := h
  have members (q : Route) (hq : some q ∈ t') : q.Ok := by
    rcases mem_place placed hq with rfl | old
    · exact ok
    · exact oks q old
  obtain ⟨k, lowest, rfl⟩ := Option.map_eq_some_iff.mp placed
  obtain ⟨inside, entry⟩ := List.getElem?_eq_some_iff.mp (lowestFree_eq_some lowest)
  have owned (o : Owner) : RouteTable.owned (setAt t k (some r)) o = t.owned o + if r.owner = o then 1 else 0 := by
    have counted := List.countP_set (p := fun e : Option Route => e.any (·.owner == o)) (a := some r) inside
    simpa [entry, RouteTable.owned, setAt] using counted
  refine ⟨by simpa [setAt] using length, ?_, ?_, ?_, members⟩ <;> rw [owned]
  · rcases quota with ⟨owner, -⟩ | ⟨owner, -⟩ <;> simpa [owner] using fixed
  · rcases quota with ⟨owner, room⟩ | ⟨owner, -⟩ <;> simp [owner]
    · omega
    · exact change
  · rcases quota with ⟨owner, -⟩ | ⟨owner, room⟩ <;> simp [owner]
    · exact host
    · omega

theorem RouteTable.Mutual.place {rel : Route → Route → Prop} {r : Route} (h : t.Mutual rel) (placed : t.place r = some t')
    (related : ∀ q, some q ∈ t → rel r q ∧ rel q r) : t'.Mutual rel := by
  obtain ⟨k, lowest, rfl⟩ := Option.map_eq_some_iff.mp placed
  obtain ⟨inside, -⟩ := List.getElem?_eq_some_iff.mp (lowestFree_eq_some lowest)
  intro i j p q different hp hq
  by_cases first : k = i
  · subst first
    simp only [setAt, List.getElem?_set_self inside, Option.some.injEq] at hp
    simp only [setAt, List.getElem?_set_ne different] at hq
    exact hp ▸ (related q (List.mem_of_getElem? hq)).1
  simp only [setAt, List.getElem?_set_ne first] at hp
  by_cases second : k = j
  · subst second
    simp only [setAt, List.getElem?_set_self inside, Option.some.injEq] at hq
    exact hq ▸ (related p (List.mem_of_getElem? hp)).2
  · simp only [setAt, List.getElem?_set_ne second] at hq
    exact h i j p q different hp hq

/-! ### ARMED routes (R15) -/

/-- An insertion of an ARMED route on a lane that no ARMED route feeds keeps the rule, and adds an ARMED route alone. -/
theorem RouteTable.Sound.insertArmed {stream : Nat} {use : RouteUse} {binding : Binding} (h : t.Sound)
    (inserted : t.insertArmed stream use binding = some t')
    (lane : ∀ r, some r ∈ t → r.state = .armed → r.isPresent = true → r.use ≠ use) :
    t'.Sound ∧ (∀ q, some q ∈ t' → some q ∈ t
      ∨ (q.state = .armed ∧ ((∃ r, some r ∈ t ∧ r.Shaped q ∧ q.isPresent = false) ∨ q.use = use))) := by
  unfold RouteTable.insertArmed at inserted
  split at inserted
  · rename_i k classes found
    obtain ⟨r, held, armed⟩ := find_eq_some found
    obtain ⟨⟨-, -⟩, state⟩ : (r.port = .a ∧ r.stream = stream) ∧ r.state = .armed := by simpa [Route.isAt] using armed
    have route : t.route k = some r := route_eq_some.mpr held
    split at inserted
    · rename_i joins
      have sections : r.isSections = true := by
        simp only [route, Option.any_some, Bool.and_eq_true] at joins
        exact joins.1
      cases inserted
      have shaped := Route.addClasses_shaped sections classes binding
      simp only [route, Option.map_some]
      refine ⟨h.setAt_shaped held shaped, fun q hq => ?_⟩
      rcases List.mem_or_eq_of_mem_set hq with old | new
      · exact .inl old
      · cases new
        refine .inr ⟨shaped.2.2.1.trans state, .inl ⟨r, List.mem_of_getElem? held, shaped, ?_⟩⟩
        rw [shaped.present]
        simp only [Route.isSections] at sections
        simp only [Route.isPresent]
        split at sections <;> simp_all
    · cases inserted
  · cases inserted
  · rename_i use _ _ absent
    split at inserted
    · cases inserted
    rename_i room
    have apart (q : Route) (hq : some q ∈ t) : (Route.fresh .a stream use .armed .change binding).apart q := by
      have elsewhere := find_eq_none.mp absent q hq
      refine ⟨fun ⟨port, here, state⟩ => ?_, fun ⟨present, sameUse, state⟩ => ?_⟩
      · simp only [Route.fresh] at port here state
        simp [Route.isAt, ← port, ← here, ← state] at elsewhere
      · simp only [Route.fresh] at sameUse state
        refine lane q hq state.symm ?_ sameUse.symm
        simpa [Route.isPresent, Route.fresh, sameUse] using present
    have ok : (Route.fresh .a stream use .armed .change binding).Ok := ⟨nofun, nofun, fun _ => rfl⟩
    refine ⟨⟨h.1.place inserted ok (.inl ⟨rfl, not_le.mp room⟩),
      h.2.place inserted fun q hq => ⟨apart q hq, Route.apart_comm (apart q hq)⟩⟩, fun q hq => ?_⟩
    rcases mem_place inserted hq with rfl | old
    · exact .inr ⟨rfl, .inr rfl⟩
    · exact .inl old

end

end Sys2Proof.Machine
end

section
/-! The route table's rule under the engine's changes: arming, the conversion, and a live update (R15, R87, R90, R95, R96). -/

namespace Sys2Proof.Machine

section
variable {t t' : RouteTable}

theorem RouteTable.Mutual.of_mem {rel : Route → Route → Prop} (h : t.Mutual rel) {r q : Route} (hr : some r ∈ t) (hq : some q ∈ t)
    (different : r ≠ q) : rel r q := by
  obtain ⟨i, hi⟩ := List.mem_iff_getElem?.mp hr
  obtain ⟨j, hj⟩ := List.mem_iff_getElem?.mp hq
  refine h i j r q (fun same => different ?_) hi hj
  subst same
  simpa using hi.symm.trans hj

theorem Route.isPresent_iff {r : Route} : r.isPresent = true ↔ r.use ∈ presentUses := by
  simp [Route.isPresent, presentUses, or_assoc]

/-! ### Arming (R87, R95) -/

/-- The ARMED present routes feed lanes of these uses alone. -/
def RouteTable.ArmedWithin (uses : List RouteUse) (t : RouteTable) : Prop :=
  ∀ r, some r ∈ t → r.state = .armed → r.isPresent = true → r.use ∈ uses

/-- The routes of a table are those of another, or ARMED. -/
def RouteTable.GainsArmed (t t' : RouteTable) : Prop := ∀ q, some q ∈ t' → some q ∈ t ∨ q.state = .armed

theorem RouteTable.GainsArmed.refl (t : RouteTable) : t.GainsArmed t := fun _ => .inl

theorem RouteTable.GainsArmed.trans {t'' : RouteTable} (h : t.GainsArmed t') (h' : t'.GainsArmed t'') : t.GainsArmed t'' :=
  fun q hq => (h' q hq).elim (h q) .inr

theorem RouteTable.Sound.insertChosen {uses : List RouteUse} {use : RouteUse} {binding : Binding} {stream : Option Nat}
    (h : t.Sound) (lanes : t.ArmedWithin uses) (new : use ∉ uses) (inserted : insertChosen use binding stream t = some t') :
    t'.Sound ∧ t'.ArmedWithin (use :: uses) ∧ t.GainsArmed t' := by
  cases stream with
  | none =>
    cases inserted
    exact ⟨h, fun r hr armed present => List.mem_cons_of_mem _ (lanes r hr armed present), .refl t⟩
  | some n =>
    obtain ⟨sound, members⟩ := h.insertArmed inserted fun r hr armed present same => new (same ▸ lanes r hr armed present)
    refine ⟨sound, fun q hq armed present => ?_, fun q hq => (members q hq).imp_right And.left⟩
    rcases members q hq with old | ⟨-, ⟨-, -, -, absent⟩ | same⟩
    · exact List.mem_cons_of_mem _ (lanes q old armed present)
    · simp [absent] at present
    · exact same ▸ List.mem_cons_self

/-- Arming with no ARMED present route before it keeps the rule. -/
theorem RouteTable.Sound.armedTable {m : ProgMap} {streams : LaneStreams} (h : t.Sound) (lanes : t.ArmedWithin [])
    (armed : armedTable m streams t = some t') : t'.Sound ∧ t.GainsArmed t' := by
  simp only [Machine.armedTable, Option.bind_eq_some_iff] at armed
  obtain ⟨t1, video, t2, audio, t3, data, key⟩ := armed
  obtain ⟨sound1, lanes1, gains1⟩ := h.insertChosen lanes (by simp) video
  obtain ⟨sound2, lanes2, gains2⟩ := sound1.insertChosen lanes1 (by simp) audio
  obtain ⟨sound3, lanes3, gains3⟩ := sound2.insertChosen lanes2 (by simp) data
  obtain ⟨sound4, -, gains4⟩ := sound3.insertChosen lanes3 (by simp) key
  exact ⟨sound4, ((gains1.trans gains2).trans gains3).trans gains4⟩

theorem RouteTable.Sound.rearmAudio {m : ProgMap} {audio : Option Lang} (h : t.Sound) (moved : rearmAudio m audio t = some t') :
    t'.Sound ∧ t.GainsArmed t' := by
  rw [Machine.rearmAudio] at moved
  split at moved
  · split at moved
    · cases moved
      exact ⟨h, .refl _⟩
    split at moved
    · cases moved
    · have freed : (t.free fun x => x.isArmed && x.use == .audio).Sound :=
        h.free fun r hr owner => by simp [Route.isArmed, h.1.fixed_live hr owner]
      obtain ⟨sound, members⟩ := freed.insertArmed moved fun r hr armed _ => by
        simpa [Route.isArmed, armed] using (mem_free hr).2
      exact ⟨sound, fun q hq => (members q hq).imp (fun old => (mem_free old).1) And.left⟩
  · cases moved
    exact ⟨h, .refl _⟩

/-! ### Displaced host routes (R15) -/

/-- Two routes that may stand in one table until the displaced host routes have been freed. -/
def Route.nearlyApart (r q : Route) : Prop :=
  r.apart q ∨ (r.owner = .host ∧ q.liveChange = true) ∨ (q.owner = .host ∧ r.liveChange = true)

theorem Route.nearlyApart_comm {r q : Route} (h : r.nearlyApart q) : q.nearlyApart r :=
  h.imp Route.apart_comm Or.symm

/-- The table's rule, until the displaced host routes have been freed. -/
def RouteTable.NearlySound (t : RouteTable) : Prop := t.Owned ∧ t.Mutual Route.nearlyApart

theorem RouteTable.Sound.nearly (h : t.Sound) : t.NearlySound :=
  ⟨h.1, fun i j r q different hr hq => .inl (h.2 i j r q different hr hq)⟩

theorem RouteTable.mem_displaced {r : Route} : r ∈ t.displaced ↔ (some r ∈ t ∧ r.owner = .host)
    ∧ ∃ q, some q ∈ t ∧ q.liveChange = true ∧ q.port = r.port ∧ q.stream = r.stream := by
  have members {r : Route} : r ∈ t.filterMap id ↔ some r ∈ t := by simp
  simp only [RouteTable.displaced, List.mem_filter, List.any_eq_true, members, Bool.and_eq_true, beq_iff_eq]
  constructor
  · rintro ⟨held, host, q, ⟨hq, live⟩, port, stream⟩
    exact ⟨⟨held, host⟩, q, hq, live, port, stream⟩
  · rintro ⟨⟨held, host⟩, q, hq, live, port, stream⟩
    exact ⟨held, host, q, ⟨hq, live⟩, port, stream⟩

/-- A host route that the table holds beside a LIVE route of the engine, and that is not displaced, stands apart from it. -/
theorem RouteTable.Owned.host_apart {r q : Route} (h : t.Owned) (hr : some r ∈ t) (hq : some q ∈ t) (host : r.owner = .host)
    (live : q.liveChange = true) (kept : r ∉ t.displaced) : r.apart q := by
  refine ⟨fun ⟨port, stream, _⟩ => kept (mem_displaced.mpr ⟨⟨hr, host⟩, q, hq, live, port.symm, stream.symm⟩), fun ⟨present, _, _⟩ => ?_⟩
  have change := h.present_change hr present
  simp [host] at change

theorem RouteTable.NearlySound.displace (h : t.NearlySound) : (t.free fun r => t.displaced.contains r).Sound := by
  refine ⟨h.1.map (keepsOwners_free h.1 fun r _ owner => ?_), ?_⟩
  · rw [List.contains_eq_mem, decide_eq_false_iff_not, mem_displaced]
    rintro ⟨⟨-, host⟩, -⟩
    simp [owner] at host
  · have held (k : Nat) (r : Route) (entry : (t.free fun r => t.displaced.contains r)[k]? = some (some r)) :
        t[k]? = some (some r) ∧ r ∉ t.displaced := by
      rw [RouteTable.free, List.getElem?_map] at entry
      obtain ⟨e, he, kept⟩ := Option.map_eq_some_iff.mp entry
      cases e with
      | none => simp at kept
      | some q =>
        obtain ⟨rfl, test⟩ := filter_eq_some kept
        exact ⟨he, by simpa using test⟩
    intro i j r q different hr hq
    obtain ⟨heldR, keptR⟩ := held i r hr
    obtain ⟨heldQ, keptQ⟩ := held j q hq
    have memR := List.mem_of_getElem? heldR
    have memQ := List.mem_of_getElem? heldQ
    rcases h.2 i j r q different heldR heldQ with apart | ⟨host, live⟩ | ⟨host, live⟩
    · exact apart
    · exact h.1.host_apart memR memQ host live keptR
    · exact Route.apart_comm (h.1.host_apart memQ memR host live keptQ)

theorem RouteTable.NearlySound.of_none_displaced (h : t.NearlySound) (none : t.displaced = []) : t.Sound := by
  have same : (t.free fun r => t.displaced.contains r) = t := by
    refine (List.map_congr_left fun e _ => ?_).trans (List.map_id t)
    cases e <;> simp [none, Option.filter]
  exact same ▸ h.displace

/-! ### The conversion (R15) -/

theorem Route.convert_owner (r : Route) : r.convert.owner = r.owner := by
  rw [Route.convert]
  split <;> rfl

theorem Route.convert_live (r : Route) : r.convert.state = .live := by
  rw [Route.convert]
  split
  · rfl
  · cases state : r.state with
    | live => rfl
    | armed => contradiction

theorem Route.convert_of_live {r : Route} (live : r.state = .live) : r.convert = r := by simp [Route.convert, live]

theorem Route.convert_place (r : Route) : r.convert.port = r.port ∧ r.convert.stream = r.stream ∧ r.convert.use = r.use := by
  rw [Route.convert]
  split <;> exact ⟨rfl, rfl, rfl⟩

theorem RouteTable.mem_convert {q : Route} (h : some q ∈ t.convert) : ∃ r, some r ∈ t ∧ r.liveChange = false ∧ q = r.convert := by
  obtain ⟨e, he, image⟩ := List.mem_map.mp h
  cases e with
  | none => simp at image
  | some r =>
    obtain ⟨held, stays⟩ := mem_free he
    exact ⟨r, held, stays, (Option.some.inj image).symm⟩

/-- A converted route stands beside what stays LIVE, but for a host route on its stream. -/
theorem RouteTable.Owned.convert_nearlyApart {r q : Route} (h : t.Owned) (hr : some r ∈ t) (hq : some q ∈ t)
    (armed : r.state = .armed) (live : q.state = .live) (stays : q.liveChange = false) : r.convert.nearlyApart q := by
  obtain ⟨port, stream, use⟩ := r.convert_place
  have change := h.armed_change hr armed
  obtain ⟨fixed, -, -⟩ := h.2.2.2.2 q hq
  cases owner : q.owner with
  | change => simp [Route.liveChange, live, owner] at stays
  | host => exact .inr (.inr ⟨owner, by simp [Route.liveChange, r.convert_live, r.convert_owner, change]⟩)
  | fixed =>
    obtain ⟨-, serial, absent⟩ := fixed owner
    refine .inl ⟨fun ⟨same, _, _⟩ => serial ?_, fun ⟨present, same, _⟩ => ?_⟩
    · rw [← same, port, h.armed_portA hr armed]
    · have : q.isPresent = true := Route.isPresent_iff.mpr (same ▸ Route.isPresent_iff.mp present)
      simp [absent] at this

theorem RouteTable.Sound.convert (h : t.Sound) : t.convert.NearlySound := by
  have freed := h.freeLive
  have member {r : Route} (hr : some r ∈ t.free Route.liveChange) : some r ∈ t ∧ r.liveChange = false := mem_free hr
  refine ⟨freed.1.map ⟨rfl, fun _ _ _ => nofun, fun r q hr image => ?_⟩, freed.2.map rfl fun r q r' q' hr hq apart imageR imageQ => ?_⟩
  · cases image
    have ok := freed.1.2.2.2.2 r hr
    cases state : r.state with
    | live =>
      rw [Route.convert_of_live state]
      exact ⟨rfl, ok⟩
    | armed =>
      have change := freed.1.armed_change hr state
      refine ⟨r.convert_owner, ?_, ?_, ?_⟩ <;> rw [r.convert_owner, change]
      · nofun
      · nofun
      · rw [r.convert_place.1]
        exact fun _ => ok.2.2 change
  · cases imageR
    cases imageQ
    obtain ⟨memR, staysR⟩ := member hr
    obtain ⟨memQ, staysQ⟩ := member hq
    cases stateR : r.state with
    | live =>
      rw [Route.convert_of_live stateR]
      cases stateQ : q.state with
      | live =>
        rw [Route.convert_of_live stateQ]
        exact .inl apart
      | armed => exact Route.nearlyApart_comm (h.1.convert_nearlyApart memQ memR stateQ stateR staysR)
    | armed =>
      cases stateQ : q.state with
      | live =>
        rw [Route.convert_of_live stateQ]
        exact h.1.convert_nearlyApart memR memQ stateR stateQ staysQ
      | armed =>
        obtain ⟨portR, streamR, useR⟩ := r.convert_place
        obtain ⟨portQ, streamQ, useQ⟩ := q.convert_place
        refine .inl ⟨fun ⟨port, stream, _⟩ => apart.1 ?_, fun ⟨present, use, _⟩ => apart.2 ?_⟩
        · exact ⟨portR ▸ portQ ▸ port, streamR ▸ streamQ ▸ stream, stateR.trans stateQ.symm⟩
        · refine ⟨?_, useR ▸ useQ ▸ use, stateR.trans stateQ.symm⟩
          simpa only [Route.isPresent, useR] using present

/-! ### A live update (R96) -/

theorem eq_of_filterMap_nodup {α β : Type} {g : α → Option β} {l : List α} {u v : α} {n : β} (nodup : (l.filterMap g).Nodup)
    (hu : u ∈ l) (hv : v ∈ l) (imageU : g u = some n) (imageV : g v = some n) : u = v := by
  induction l with
  | nil => simp at hu
  | cons x xs ih =>
    have once {y z : α} (hy : y = x) (hz : z ∈ xs) (imageY : g y = some n) (imageZ : g z = some n) : False := by
      subst hy
      rw [List.filterMap_cons_some imageY, List.nodup_cons] at nodup
      exact nodup.1 (List.mem_filterMap.mpr ⟨z, hz, imageZ⟩)
    rcases List.mem_cons.mp hu with first | later <;> rcases List.mem_cons.mp hv with first' | later'
    · exact first.trans first'.symm
    · exact (once first later' imageU imageV).elim
    · exact (once first' later imageV imageU).elim
    · refine ih (nodup.sublist ?_) later later'
      exact (List.sublist_cons_self x xs).filterMap g

theorem newStreams_unique {before after : LaneStreams} (nodup : (newStreams before after).Nodup) {u v : RouteUse} {n : Nat}
    (hu : u ∈ presentUses) (hv : v ∈ presentUses) (changedU : before.of u ≠ after.of u) (changedV : before.of v ≠ after.of v)
    (streamU : after.of u = some n) (streamV : after.of v = some n) : u = v :=
  eq_of_filterMap_nodup nodup hu hv ((if_neg changedU).trans streamU) ((if_neg changedV).trans streamV)

theorem mem_newStreams {before after : LaneStreams} {u : RouteUse} {n : Nat} (hu : u ∈ presentUses)
    (changed : before.of u ≠ after.of u) (stream : after.of u = some n) : n ∈ newStreams before after :=
  List.mem_filterMap.mpr ⟨u, hu, (if_neg changed).trans stream⟩

/-- Lanes whose new streams may be taken: no two alike, and none held by a LIVE route of the engine that stays (R96). -/
structure LanesClear (before after : LaneStreams) (t : RouteTable) : Prop where
  nodup : (newStreams before after).Nodup
  stays : ∀ r, some r ∈ t → r.liveChange = true → r.changesLane before after = false → r.stream ∉ newStreams before after

theorem lanesClear_of_laneClash {before after : LaneStreams} (h : t.Owned) (clear : laneClash t before after = false) :
    LanesClear before after t := by
  simp only [laneClash, Bool.or_eq_false_iff, Bool.not_eq_false', decide_eq_true_eq, Option.isSome_eq_false_iff,
    Option.isNone_iff_eq_none, RouteTable.find_eq_none] at clear
  obtain ⟨nodup, held⟩ := clear
  refine ⟨nodup, fun r hr live stays listed => ?_⟩
  have portA : r.port = .a := (h.2.2.2.2 r hr).2.2 (by simpa [Route.liveChange] using (Bool.and_eq_true_iff.mp live).2)
  simpa [live, portA, stays, listed] using held r hr

/-- The route that a rebinding leaves of one. -/
def rebound (before after : LaneStreams) (r : Route) : Option Route :=
  if r.liveChange && r.changesLane before after then (after.of r.use).map fun n => r.rebind n else some r

theorem rebindLanes_eq (before after : LaneStreams) (t : RouteTable) :
    rebindLanes before after t = t.map fun e => e.bind (rebound before after) := rfl

theorem changesLane_iff {before after : LaneStreams} {r : Route} :
    r.changesLane before after = true ↔ r.use ∈ presentUses ∧ before.of r.use ≠ after.of r.use := by
  simp [Route.changesLane]

/-- A rebinding leaves a route as it is, or moves a LIVE route of the engine to the stream newly chosen for its lane. -/
theorem rebound_cases {before after : LaneStreams} {r q : Route} (h : rebound before after r = some q) :
    (q = r ∧ (r.liveChange = true → r.changesLane before after = false))
      ∨ (r.liveChange = true ∧ (r.use ∈ presentUses ∧ before.of r.use ≠ after.of r.use)
        ∧ ∃ n, after.of r.use = some n ∧ q = r.rebind n) := by
  rw [rebound] at h
  split at h
  · rename_i changes
    obtain ⟨live, changed⟩ := Bool.and_eq_true_iff.mp changes
    obtain ⟨n, stream, rfl⟩ := Option.map_eq_some_iff.mp h
    exact .inr ⟨live, changesLane_iff.mp changed, n, stream, rfl⟩
  · rename_i same
    cases h
    exact .inl ⟨rfl, fun live => by simpa [live] using same⟩

theorem liveChange_iff {r : Route} : r.liveChange = true ↔ r.state = .live ∧ r.owner = .change := by
  simp [Route.liveChange]

/-- A route moved to a newly chosen stream stands beside one that stays, but for a host route on that stream. -/
theorem rebind_nearlyApart {before after : LaneStreams} {r q : Route} {n : Nat} (h : t.Owned) (clear : LanesClear before after t)
    (hr : some r ∈ t) (hq : some q ∈ t) (apart : r.apart q) (live : r.liveChange = true) (lane : r.use ∈ presentUses)
    (changed : before.of r.use ≠ after.of r.use) (stream : after.of r.use = some n)
    (stays : q.liveChange = true → q.changesLane before after = false) : (r.rebind n).nearlyApart q := by
  obtain ⟨state, owner⟩ := liveChange_iff.mp live
  have portA : r.port = .a := (h.2.2.2.2 r hr).2.2 owner
  have keepsLane : ¬((r.rebind n).isPresent = true ∧ (r.rebind n).use = q.use ∧ (r.rebind n).state = q.state) := apart.2
  obtain ⟨fixed, -, -⟩ := h.2.2.2.2 q hq
  cases ownerQ : q.owner with
  | host => exact .inr (.inr ⟨ownerQ, live⟩)
  | fixed => exact .inl ⟨fun ⟨port, _, _⟩ => (fixed ownerQ).2.1 (port.symm.trans portA), keepsLane⟩
  | change =>
    refine .inl ⟨fun ⟨_, same, stateQ⟩ => ?_, keepsLane⟩
    have liveQ : q.liveChange = true := liveChange_iff.mpr ⟨stateQ.symm.trans state, ownerQ⟩
    have held : q.stream = n := same.symm
    exact clear.stays q hq liveQ (stays liveQ) (held ▸ mem_newStreams lane changed stream)

theorem RouteTable.Sound.rebindLanes {before after : LaneStreams} (h : t.Sound) (clear : LanesClear before after t) :
    (rebindLanes before after t).NearlySound := by
  rw [rebindLanes_eq]
  refine ⟨h.1.map ⟨rfl, fun r hr owner => ?_, fun r q hr image => ?_⟩, h.2.map rfl fun r q r' q' hr hq apart imageR imageQ => ?_⟩
  · simp [rebound, Route.liveChange, owner]
  · have ok := h.1.2.2.2.2 r hr
    rcases rebound_cases image with ⟨rfl, -⟩ | ⟨-, -, n, -, rfl⟩
    · exact ⟨rfl, ok⟩
    · exact ⟨rfl, ok⟩
  · rcases rebound_cases imageR with ⟨rfl, staysR⟩ | ⟨liveR, ⟨laneR, changedR⟩, n, streamR, rfl⟩ <;>
      rcases rebound_cases imageQ with ⟨rfl, staysQ⟩ | ⟨liveQ, ⟨laneQ, changedQ⟩, m, streamQ, rfl⟩
    · exact .inl apart
    · exact Route.nearlyApart_comm
        (rebind_nearlyApart h.1 clear hq hr (Route.apart_comm apart) liveQ laneQ changedQ streamQ staysR)
    · exact rebind_nearlyApart h.1 clear hr hq apart liveR laneR changedR streamR staysQ
    · have different : r.use ≠ q.use := fun use => apart.2 ⟨Route.isPresent_iff.mpr laneR, use,
        (liveChange_iff.mp liveR).1.trans (liveChange_iff.mp liveQ).1.symm⟩
      refine .inl ⟨fun ⟨_, same, _⟩ => different ?_, fun ⟨_, use, _⟩ => different use⟩
      have equal : n = m := same
      exact newStreams_unique clear.nodup laneR laneQ changedR changedQ streamR (equal ▸ streamQ)

/-- The LIVE routes of the engine while a live update inserts its routes, with the lanes done so far: each present one carries what
is chosen for its lane, which had a stream before or is done, and one on a newly chosen stream feeds a lane that changes. -/
def RouteTable.Laned (before after : LaneStreams) (done : List RouteUse) (t : RouteTable) : Prop :=
  ∀ q, some q ∈ t → q.liveChange = true →
    (q.isPresent = true → after.of q.use = some q.stream ∧ (before.of q.use ≠ none ∨ q.use ∈ done))
      ∧ (q.stream ∈ newStreams before after → q.isPresent = true ∧ before.of q.use ≠ after.of q.use)

theorem laned_rebindLanes {before after : LaneStreams} (clear : LanesClear before after t)
    (presents : ∀ r, some r ∈ t → r.state = .live → r.isPresent = true → before.of r.use = some r.stream) :
    RouteTable.Laned before after [] (Machine.rebindLanes before after t) := by
  intro q hq liveQ
  obtain ⟨e, he, image⟩ := List.mem_map.mp hq
  obtain ⟨r, rfl, image⟩ := Option.bind_eq_some_iff.mp image
  rcases rebound_cases image with ⟨rfl, stays⟩ | ⟨live, ⟨lane, changed⟩, n, stream, rfl⟩
  · have unchanged := stays liveQ
    refine ⟨fun present => ?_, fun listed => absurd listed (clear.stays q he liveQ unchanged)⟩
    have held := presents q he (liveChange_iff.mp liveQ).1 present
    have same : before.of q.use = after.of q.use := by
      by_contra changed
      simp [changesLane_iff.mpr ⟨Route.isPresent_iff.mp present, changed⟩] at unchanged
    exact ⟨same ▸ held, .inl (by simp [held])⟩
  · have present : r.isPresent = true := Route.isPresent_iff.mpr lane
    have held := presents r he (liveChange_iff.mp live).1 present
    exact ⟨fun _ => ⟨stream, .inl (by simp [Route.rebind, held])⟩, fun _ => ⟨present, changed⟩⟩

/-- A LIVE route inserted for a lane that had none keeps the rule but for the host routes to be displaced. -/
theorem RouteTable.NearlySound.insertLive {before after : LaneStreams} {done : List RouteUse} {u : RouteUse} {n : Nat}
    (binding : Binding) (h : t.NearlySound) (laned : t.Laned before after done) (nodup : (newStreams before after).Nodup)
    (lane : u ∈ presentUses) (new : u ∉ done) (empty : before.of u = none) (stream : after.of u = some n) :
    (t.insertLive n u binding).NearlySound ∧ (t.insertLive n u binding).Laned before after (u :: done) := by
  have weaker : t.Laned before after (u :: done) := fun q hq live =>
    ⟨fun present => ((laned q hq live).1 present).imp_right (Or.imp_right (List.mem_cons_of_mem _)), (laned q hq live).2⟩
  rw [RouteTable.insertLive]
  split
  · exact ⟨h, weaker⟩
  rename_i room
  rcases placed : t.place (.fresh .a n u .live .change binding) with _ | t'
  · exact ⟨h, weaker⟩
  have changed : before.of u ≠ after.of u := by simp [empty, stream]
  have listed : n ∈ newStreams before after := mem_newStreams lane changed stream
  have unlike {q : Route} (hq : some q ∈ t) (live : q.liveChange = true) (present : q.isPresent = true) : q.use ≠ u := by
    rintro rfl
    exact ((laned q hq live).1 present).2.elim (fun held => held empty) new
  have apart (q : Route) (hq : some q ∈ t) : (Route.fresh .a n u .live .change binding).nearlyApart q := by
    have lanes : ¬((Route.fresh .a n u .live .change binding).isPresent = true ∧ u = q.use ∧ RouteState.live = q.state) := by
      rintro ⟨-, use, state⟩
      have present : q.isPresent = true := Route.isPresent_iff.mpr (use ▸ lane)
      exact unlike hq (liveChange_iff.mpr ⟨state.symm, h.1.present_change hq present⟩) present use.symm
    obtain ⟨fixed, -, -⟩ := h.1.2.2.2.2 q hq
    cases owner : q.owner with
    | host => exact .inr (.inr ⟨owner, rfl⟩)
    | fixed => exact .inl ⟨fun ⟨port, _, _⟩ => (fixed owner).2.1 port.symm, lanes⟩
    | change =>
      refine .inl ⟨fun ⟨_, same, state⟩ => ?_, lanes⟩
      have live : q.liveChange = true := liveChange_iff.mpr ⟨state.symm, owner⟩
      have held : q.stream = n := same.symm
      obtain ⟨present, changedQ⟩ := (laned q hq live).2 (held ▸ listed)
      exact unlike hq live present (newStreams_unique nodup (Route.isPresent_iff.mp present) lane changedQ changed
        (held ▸ ((laned q hq live).1 present).1) stream)
  have ok : (Route.fresh .a n u .live .change binding).Ok := ⟨nofun, nofun, fun _ => rfl⟩
  refine ⟨⟨h.1.place placed ok (.inl ⟨rfl, not_le.mp room⟩), h.2.place placed fun q hq => ⟨apart q hq, Route.nearlyApart_comm (apart q hq)⟩⟩,
    fun q hq live => ?_⟩
  rcases mem_place placed hq with rfl | old
  · exact ⟨fun _ => ⟨stream, .inr List.mem_cons_self⟩, fun _ => ⟨Route.isPresent_iff.mpr lane, changed⟩⟩
  · exact weaker q old live

theorem RouteTable.NearlySound.insertLanes {before after : LaneStreams} (keyed : Bool) (h : t.NearlySound)
    (laned : t.Laned before after []) (nodup : (newStreams before after).Nodup) :
    (insertLanes keyed before after t).NearlySound
      ∧ ∀ q, some q ∈ Machine.insertLanes keyed before after t → q.liveChange = true → q.isPresent = true →
          after.of q.use = some q.stream := by
  have step {t : RouteTable} {done : List RouteUse} {u : RouteUse} (h : t.NearlySound) (laned : t.Laned before after done)
      (lane : u ∈ presentUses) (new : u ∉ done) :
      (match before.of u, after.of u with
        | none, some n => t.insertLive n u (if keyed then .active else .none)
        | _, _ => t).NearlySound
      ∧ (match before.of u, after.of u with
        | none, some n => t.insertLive n u (if keyed then .active else .none)
        | _, _ => t).Laned before after (u :: done) := by
    split
    · exact h.insertLive _ laned nodup lane new ‹_› ‹_›
    · exact ⟨h, fun q hq live => ⟨fun present => ((laned q hq live).1 present).imp_right (Or.imp_right (List.mem_cons_of_mem _)),
        (laned q hq live).2⟩⟩
  obtain ⟨h1, laned1⟩ := step (u := .video) h laned (by simp [presentUses]) (by simp)
  obtain ⟨h2, laned2⟩ := step (u := .audio) h1 laned1 (by simp [presentUses]) (by simp)
  obtain ⟨h3, laned3⟩ := step (u := .data) h2 laned2 (by simp [presentUses]) (by simp)
  exact ⟨h3, fun q hq live present => ((laned3 q hq live).1 present).1⟩

theorem RouteTable.mem_insertLanes {keyed : Bool} {before after : LaneStreams} {q : Route}
    (h : some q ∈ Machine.insertLanes keyed before after t) : some q ∈ t ∨ q.state = .live := by
  have inserted {t : RouteTable} {n : Nat} {u : RouteUse} {binding : Binding} (h : some q ∈ t.insertLive n u binding) :
      some q ∈ t ∨ q.state = .live := by
    rw [RouteTable.insertLive] at h
    split at h
    · exact .inl h
    · rcases placed : t.place (.fresh .a n u .live .change binding) with _ | t' <;> rw [placed] at h
      · exact .inl h
      · exact (mem_place placed h).symm.imp_right fun new => by simp [new, Route.fresh]
  refine List.foldlRecOn (motive := fun t' : RouteTable => some q ∈ t' → some q ∈ t ∨ q.state = .live) _ _ .inl
    (fun t' ih u _ h => ?_) h
  split at h
  · exact (inserted h).elim ih .inr
  · exact ih h

theorem RouteTable.mem_rebindLanes {before after : LaneStreams} {q : Route} (h : some q ∈ Machine.rebindLanes before after t) :
    ∃ r, some r ∈ t ∧ rebound before after r = some q := by
  obtain ⟨e, he, image⟩ := List.mem_map.mp h
  obtain ⟨r, rfl, image⟩ := Option.bind_eq_some_iff.mp image
  exact ⟨r, he, image⟩

/-- An ARMED route after a rebinding is one of before. -/
theorem RouteTable.armed_of_rebindLanes {before after : LaneStreams} {q : Route} (h : some q ∈ Machine.rebindLanes before after t)
    (armed : q.state = .armed) : some q ∈ t := by
  obtain ⟨r, held, image⟩ := mem_rebindLanes h
  rcases rebound_cases image with ⟨rfl, -⟩ | ⟨liveR, -, m, -, rfl⟩
  · exact held
  · have state : r.state = .armed := armed
    simp [liveChange_iff, state] at liveR

/-! ### The AUDIO route moved (R95) -/

theorem RouteTable.Sound.moveAudio {p : Presentation} {audio : Option Lang} {live : LaneStreams} (h : t.Sound)
    (presents : ∀ r, some r ∈ t → r.state = .live → r.isPresent = true → p.live.of r.use = some r.stream)
    (moved : moveAudio p audio t = some (t', live)) :
    t'.Sound ∧ (∀ r, some r ∈ t' → r.state = .live → r.isPresent = true → live.of r.use = some r.stream)
      ∧ ∀ r, some r ∈ t' → r.state = .armed → some r ∈ t := by
  simp only [Machine.moveAudio] at moved
  split at moved
  · rename_i n n' held chosen
    split at moved
    · cases moved
      exact ⟨h, presents, fun _ hr _ => hr⟩
    rename_i different
    split at moved
    · cases moved
    rename_i taken
    cases moved
    have free : t.find (Route.isAt .a n' .live) = none := by simpa using taken
    have streams : newStreams p.live { p.live with audio := p.map.audioFor audio } = [n'] := by
      simp [newStreams, presentUses, LaneStreams.of, held, chosen, different]
    have offStream {r : Route} (hr : some r ∈ t) (live : r.state = .live) (port : r.port = .a) : r.stream ≠ n' := by
      have := find_eq_none.mp free r hr
      simpa [Route.isAt, port, live] using this
    have clear : LanesClear p.live { p.live with audio := p.map.audioFor audio } t := by
      refine ⟨by simp [streams], fun r hr live _ => ?_⟩
      obtain ⟨state, owner⟩ := liveChange_iff.mp live
      simpa [streams] using offStream hr state ((h.1.2.2.2.2 r hr).2.2 owner)
    have sound := h.rebindLanes clear
    refine ⟨sound.of_none_displaced ?_, fun q hq live present => ?_, fun q hq armed => armed_of_rebindLanes hq armed⟩
    · refine List.eq_nil_iff_forall_not_mem.mpr fun r hr => ?_
      obtain ⟨⟨hr, host⟩, q, hq, live, port, stream⟩ := mem_displaced.mp hr
      obtain ⟨r0, heldR, imageR⟩ := mem_rebindLanes hr
      obtain ⟨q0, heldQ, imageQ⟩ := mem_rebindLanes hq
      rcases rebound_cases imageR with ⟨rfl, -⟩ | ⟨liveR, -, m, -, rfl⟩
      · have hostLive := ((h.1.2.2.2.2 r heldR).2.1 host).1
        rcases rebound_cases imageQ with ⟨rfl, -⟩ | ⟨liveQ, ⟨lane, changed⟩, m, chosenQ, rfl⟩
        · have apart := h.2.of_mem heldQ heldR fun same => by simp [same, liveChange_iff, host] at live
          exact apart.1 ⟨port, stream, (liveChange_iff.mp live).1.trans hostLive.symm⟩
        · have portA : q0.port = .a := (h.1.2.2.2.2 q0 heldQ).2.2 (liveChange_iff.mp liveQ).2
          have new : m ∈ newStreams p.live { p.live with audio := p.map.audioFor audio } := mem_newStreams lane changed chosenQ
          have same : m = n' := by simpa [streams] using new
          exact offStream heldR hostLive (port.symm.trans portA) (stream.symm.trans same)
      · have owner : r0.owner = .host := host
        simp [liveChange_iff, owner] at liveR
    · exact ((laned_rebindLanes clear presents q hq
        (liveChange_iff.mpr ⟨live, sound.1.present_change hq present⟩)).1 present).1
  · cases moved
    exact ⟨h, presents, fun _ hr _ => hr⟩

end

end Sys2Proof.Machine
end

section
/-! The route table with the engine's share, and the directory, kept by every step (R9, R15, R74, R78, R79, R97). -/

namespace Sys2Proof.Machine

/-! ### The engine's share of the table -/

/-- Every LIVE present route carries the stream that is named for its lane. -/
def RouteTable.Presents (live : LaneStreams) (t : RouteTable) : Prop :=
  ∀ r, some r ∈ t → r.state = .live → r.isPresent = true → live.of r.use = some r.stream

/-- No route is ARMED. -/
def RouteTable.Calm (t : RouteTable) : Prop := ∀ r, some r ∈ t → r.state = .live

/-- The table's rule together with the engine's share of it. -/
def State.EngineSound (s : State) : Prop := RouteTable.Sound s.routes ∧ s.EngineOk

/-- The table's rule where the engine is about to enter a state, in a part that is not in standby. -/
structure State.Ready (s : State) : Prop where
  sound : RouteTable.Sound s.routes
  presents : ∀ p, s.cce.presented = some p → RouteTable.Presents p.live s.routes
  awake : s.cce.standby = false

/-- The same, with no route ARMED. -/
def State.Settled (s : State) : Prop := s.Ready ∧ RouteTable.Calm s.routes

namespace State
variable {s t : State}

theorem EngineSound.frame (h : s.EngineSound) (routes : t.routes = s.routes) (cce : t.cce = s.cce) : t.EngineSound := by
  simpa only [EngineSound, EngineOk, routes, cce] using h

theorem Ready.frame (h : s.Ready) (routes : t.routes = s.routes) (cce : t.cce = s.cce) : t.Ready :=
  ⟨routes ▸ h.sound, by simpa only [routes, cce] using h.presents, cce ▸ h.awake⟩

theorem Settled.frame (h : s.Settled) (routes : t.routes = s.routes) (cce : t.cce = s.cce) : t.Settled :=
  ⟨h.1.frame routes cce, routes ▸ h.2⟩

theorem EngineSound.awake (h : s.EngineSound) (active : s.cce.engine ≠ .idle) : s.cce.standby = false :=
  Bool.eq_false_iff.mpr fun standby => active (h.2.2.1 standby)

theorem EngineSound.presents (h : s.EngineSound) : ∀ p, s.cce.presented = some p → RouteTable.Presents p.live s.routes :=
  h.2.2.2.2

theorem EngineSound.ready (h : s.EngineSound) (awake : s.cce.standby = false) : s.Ready := ⟨h.1, h.presents, awake⟩

theorem EngineSound.calm (h : s.EngineSound) (early : s.cce.engine = .idle ∨ s.cce.engine = .tuning) : RouteTable.Calm s.routes := by
  intro r hr
  cases state : r.state with
  | live => rfl
  | armed =>
    obtain ⟨notIdle, notTuning, -⟩ := h.2.2.2.1 r hr state
    exact (early.elim notIdle notTuning).elim

theorem EngineSound.settled (h : s.EngineSound) (tuning : s.cce.engine = .tuning) : s.Settled :=
  ⟨h.ready (h.awake (by simp [tuning])), h.calm (.inr tuning)⟩

/-- The engine in a state that its ARMED routes allow. -/
theorem Ready.enter {e : Engine} (h : s.Ready) (c : Change)
    (armed : ∀ r, some r ∈ s.routes → r.state = .armed → e ≠ .idle ∧ e ≠ .tuning ∧ (r.isPresent = true → e ≠ .waitMap)) :
    (enter e c s).EngineSound := by
  obtain ⟨sound, presents, awake⟩ := h
  have standby : (Machine.enter e c s).cce.standby = false := awake
  refine ⟨sound, fun _ => Option.some_ne_none c, fun asleep => ?_, armed, presents⟩
  rw [standby] at asleep
  contradiction

theorem Settled.enter {e : Engine} (h : s.Settled) (c : Change) : (Machine.enter e c s).EngineSound :=
  h.1.enter c fun r hr armed => by simp [h.2 r hr] at armed

/-- The table changed in places that make no difference to the rule, or by LIVE routes that feed no lane. -/
theorem EngineSound.withRoutes {routes : RouteTable} (h : s.EngineSound) (sound : routes.Sound)
    (origin : ∀ q, some q ∈ routes → (∃ r, some r ∈ s.routes ∧ r.Shaped q) ∨ (q.state = .live ∧ q.isPresent = false)) :
    EngineSound { s with routes } := by
  obtain ⟨-, changing, asleep, armed, presents⟩ := h
  refine ⟨sound, changing, asleep, fun q hq state => ?_, fun p hp q hq live present => ?_⟩
  · rcases origin q hq with ⟨r, hr, shaped⟩ | ⟨live, -⟩
    · obtain ⟨notIdle, notTuning, early⟩ := armed r hr (shaped.2.2.1.symm.trans state)
      exact ⟨notIdle, notTuning, fun present => early (shaped.present ▸ present)⟩
    · simp [live] at state
  · rcases origin q hq with ⟨r, hr, shaped⟩ | ⟨-, absent⟩
    · have held := presents p hp r hr (shaped.2.2.1.symm.trans live) (shaped.present ▸ present)
      rw [shaped.use_of_present present, held, shaped.2.1]
    · simp [absent] at present

/-- LIVE routes kept as they are keep what they present. -/
theorem Ready.withRoutes {routes : RouteTable} (h : s.Ready) (sound : routes.Sound)
    (live : ∀ q, some q ∈ routes → q.state = .live → ∃ r, some r ∈ s.routes ∧ r.Shaped q) : Ready { s with routes } := by
  obtain ⟨-, presents, awake⟩ := h
  refine ⟨sound, fun p hp q hq state present => ?_, awake⟩
  obtain ⟨r, hr, shaped⟩ := live q hq state
  have held := presents p hp r hr (shaped.2.2.1.symm.trans state) (shaped.present ▸ present)
  rw [shaped.use_of_present present, held, shaped.2.1]

end State

theorem Route.Shaped.refl (r : Route) : r.Shaped r := (Route.Alike.refl r).shaped

theorem RouteTable.mem_free_shaped {t : RouteTable} {p : Route → Bool} {q : Route} (h : some q ∈ t.free p) :
    ∃ r, some r ∈ t ∧ r.Shaped q := ⟨q, (mem_free h).1, .refl q⟩

theorem RouteTable.mem_resync {t : RouteTable} {port : Port} {q : Route} (h : some q ∈ t.resync port) :
    ∃ r, some r ∈ t ∧ r.Shaped q := by
  obtain ⟨e, he, image⟩ := List.mem_map.mp h
  cases e with
  | none => simp at image
  | some r => exact ⟨r, he, Option.some.inj image ▸ Route.resync_shaped port r⟩

theorem RouteTable.Calm.of_shaped {t t' : RouteTable} (h : t.Calm) (shaped : ∀ q, some q ∈ t' → ∃ r, some r ∈ t ∧ r.Shaped q) :
    t'.Calm := fun q hq => by
  obtain ⟨r, hr, -, -, state, -⟩ := shaped q hq
  exact state.trans (h r hr)

section
variable {s : State}

/-! ### Changes from their start to their end (R82, R86, R91, R93) -/

theorem enterWaitMap_sound (c : Change) (h : s.Settled) : (enterWaitMap c s).EngineSound := by
  obtain ⟨ready, calm⟩ := h
  rw [enterWaitMap]
  rcases inserted : RouteTable.insertArmed s.routes c.mapStream (.sections [.map, .rating]) .none with _ | t
  · exact State.Settled.enter (s := { s with routes := s.routes }) ⟨ready, calm⟩ _
  · obtain ⟨sound, members⟩ := ready.sound.insertArmed inserted fun r hr armed => by simp [calm r hr] at armed
    have added : State.Ready { s with routes := t } := ready.withRoutes sound fun q hq live => by
      rcases members q hq with old | ⟨armed, -⟩
      · exact ⟨q, old, .refl q⟩
      · simp [live] at armed
    refine added.enter _ fun q hq armed => ⟨by simp, by simp, fun present => ?_⟩
    rcases members q hq with old | ⟨-, ⟨-, -, -, absent⟩ | use⟩
    · simp [calm q old] at armed
    · simp [absent] at present
    · simp [Route.isPresent, use] at present

theorem dropPresented_routes (cause : ContextCause) : (dropPresented cause s).routes = RouteTable.free s.routes Route.liveChange := by
  simp [dropPresented]

theorem dropPresented_cce (cause : ContextCause) :
    (dropPresented cause s).cce = { s.cce with presented := none, tuned := none } := by
  simp [dropPresented, handContext]

theorem startCross_sound (c : Change) (h : s.Settled) : (startCross c s).EngineSound := by
  obtain ⟨ready, calm⟩ := h
  have sound := ready.sound.freeLive
  have dropped : (restartPortA (dropPresented .crossMultiplex s)).Settled := by
    refine ⟨⟨?_, fun p hp => ?_, ?_⟩, ?_⟩
    · simpa [restartPortA, dropPresented_routes] using sound.resync .a
    · simp [restartPortA, dropPresented_cce] at hp
    · simpa [restartPortA, dropPresented_cce] using ready.awake
    · simp only [restartPortA, dropPresented_routes]
      refine RouteTable.Calm.of_shaped (calm.of_shaped fun q hq => ?_) fun q hq => RouteTable.mem_resync hq
      exact RouteTable.mem_free_shaped hq
  exact (dropped.enter (e := .tuning) c).frame (by simp [startCross]) (by simp [startCross])

theorem startChange_sound (target : Service) (audio : Option Lang) (h : s.Settled) : (startChange target audio s).EngineSound := by
  simp only [startChange]
  split
  · split
    · exact h.enter _
    · exact startCross_sound _ h
  · split
    · exact enterWaitMap_sound _ h
    · exact startCross_sound _ h

theorem releaseChange_settled (h : s.Ready) : (releaseChange s).Settled := by
  have freed : State.Ready { s with routes := RouteTable.free s.routes Route.isArmed } :=
    h.withRoutes h.sound.freeArmed fun q hq _ => RouteTable.mem_free_shaped hq
  refine ⟨freed.frame rfl rfl, fun r hr => ?_⟩
  have := (RouteTable.mem_free hr).2
  cases state : r.state with
  | live => rfl
  | armed => simp [Route.isArmed, state] at this

theorem enterIdle_sound (h : s.Settled) : (enterIdle s).EngineSound := by
  obtain ⟨⟨sound, presents, awake⟩, calm⟩ := h
  have idle : State.EngineSound { s with cce := { s.cce with engine := .idle, change := none, pendingTune := none } } :=
    ⟨sound, fun active => (active rfl).elim, fun _ => rfl, (fun r hr armed => by simp [calm r hr] at armed), presents⟩
  simp only [enterIdle]
  split
  · exact idle
  · split
    · exact startChange_sound _ _ ⟨⟨sound, presents, awake⟩, calm⟩
    · exact idle.frame (by simp) (by simp)

theorem endChange_sound (reason : DoneReason) (h : s.EngineSound) (awake : s.cce.standby = false) :
    (endChange reason s).EngineSound := by
  rw [endChange]
  split
  · exact h
  · exact enterIdle_sound ((releaseChange_settled (h.ready awake)).frame (by simp) (by simp))

theorem failTuning_sound (reason : DoneReason) (h : s.EngineSound) (awake : s.cce.standby = false) :
    (failTuning reason s).EngineSound := endChange_sound reason h awake

/-! ### The splice (R90) -/

theorem displaceHosts_routes : (displaceHosts s).routes
    = RouteTable.free s.routes fun r => (RouteTable.displaced s.routes).contains r := by
  simp [displaceHosts]

theorem liveStream_of {t : RouteTable} {r : Route} (h : t.Sound) (hr : some r ∈ t) (live : r.state = .live)
    (present : r.isPresent = true) : liveStream t r.use = some r.stream := by
  have change := h.1.present_change hr present
  rw [liveStream]
  rcases found : t.find fun q => q.liveChange && q.use == r.use with _ | k
  · have := RouteTable.find_eq_none.mp found r hr
    simp [Route.liveChange, live, change] at this
  · obtain ⟨q, held, test⟩ := RouteTable.find_eq_some found
    obtain ⟨⟨state, -⟩, use⟩ : (q.state = .live ∧ q.owner = .change) ∧ q.use = r.use := by
      simpa [Route.liveChange] using test
    have same : q = r := by
      by_contra different
      have apart := h.2.of_mem (List.mem_of_getElem? held) hr different
      exact apart.2 ⟨Route.isPresent_iff.mpr (use ▸ Route.isPresent_iff.mp present), use, state.trans live.symm⟩
    simp [RouteTable.route_eq_some.mpr held, same]

theorem presents_liveStreams {t : RouteTable} (h : t.Sound) : RouteTable.Presents (liveStreams t) t := by
  intro r hr live present
  have stream := liveStream_of h hr live present
  have lane := Route.isPresent_iff.mp present
  simp only [presentUses, List.mem_cons, List.not_mem_nil, or_false] at lane
  rcases lane with use | use | use <;> rw [use] at stream ⊢ <;> exact stream

theorem splice_sound (reason : DoneReason) (h : s.EngineSound) (awake : s.cce.standby = false) :
    (splice reason s).EngineSound := by
  have converted : RouteTable.Sound (displaceHosts { s with routes := RouteTable.convert s.routes }).routes := by
    rw [displaceHosts_routes]
    exact h.1.convert.displace
  have calm : RouteTable.Calm (displaceHosts { s with routes := RouteTable.convert s.routes }).routes := by
    rw [displaceHosts_routes]
    intro q hq
    obtain ⟨r, -, -, rfl⟩ := RouteTable.mem_convert (RouteTable.mem_free hq).1
    exact r.convert_live
  rw [splice]
  split
  · exact h
  · refine enterIdle_sound ⟨⟨?_, ?_, ?_⟩, ?_⟩
    · simpa using converted
    · intro p hp
      simp only [emit_frame, handContext_frame, swapRecords_frame, Option.some.injEq] at hp ⊢
      subst hp
      simpa using presents_liveStreams converted
    · simpa [handContext] using awake
    · simpa using calm

theorem enterWaitSplice_sound (c : Change) (h : s.Ready) : (enterWaitSplice c s).EngineSound := by
  have entered := h.enter (e := .waitSplice) { c with phaseStart := s.tmb.localTime } fun _ _ _ => ⟨by simp, by simp, by simp⟩
  simp only [enterWaitSplice]
  split
  · exact entered
  · exact splice_sound .ok entered h.awake

theorem testWaitKey_sound (h : s.EngineSound) : (testWaitKey s).EngineSound := by
  rw [testWaitKey]
  split
  · rename_i waiting _ _
    split
    · exact enterWaitSplice_sound _ (h.ready (h.awake (by simp [waiting])))
    · exact h
  · exact h

theorem parityReport_sound (k : Slot) (h : s.EngineSound) : (parityReport k s).EngineSound := by
  rw [parityReport]
  split
  · exact h
  · rename_i c _
    have noted : State.EngineSound { s with cce := { s.cce with change := some { c with parity := some k } } } :=
      ⟨h.1, fun _ => Option.some_ne_none _, h.2.2⟩
    exact testWaitKey_sound noted

theorem testHandshake_sound (h : s.EngineSound) : (testHandshake s).EngineSound := by
  rw [testHandshake]
  split
  · rename_i tuning _
    split
    · exact enterWaitMap_sound _ (h.settled tuning)
    · exact h
  · exact h

/-! ### Programme maps (R85, R87, R96) -/

theorem armChange_sound (c : Change) (m : ProgMap) (h : s.EngineSound) (waiting : s.cce.engine = .waitMap) :
    (armChange c m s).EngineSound := by
  have awake := h.awake (by simp [waiting])
  simp only [armChange]
  split
  · exact endChange_sound _ h awake
  rename_i t armed
  obtain ⟨sound, gains⟩ := h.1.armedTable (fun r hr state present => ((h.2.2.2.1 r hr state).2.2 present waiting).elim) armed
  have ready : State.Ready { s with routes := t } := (h.ready awake).withRoutes sound fun q hq live => by
    rcases gains q hq with old | state
    · exact ⟨q, old, .refl q⟩
    · simp [live] at state
  split
  · exact (ready.enter (e := .waitKey) { c with map := some m, parity := none, phaseStart := s.tmb.localTime }
      fun _ _ _ => ⟨by simp, by simp, by simp⟩).frame rfl rfl
  · exact enterWaitSplice_sound _ ready

theorem liveUpdate_sound (p : Presentation) (m : ProgMap) (h : s.EngineSound) (presented : s.cce.presented = some p) :
    (liveUpdate p m s).EngineSound := by
  simp only [liveUpdate]
  split
  · exact h
  rename_i clear
  have clear := lanesClear_of_laneClash h.1.1 (Bool.eq_false_iff.mpr clear)
  obtain ⟨nearly, carried⟩ := (h.1.rebindLanes clear).insertLanes p.map.keyStream.isSome
    (laned_rebindLanes clear (h.presents p presented)) clear.nodup
  have armedBefore (r : Route) (hr : some r ∈ insertLanes p.map.keyStream.isSome p.live (m.choose p.audio)
      (rebindLanes p.live (m.choose p.audio) s.routes)) (armed : r.state = .armed) : some r ∈ s.routes := by
    rcases RouteTable.mem_insertLanes hr with rebound | live
    · exact RouteTable.armed_of_rebindLanes rebound armed
    · simp [live] at armed
  refine State.EngineSound.frame (s := { s with
    routes := RouteTable.free _ _
    cce := { s.cce with presented := some { p with
      map := { m with keyStream := p.map.keyStream }, live := m.choose p.audio } } }) ⟨nearly.displace, ?_⟩ (by simp [displaceHosts_routes]) (by simp [displaceHosts])
  obtain ⟨changing, asleep, armed, -⟩ := h.2
  refine ⟨changing, asleep, fun r hr state => armed r (armedBefore r (RouteTable.mem_free hr).1 state) state, fun q hq r hr live present => ?_⟩
  cases hq
  have held := (RouteTable.mem_free hr).1
  exact carried r held (liveChange_iff.mpr ⟨live, nearly.1.present_change held present⟩) present

theorem applyMapSection_sound (x : Section) (h : s.EngineSound) : (applyMapSection x s).EngineSound := by
  rw [applyMapSection]
  split
  · rename_i change
    have waiting : s.cce.engine = .waitMap := by
      by_contra other
      simp [changeOfMap, other] at change
    split
    · exact h
    · exact armChange_sound _ _ h waiting
  · rename_i presentation
    have presented := (Option.filter_eq_some_iff.mp presentation).1
    split
    · exact h
    · exact liveUpdate_sound _ _ h presented
  · exact h

/-! ### Requests (R13, R14, R81, R83, R84, R92 to R98) -/

theorem tune_sound (service : Nat) (audio : Option Lang) (h : s.EngineSound) : (tune service audio s).EngineSound := by
  have replied (result : Result) : (reply result s).EngineSound := h.frame (by simp) (by simp)
  rw [tune]
  split
  · exact replied _
  split
  · exact replied _
  rename_i awake
  have awake : (reply .accepted s).cce.standby = false := by simpa using awake
  split
  · exact replied _
  · dsimp only
    split
    · exact replied .accepted
    · rename_i idle
      exact startChange_sound _ _ ⟨(replied _).ready awake, (replied _).calm (.inl idle)⟩
    · exact startChange_sound _ _ (releaseChange_settled ((replied _).ready awake))

theorem cancel_sound (h : s.EngineSound) : (cancel s).EngineSound := by
  have replied (result : Result) : (reply result s).EngineSound := h.frame (by simp) (by simp)
  rw [cancel]
  split
  · exact replied _
  · exact replied _
  · rename_i active _
    exact endChange_sound _ (replied _) (by simpa using h.awake active)

theorem engine_of_tuningTo {frequency : Nat} {c : Change} (h : tuningTo frequency s = some c) : s.cce.engine = .tuning := by
  by_contra other
  simp [tuningTo, other] at h

theorem tunerReady_sound (frequency : Nat) (h : s.EngineSound) : (tunerReady frequency s).EngineSound := by
  rw [tunerReady]
  split
  · exact h.frame (by simp) (by simp)
  · rename_i c found
    have tuning := engine_of_tuningTo found
    have settled : (reply .ok s).Settled :=
      State.Settled.frame (h.settled tuning) (by simp) (by simp)
    exact testHandshake_sound (settled.enter (e := .tuning) _)

theorem tunerFail_sound (frequency : Nat) (h : s.EngineSound) : (tunerFail frequency s).EngineSound := by
  have replied (result : Result) : (reply result s).EngineSound := h.frame (by simp) (by simp)
  rw [tunerFail]
  split
  · exact replied _
  · rename_i found
    exact failTuning_sound _ (replied _) (by simpa using h.awake (by simp [engine_of_tuningTo found]))

theorem setAudio_sound (audio : Option Lang) (h : s.EngineSound) : (setAudio audio s).EngineSound := by
  have replied {u : State} (result : Result) (hu : u.EngineSound) : (reply result u).EngineSound := hu.frame (by simp) (by simp)
  rw [setAudio]
  split
  · exact replied _ h
  · rename_i p idle presented
    split
    · exact replied _ h
    · rename_i routes live moved
      obtain ⟨sound, presents, armed⟩ := h.1.moveAudio (h.presents p presented) moved
      refine replied .ok ⟨sound, h.2.1, h.2.2.1, fun r hr state => h.2.2.2.1 r (armed r hr state) state, fun q hq => ?_⟩
      cases hq
      exact presents
  · exact replied _ h
  · rename_i tuning _
    exact replied .ok (State.Settled.enter (h.settled tuning) _)
  · rename_i waiting _
    have armed := fun r hr state => (h.2.2.2.1 r hr state)
    exact replied .ok ((h.ready (h.awake (by simp [waiting]))).enter _ (waiting ▸ armed))
  · rename_i c _ notTuning notMap idleNone idleSome
    have notIdle : s.cce.engine ≠ .idle := fun idle => by
      cases presented : s.cce.presented with
      | none => exact idleNone idle presented
      | some p => exact idleSome p idle presented
    split
    · exact replied _ h
    rename_i routes rearmed
    have moved : RouteTable.Sound routes ∧ RouteTable.GainsArmed s.routes routes := by
      rcases map : c.map with _ | m <;> rw [map] at rearmed
      · cases rearmed
        exact ⟨h.1, .refl _⟩
      · exact h.1.rearmAudio rearmed
    have ready : State.Ready { s with routes } := (h.ready (h.awake notIdle)).withRoutes moved.1 fun q hq live => by
      rcases moved.2 q hq with old | armed
      · exact ⟨q, old, .refl q⟩
      · simp [live] at armed
    exact replied .ok (ready.enter { c with audio } fun _ _ _ => ⟨notIdle, notTuning, fun _ => notMap⟩)

/-- A change that ends with no TUNE pending leaves the engine in IDLE. -/
theorem engine_endChange (reason : DoneReason) (h : s.EngineSound) (none : s.cce.pendingTune = none) :
    (endChange reason s).cce.engine = .idle := by
  rw [endChange]
  split
  · rename_i changeless
    by_contra active
    exact h.2.1 active changeless
  · simp [enterIdle, none]

theorem enterStandby_sound (h : s.EngineSound) : (enterStandby s).EngineSound := by
  have replied : (reply .ok s).EngineSound := h.frame (by simp) (by simp)
  simp only [enterStandby]
  split
  · exact replied
  · rename_i awake
    have cleared : State.EngineSound { reply .ok s with cce := { (reply .ok s).cce with pendingTune := none } } := replied
    have ended := endChange_sound .cancelled cleared (by simpa using awake)
    have idle := engine_endChange .cancelled cleared (by simp)
    have calm := ended.calm (.inl idle)
    refine ⟨?_, ?_, ?_, ?_, ?_⟩
    · simpa [dropPresented_routes] using ended.1.freeLive
    · simpa [dropPresented_cce] using ended.2.1
    · exact fun _ => by simpa [dropPresented_cce] using idle
    · intro r hr armed
      simp only [dropPresented_routes] at hr
      simp [calm r (RouteTable.mem_free hr).1] at armed
    · simp [dropPresented_cce]

theorem wake_sound (resume : Nat) (h : s.EngineSound) : (wake resume s).EngineSound := by
  rw [wake]
  split
  · exact h.frame (by simp) (by simp)
  split
  · exact h.frame (by simp) (by simp)
  rename_i asleep
  have idle : s.cce.engine = .idle := h.2.2.1 (by simpa using asleep)
  have awake : State.EngineSound { s with cce := { s.cce with standby := false } } := ⟨h.1, h.2.1, nofun, h.2.2.2⟩
  have replied (result : Result) : (reply result { s with cce := { s.cce with standby := false } }).EngineSound :=
    awake.frame (by simp) (by simp)
  split
  · exact replied _
  dsimp only
  split
  · exact replied _
  · exact startChange_sound _ _ ⟨(replied _).ready (by simp), (replied _).calm (.inl (by simpa using idle))⟩

theorem addRoute_sound (port stream : Nat) (h : s.EngineSound) : (addRoute port stream s).EngineSound := by
  have replied (result : Result) : (reply result s).EngineSound := h.frame (by simp) (by simp)
  rw [addRoute]
  split
  · exact replied _
  rename_i p named
  split
  · exact replied _
  split
  · exact replied _
  rename_i free
  split
  · exact replied _
  rename_i room
  split
  · exact replied _
  rename_i k lowest
  have notL : p ≠ .l := by simpa using (Option.filter_eq_some_iff.mp named).2
  have free : RouteTable.find s.routes (Route.isAt p stream .live) = none := by simpa using free
  have placed : RouteTable.place s.routes (.fresh p stream .pass .live .host .none)
      = some (setAt s.routes k (some (.fresh p stream .pass .live .host .none))) := by simp [RouteTable.place, lowest]
  have apart (q : Route) (hq : some q ∈ s.routes) : (Route.fresh p stream .pass .live .host .none).apart q := by
    have elsewhere := RouteTable.find_eq_none.mp free q hq
    refine ⟨fun ⟨port, here, state⟩ => ?_, fun ⟨present, _, _⟩ => by simp [Route.isPresent, Route.fresh] at present⟩
    simp only [Route.fresh] at port here state
    simp [Route.isAt, ← port, ← here, ← state] at elsewhere
  have ok : (Route.fresh p stream .pass .live .host .none).Ok := ⟨nofun, fun _ => ⟨rfl, notL, rfl⟩, nofun⟩
  have sound : RouteTable.Sound (setAt s.routes k (some (.fresh p stream .pass .live .host .none))) :=
    ⟨h.1.1.place placed ok (.inr ⟨rfl, not_le.mp room⟩), h.1.2.place placed fun q hq => ⟨apart q hq, Route.apart_comm (apart q hq)⟩⟩
  refine (h.withRoutes sound fun q hq => ?_).frame (by simp) (by simp)
  rcases RouteTable.mem_place placed hq with rfl | old
  · exact .inr ⟨rfl, rfl⟩
  · exact .inl ⟨q, old, .refl q⟩

theorem dropRoute_sound (port stream : Nat) (h : s.EngineSound) : (dropRoute port stream s).EngineSound := by
  simp only [dropRoute]
  split
  · have sound : (RouteTable.free s.routes fun r => r.owner == .host && some r.port == portOfCode port && r.stream == stream).Sound :=
      h.1.free fun r _ owner => by simp [owner]
    exact (h.withRoutes sound fun q hq => .inl (RouteTable.mem_free_shaped hq)).frame (by simp) (by simp)
  · exact h.frame (by simp) (by simp)

/-! ### Cells (R3, R5, R11, R12, R17, R18) -/

theorem setAt_sound {k : Nat} {r q : Route} (h : s.EngineSound) (held : s.routes[k]? = some (some r)) (shaped : r.Shaped q) :
    State.EngineSound { s with routes := setAt s.routes k (some q) } := by
  refine h.withRoutes (h.1.setAt_shaped held shaped) fun p hp => .inl ?_
  rcases List.mem_or_eq_of_mem_set hp with old | new
  · exact ⟨p, old, .refl p⟩
  · cases new
    exact ⟨r, List.mem_of_getElem? held, shaped⟩

theorem spliceOn_sound (k : Nat) (c : Cell) (h : s.EngineSound) (awake : s.cce.standby = false) :
    (spliceOn k c s).EngineSound := by
  have spliced := splice_sound .ok h awake
  simp only [spliceOn]
  split
  · split
    · exact spliced.frame (by simp) (by simp)
    · exact spliced
  · exact spliced

theorem observe_sound (k : Nat) (r : Route) (c : Cell) (h : s.EngineSound) : (observe k r c s).EngineSound := by
  have ending {u : State} (hu : u.EngineSound) : State.EngineSound
      (if r.use == .video && c.start && c.marker && u.cce.engine == .waitSplice then spliceOn k c u else u) := by
    split
    · rename_i splicing
      have waiting : u.cce.engine = .waitSplice := by
        simp only [Bool.and_eq_true, beq_iff_eq] at splicing
        exact splicing.2
      exact spliceOn_sound _ _ hu (hu.awake (by simp [waiting]))
    · exact hu
  rw [observe]
  split
  · exact ending (parityReport_sound _ h)
  · exact ending h

theorem assemble_sound (k : Nat) (c : Cell) (h : s.EngineSound) : (assemble k c s).EngineSound := by
  rw [assemble]
  split
  · rename_i found
    split
    · rename_i r _ _ _ _ _ _
      have held (ctx : Option Context) : State.EngineSound { s with routes := setAt s.routes k (some { r with ctx }) } :=
        setAt_sound h (RouteTable.route_eq_some.mp found) ⟨rfl, rfl, rfl, rfl, .inl rfl⟩
      exact (held _).frame rfl rfl
    · exact h
  · exact h

theorem abandonEntry_sound (k : Nat) (h : s.EngineSound) : (abandonEntry k s).EngineSound := by
  rw [abandonEntry]
  rcases held : RouteTable.route s.routes k with _ | r
  · have same : setAt s.routes k none = s.routes := by
      refine List.ext_getElem? fun j => ?_
      rw [setAt, List.getElem?_set]
      split
      · rename_i here
        subst here
        split
        · rename_i inside
          simpa [RouteTable.route, List.getElem?_eq_getElem inside] using held.symm
        · rename_i outside
          exact (List.getElem?_eq_none (not_lt.mp outside)).symm
      · rfl
    exact h.frame (by simpa [held] using same) rfl
  · exact setAt_sound h (RouteTable.route_eq_some.mp held) ⟨rfl, rfl, rfl, rfl, .inl rfl⟩

theorem sectionsCell_sound (k : Nat) (r : Route) (broken : Bool) (c : Cell) (h : s.EngineSound) :
    (sectionsCell k r broken c s).EngineSound := by
  rw [sectionsCell]
  split
  · exact abandonEntry_sound k (h.frame (by simp) (by simp))
  · split
    · exact assemble_sound k c (abandonEntry_sound k h)
    · exact assemble_sound k c h

theorem takeCell_sound (k : Nat) (c : Cell) (h : s.EngineSound) : (takeCell k c s).EngineSound := by
  rw [takeCell]
  split
  · exact h
  rename_i r found
  have taken := setAt_sound (q := r.take c) h (RouteTable.route_eq_some.mp found) ⟨rfl, rfl, rfl, rfl, .inl rfl⟩
  have presented : State.EngineSound (if (r.take c).state = .live
      then forward (r.take c) (r.broken c) c { s with routes := setAt s.routes k (some (r.take c)) }
      else observe k (r.take c) c { s with routes := setAt s.routes k (some (r.take c)) }) := by
    split
    · exact taken.frame (by simp) (by simp)
    · exact observe_sound _ _ _ taken
  rw [useCell]
  split
  · exact presented
  · exact presented
  · exact presented
  · exact sectionsCell_sound _ _ _ _ taken
  · split <;> exact taken.frame (by simp) (by simp)
  · split <;> exact taken.frame (by simp) (by simp)
  · exact taken.frame rfl rfl

theorem engineSound_keptByFraming : KeptByFraming State.EngineSound where
  cin _ _ h := h.frame rfl rfl
  emit _ _ h := h.frame (by simp) (by simp)
  send _ _ h := h.frame rfl rfl
  resync port _ h := h.withRoutes (h.1.resync port) fun _ hq => .inl (RouteTable.mem_resync hq)
  take k c _ h := takeCell_sound k c h

/-! ### The commands -/

/-- A reset engine meets its share of the rule over the reset table, whatever the last service. -/
theorem engineOk_warm (cause : ResetCause) : (warmResetFrom cause s).EngineOk := by
  obtain ⟨-, -, armed, -⟩ := resetMeetsTheInvariants.2.2.2.2.2.2.2.2.2.2.1
  exact ⟨fun active => (active rfl).elim, nofun, armed, nofun⟩

theorem engineSound_keptByResets : KeptByResets State.EngineSound where
  warm _ _ _ := ⟨routesOk_iff.mp resetMeetsTheInvariants.2.2.2.2.2.2.2.2.2.1, engineOk_warm _⟩
  cold _ := ⟨routesOk_iff.mp resetMeetsTheInvariants.2.2.2.2.2.2.2.2.2.1, resetMeetsTheInvariants.2.2.2.2.2.2.2.2.2.2.1⟩
  power _ _ h := h.frame rfl rfl
  lane _ _ _ _ h _ := h.frame rfl rfl

theorem engineCommand_sound {i : Instr} {t : State} (listed : i ∈ [Instr.tune, .portALockReport, .portAHuntReport, .tunerReady,
      .tunerFail, .tuneTimeout, .mapSection, .noMapTimeout, .armingReport, .waitKeyTimeout, .forcedSplice, .cancel, .setAudio,
      .standby, .wake, .addRoute, .dropRoute]) (h : s.EngineSound) (answered : exec i s = .next t) : t.EngineSound := by
  have early {e : Engine} {limit : Nat} {u : State} (due : phaseOver e limit u = true) : u.cce.engine = e := by
    simp only [phaseOver, Bool.and_eq_true, beq_iff_eq] at due
    exact due.1
  fin_cases listed
  · simp only [exec, execTune] at answered
    refine whenRunning_keeps h ?_ answered
    split
    · exact tune_sound _ _ h
    · exact h
  · simp only [exec, execPortALockReport] at answered
    refine whenRunning_keeps h ?_ answered
    split
    · have taken : (s.taking .cinToCce).EngineSound := h.frame rfl rfl
      split
      · rename_i tuning _
        exact testHandshake_sound (State.Settled.enter (taken.settled tuning) _)
      · exact taken
    · exact h
  · simp only [exec, execPortAHuntReport] at answered
    refine whenRunning_keeps h ?_ answered
    split
    · have taken : (s.taking .cinToCce).EngineSound := h.frame rfl rfl
      split
      · rename_i tuning _
        exact State.Settled.enter (taken.settled tuning) _
      · exact taken
    · exact h
  · simp only [exec, execTunerReady] at answered
    refine whenRunning_keeps h ?_ answered
    split
    · exact tunerReady_sound _ h
    · exact h
  · simp only [exec, execTunerFail] at answered
    refine whenRunning_keeps h ?_ answered
    split
    · exact tunerFail_sound _ h
    · exact h
  · simp only [exec, execTuneTimeout] at answered
    refine whenRunning_keeps h ?_ answered
    split
    · rename_i due
      exact failTuning_sound _ h (h.awake (by simp [early due]))
    · exact h
  · exact whenRunning_keeps h (consume_keeps h fun x rest => applyMapSection_sound x (h.frame rfl rfl)) answered
  · simp only [exec, execNoMapTimeout] at answered
    refine whenRunning_keeps h ?_ answered
    split
    · rename_i due
      exact endChange_sound _ h (h.awake (by simp [early due]))
    · exact h
  · simp only [exec, execArmingReport] at answered
    refine whenRunning_keeps h ?_ answered
    split
    · exact testWaitKey_sound (h.frame rfl rfl)
    · exact h
  · simp only [exec, execWaitKeyTimeout] at answered
    refine whenRunning_keeps h ?_ answered
    split
    · split
      · rename_i due
        exact enterWaitSplice_sound _ (h.ready (h.awake (by simp [early due])))
      · exact h
    · exact h
  · simp only [exec, execForcedSplice] at answered
    refine whenRunning_keeps h ?_ answered
    split
    · rename_i due
      have counted : State.EngineSound { s with cce := { s.cce with forcedSplices := satInc max32 s.cce.forcedSplices } } := h
      exact splice_sound _ counted (h.awake (by simp [early due]))
    · exact h
  · simp only [exec, execCancel] at answered
    refine whenRunning_keeps h ?_ answered
    split
    · exact cancel_sound h
    · exact h
  · simp only [exec, execSetAudio] at answered
    refine whenRunning_keeps h ?_ answered
    split
    · split
      · exact setAudio_sound _ h
      · exact h.frame (by simp) (by simp)
    · exact h
  · simp only [exec, execStandby] at answered
    refine whenRunning_keeps h ?_ answered
    split
    · exact enterStandby_sound h
    · exact h
  · simp only [exec, execWake] at answered
    refine whenRunning_keeps h ?_ answered
    split
    · exact wake_sound _ h
    · exact h
  · simp only [exec, execAddRoute] at answered
    refine whenRunning_keeps h ?_ answered
    split
    · exact addRoute_sound _ _ h
    · exact h
  · simp only [exec, execDropRoute] at answered
    refine whenRunning_keeps h ?_ answered
    split
    · exact dropRoute_sound _ _ h
    · exact h

theorem exec_engineSound {i : Instr} {t : State} (h : s.EngineSound) (answered : exec i s = .next t) : t.EngineSound := by
  by_cases listed : i ∈ [Instr.tune, .portALockReport, .portAHuntReport, .tunerReady, .tunerFail, .tuneTimeout, .mapSection,
      .noMapTimeout, .armingReport, .waitKeyTimeout, .forcedSplice, .cancel, .setAudio, .standby, .wake, .addRoute, .dropRoute]
  · exact engineCommand_sound listed h answered
  simp only [List.mem_cons, List.not_mem_nil, or_false, not_or] at listed
  rcases exec_routes_cases s answered with routes | ⟨cause, rfl⟩ | rfl | ⟨port, bytes, rfl⟩ | ⟨strobe, bytes, rfl⟩ | rest
  · rcases exec_cce_cases s answered with cce | ⟨cause, rfl⟩ | rfl | ⟨port, bytes, rfl⟩ | ⟨strobe, bytes, rfl⟩ | rest
    · exact h.frame routes cce
    · exact engineSound_keptByResets.warmReset h answered
    · exact engineSound_keptByResets.coldStart answered
    · exact engineSound_keptByFraming.cellArrival h answered
    · exact engineSound_keptByFraming.portLCell h answered
    · have lane : i = .dataLaneCellSent := by tauto
      subst lane
      exact engineSound_keptByResets.dataLaneCellSent h answered
  · exact engineSound_keptByResets.warmReset h answered
  · exact engineSound_keptByResets.coldStart answered
  · exact engineSound_keptByFraming.cellArrival h answered
  · exact engineSound_keptByFraming.portLCell h answered
  · have lane : i = .dataLaneCellSent := by tauto
    subst lane
    exact engineSound_keptByResets.dataLaneCellSent h answered

/-! ### The directory (R74 to R76) -/

/-- The service records of the directory (R74). -/
def Sdr.RecordsOk (d : Sdr) : Prop :=
  d.services.length ≤ 256 ∧ d.services.Pairwise (fun x y => x.number < y.number) ∧ ∀ r ∈ d.services, r.Ok

theorem directoryOk_iff : s.DirectoryOk ↔ s.sdr.RecordsOk ∧ s.sdr.versions.length = 16 := by
  simp only [State.DirectoryOk, Sdr.RecordsOk]
  tauto

/-- An entry as a body holds it is within its ranges once it passes its checks (R76, R189). -/
theorem directoryEntry_ok {segment : Nat} {e : List Byte} (inside : segment ≤ 15)
    (passes : entryOk (directoryEntry segment e).1 (directoryEntry segment e).2 = true) : (directoryEntry segment e).2.Ok := by
  simp only [entryOk, Bool.and_eq_true, decide_eq_true_eq, bne_iff_ne, Bool.not_eq_true', List.contains_eq_mem,
    decide_eq_false_iff_not, List.all_eq_true, tierOk] at passes
  obtain ⟨⟨⟨⟨⟨number, frequency⟩, mapStream⟩, -⟩, tiers⟩, nodup⟩ := passes
  refine ⟨number, frequency, ?_, ⟨?_, mapStream⟩, ⟨?_, nodup, tiers⟩, ?_, inside⟩
  · have := (byteAt e 6).isLt
    simp only [directoryEntry]
    omega
  · exact Nat.le_of_lt_succ (Nat.mod_lt _ (by decide))
  · simp [directoryEntry]
  · exact ((List.takeWhile_sublist _).length_le).trans (by simp)

theorem takeEntry_ok {d : Sdr} {entry : Nat × Service} (h : d.RecordsOk) (fits : entryOk entry.1 entry.2 = true → entry.2.Ok) :
    (takeEntry d entry).RecordsOk := by
  simp only [takeEntry]
  split
  · exact h
  rename_i passes
  split
  · rename_i room
    obtain ⟨bound, ordered, records⟩ := h
    refine ⟨?_, putOrdered_ordered (key := Service.number) rfl ordered, fun r hr => ?_⟩
    · by_cases held : ∃ r ∈ d.services, r.number = entry.2.number
      · rw [length_putOrdered_of_mem (key := Service.number) ordered held]
        exact bound
      · refine (length_putOrdered_le _ _).trans ?_
        have absent : (d.find entry.2.number).isSome = false := by
          simpa [Sdr.find] using held
        simpa [absent] using room
    · rcases mem_of_mem_putOrdered hr with rfl | old
      · exact fits (by simpa using passes)
      · exact records r old
  · exact h

theorem applyDirectorySection_ok (x : Section) (h : s.DirectoryOk) : (applyDirectorySection x s).DirectoryOk := by
  rw [applyDirectorySection]
  split
  · rename_i stored entries held parsed
    split
    · exact h
    rw [directoryOk_iff] at h ⊢
    obtain ⟨⟨bound, ordered, records⟩, versions⟩ := h
    have inside : x.key ≤ 15 := by
      have := (List.getElem?_eq_some_iff.mp held).1
      omega
    have cleared : Sdr.RecordsOk { s.sdr with services := s.sdr.services.filter fun r => r.segment != x.key } :=
      ⟨(List.length_filter_le _ _).trans bound, ordered.sublist List.filter_sublist,
        fun r hr => records r (List.mem_filter.mp hr).1⟩
    have entryFits (entry : Nat × Service) (listed : entry ∈ entries) : entryOk entry.1 entry.2 = true → entry.2.Ok := by
      rw [directoryEntries] at parsed
      split at parsed
      · cases parsed
      · cases parsed
        obtain ⟨k, -, rfl⟩ := List.mem_map.mp listed
        exact directoryEntry_ok inside
    have filled : (entries.foldl takeEntry { s.sdr with services := s.sdr.services.filter fun r => r.segment != x.key }).RecordsOk
        ∧ (entries.foldl takeEntry { s.sdr with
          services := s.sdr.services.filter fun r => r.segment != x.key }).versions = s.sdr.versions := by
      refine List.foldlRecOn (motive := fun d : Sdr => d.RecordsOk ∧ d.versions = s.sdr.versions) _ _ ⟨cleared, rfl⟩
        fun d hd entry listed => ⟨takeEntry_ok hd.1 (entryFits entry listed), ?_⟩
      simp only [takeEntry]
      (repeat' split) <;> exact hd.2
    simp only [emit_frame]
    exact ⟨filled.1, by simpa [setAt, filled.2] using versions⟩
  · exact h

theorem directoryOk_keptByResets : KeptByResets State.DirectoryOk where
  warm _ _ _ := resetMeetsTheInvariants.2.2.2.2.2.2.2.2.2.2.2
  cold _ := resetMeetsTheInvariants.2.2.2.2.2.2.2.2.2.2.2
  power _ _ h := h
  lane _ _ _ _ h _ := h

theorem State.DirectoryOk.of_sdr {t : State} (h : s.DirectoryOk) (same : t.sdr = s.sdr) : t.DirectoryOk := by
  rw [State.DirectoryOk, same]
  exact h

end

/-- Settles O22: the table's operations keep its rule under what the engine's state allows, and an entry that passes its checks is
within its ranges. -/
theorem everyStepKeepsTheRouteTableAndTheDirectoryToTheirRules :
    Obligations.EveryStepKeepsTheRouteTableAndTheDirectoryToTheirRules := by
  refine ⟨fun s t routes engine stepped => ?_, step_keeps (fun _ _ h => h) (fun i s t h answered => ?_) fun s h => h.of_sdr (by simp)⟩
  · have sound : t.EngineSound := step_keeps (P := State.EngineSound) (fun _ _ h => h) (fun i s t h => exec_engineSound h)
      (fun s h => h.frame (by simp) (by simp)) s t ⟨routesOk_iff.mp routes, engine⟩ stepped
    exact ⟨routesOk_iff.mpr sound.1, sound.2⟩
  · rcases exec_sdr_cases s answered with same | ⟨cause, rfl⟩ | rfl | rfl | rfl
    · exact h.of_sdr same
    · exact directoryOk_keptByResets.warmReset h answered
    · exact directoryOk_keptByResets.coldStart answered
    · exact whenRunning_keeps h (consume_keeps h fun x _ => applyDirectorySection_ok x h) answered
    · exact directoryOk_keptByResets.dataLaneCellSent h answered

end Sys2Proof.Machine
end

section
/-! The control stream: event records, cells as bytes, the data lane, request intake, and the resets (chapters 11 and 12). -/

namespace Sys2Proof.Machine

/-! ### Event records (R182) -/

/-- Settles O14: the three branches of an offered event record. -/
theorem eventRecordsAreAdmittedWhileFewerThan28AreHeld : Obligations.EventRecordsAreAdmittedWhileFewerThan28AreHeld := by
  refine fun s e => ⟨fun off => ?_, fun enabled listed few => emit_admitted s e enabled listed few, fun enabled listed many => ?_⟩
  · have masked : (!(s.rpq.enabled && s.rpq.classes.contains e.cls)) = true := by
      rcases off with disabled | unlisted
      · simp [disabled]
      · simp [unlisted]
    rw [emit, if_pos masked]
  · simp [emit, enabled, listed, many.not_gt, satInc]

/-! ### The coding of a cell (R187) -/

theorem parity_ofBits_bits (p : Parity) : Parity.ofBits p.bits = p := by
  cases p <;> rfl

theorem parity_bits_ofBits (b : BitVec 2) : (Parity.ofBits b).bits = b := by
  revert b
  decide

theorem header_fields (start marker : Bool) (parity : BitVec 2) (high : BitVec 4) :
    (BitVec.ofBool start ++ BitVec.ofBool marker ++ parity ++ high).getLsbD 7 = start
      ∧ (BitVec.ofBool start ++ BitVec.ofBool marker ++ parity ++ high).getLsbD 6 = marker
      ∧ (BitVec.ofBool start ++ BitVec.ofBool marker ++ parity ++ high).extractLsb' 4 2 = parity
      ∧ (BitVec.ofBool start ++ BitVec.ofBool marker ++ parity ++ high).extractLsb' 0 4 = high := by
  revert start marker parity high
  decide

theorem header_byte (b : Byte) :
    BitVec.ofBool (b.getLsbD 7) ++ BitVec.ofBool (b.getLsbD 6) ++ b.extractLsb' 4 2 ++ b.extractLsb' 0 4 = b := by
  revert b
  decide

theorem halves_fields (high low : BitVec 4) : (high ++ low).extractLsb' 4 4 = high ∧ (high ++ low).extractLsb' 0 4 = low := by
  revert high low
  decide

theorem halves_byte (b : Byte) : b.extractLsb' 4 4 ++ b.extractLsb' 0 4 = b := by
  revert b
  decide

theorem stream_fields (high : BitVec 4) (low : Byte) :
    (high ++ low).extractLsb' 8 4 = high ∧ (high ++ low).extractLsb' 0 8 = low := by
  constructor
  · ext i hi
    rw [BitVec.getElem_extractLsb']
    exact BitVec.getLsbD_append.trans (by simp [BitVec.getLsbD_eq_getElem hi])
  · ext i hi
    rw [BitVec.getElem_extractLsb']
    exact BitVec.getLsbD_append.trans (by simp [hi])

theorem stream_halves (stream : BitVec 12) : stream.extractLsb' 8 4 ++ stream.extractLsb' 0 8 = stream := by
  ext i hi
  simp only [BitVec.getElem_append, BitVec.getElem_extractLsb']
  split
  · simp [BitVec.getLsbD_eq_getElem hi]
  · rename_i high
    simp [Nat.add_sub_cancel' (not_lt.mp high), BitVec.getLsbD_eq_getElem hi]

theorem cell_ofBytes_toBytes (c : Cell) : Cell.ofBytes c.toBytes = c := by
  obtain ⟨start, marker, parity, high⟩ := header_fields c.start c.marker c.parity.bits (c.stream.extractLsb' 8 4)
  obtain ⟨continuity, reserved⟩ := halves_fields c.continuity c.reserved
  simp only [Cell.ofBytes, Cell.toBytes, byteAt, List.getD_cons_zero, List.getD_cons_succ, List.drop_succ_cons, List.drop_zero,
    start, marker, parity, high, continuity, reserved, stream_halves, parity_ofBits_bits]

theorem cell_toBytes_ofBytes {bytes : List Byte} (long : 4 ≤ bytes.length) : (Cell.ofBytes bytes).toBytes = bytes := by
  obtain ⟨b0, b1, b2, b3, rest, rfl⟩ : ∃ b0 b1 b2 b3 rest, bytes = b0 :: b1 :: b2 :: b3 :: rest := by
    match bytes, long with
    | b0 :: b1 :: b2 :: b3 :: rest, _ => exact ⟨b0, b1, b2, b3, rest, rfl⟩
  simp only [Cell.ofBytes, Cell.toBytes, byteAt, List.getD_cons_zero, List.getD_cons_succ, List.drop_succ_cons, List.drop_zero,
    parity_bits_ofBits, stream_fields, header_byte, halves_byte]

/-- Settles O15: the header's bit fields, each way, on the three bytes that hold them. -/
theorem cellBytesRoundTrip : Obligations.CellBytesRoundTrip :=
  ⟨cell_ofBytes_toBytes, fun _ length => cell_toBytes_ofBytes (by omega)⟩

/-! ### The data lane (R19, R184) -/

theorem exec_dataLaneCellSent {s : State} (running : s.running = true) : exec .dataLaneCellSent s = .next (sendDataCell s) :=
  whenRunning_of_running running _

theorem sendDataCell_forwarded {s : State} {c : Cell} {cells : List Cell} (waiting : s.lanes.waiting = c :: cells)
    (turn : s.rpq.queue = [] ∨ s.lanes.lastStatus = true) : sendDataCell s = sendForwarded c cells s := by
  rw [sendDataCell, waiting]
  rcases queue : s.rpq.queue with _ | ⟨r, records⟩
  · rfl
  · have last : s.lanes.lastStatus = true := turn.resolve_left (by simp [queue])
    simp [last]

theorem sendDataCell_status {s : State} {r : Record} {records : List Record} (queue : s.rpq.queue = r :: records)
    (turn : s.lanes.waiting = [] ∨ s.lanes.lastStatus = false) : sendDataCell s = sendStatus r records s := by
  rw [sendDataCell, queue]
  rcases waiting : s.lanes.waiting with _ | ⟨c, cells⟩
  · rfl
  · have last : s.lanes.lastStatus = false := turn.resolve_left (by simp [waiting])
    simp [last]

/-- A status cell sent while no RESET has stopped the handler (R184). -/
theorem sendStatus_of_running (r : Record) (rest : List Record) {s : State} (taking : s.rqh.stopped = false) :
    sendStatus r rest s = { s with
      lanes := { s.lanes with
        data := s.lanes.data ++ [statusCell r s.rpq.sentCells s.rpq.continuity s.draws], lastStatus := true }
      rpq := { s.rpq with
        queue := if r.cells ≤ s.rpq.sentCells + 1 then rest else s.rpq.queue
        sentCells := if r.cells ≤ s.rpq.sentCells + 1 then 0 else s.rpq.sentCells + 1
        continuity := s.rpq.continuity + 1#4 }
      draws := s.draws + 1 } := by
  simp [sendStatus, taking]

theorem cells_le_iff (r : Record) (k : Nat) : r.cells ≤ k + 1 ↔ r.bytes.length ≤ 156 * (k + 1) := by
  simp only [Record.cells, payloadBytes]
  omega

/-- Settles O16: the turn of the two sources, and the fields of a status cell. -/
theorem dataLaneAlternatesForwardedAndStatusCells : Obligations.DataLaneAlternatesForwardedAndStatusCells := by
  refine fun s running => ⟨fun c cells waiting turn => ?_, fun r records queue turn taking => ?_⟩
  · rw [exec_dataLaneCellSent running, sendDataCell_forwarded waiting turn]
    rfl
  · have short : ((r.bytes.drop (156 * s.rpq.sentCells)).take 156).length ≤ 156 := by simp
    have answered : exec .dataLaneCellSent s = .next (sendStatus r records s) := by
      rw [exec_dataLaneCellSent running, sendDataCell_status queue turn]
    rw [sendStatus_of_running r records taking] at answered
    refine ⟨_, statusCell r s.rpq.sentCells s.rpq.continuity s.draws, answered, rfl, ?_, rfl, rfl, rfl, rfl, rfl, rfl, ?_, ?_, rfl,
      ?_, ?_, rfl⟩
    · exact Bool.beq_eq_decide_eq _ _
    · simp [statusCell, padded, payloadBytes]
    · simp only [statusCell, padded, payloadBytes, List.length_append, List.length_map, List.length_range]
      omega
    · intro last
      simp [(cells_le_iff r _).mpr last]
    · intro more
      simp [(cells_le_iff r _).not.mpr more.not_ge]

/-! ### Request intake (R177, R178) -/

theorem exec_requestIntake {s : State} (running : s.running = true) : exec .requestIntake s = .next (intakeRequest s) :=
  whenRunning_of_running running _

theorem intakeRequest_of_not {s : State} (busy : s.rqh.inProgress ≠ none ∨ s.rqh.stopped = true ∨ s.rqh.intake = []) :
    intakeRequest s = s := by
  rw [intakeRequest]
  rcases queue : s.rqh.intake with _ | ⟨payload, rest⟩
  · rfl
  · have refused : s.canTake payload = false := by
      rcases busy with progress | stopped | empty
      · simp [State.canTake, progress]
      · simp [State.canTake, stopped]
      · simp [queue] at empty
    simp [refused]

theorem exec_requestIntake_of_not {s : State} (busy : s.rqh.inProgress ≠ none ∨ s.rqh.stopped = true ∨ s.rqh.intake = []) :
    exec .requestIntake s = .next s := by
  change whenRunning s intakeRequest = _
  rw [whenRunning, intakeRequest_of_not busy, ite_self]

theorem canTake_iff {s : State} {payload : List Byte} (idle : s.rqh.inProgress = none) (taking : s.rqh.stopped = false) :
    s.canTake payload = true ↔ s.rpq.queue.length + recordsNeeded payload ≤ 32 := by
  simp [State.canTake, idle, taking, State.held, Rqh.reserved]

/-- The request that a payload spells is read from the row of its code (R190). -/
theorem requestOf_eq_rows (payload : List Byte) : requestOf payload
    = (requestForm (fieldAt payload 0 1) (payload.drop 4)).bind fun row =>
        if fieldAt payload 2 2 = row.1 then some row.2 else none := by
  rw [requestOf]
  rcases requestForm (fieldAt payload 0 1) (payload.drop 4) with _ | ⟨length, request⟩ <;> rfl

theorem fieldAt_drop (bytes : List Byte) (k offset n : Nat) : fieldAt (bytes.drop k) offset n = fieldAt bytes (k + offset) n := by
  simp [fieldAt]

theorem langAt_drop (bytes : List Byte) (k : Nat) :
    langAt (bytes.drop 4) k = ⟨byteAt bytes (4 + k), byteAt bytes (5 + k), byteAt bytes (6 + k)⟩ := by
  simp only [langAt, byteAt, List.getD_eq_getElem?_getD, List.getElem?_drop]
  congr 3 <;> omega

/-- Settles O17: request intake by its guards, and the rows of the request formats. -/
theorem intakeTakesTheHeadRequestWhenItsRecordsHaveRoom : Obligations.IntakeTakesTheHeadRequestWhenItsRecordsHaveRoom := by
  refine ⟨fun payload => ?_, fun s busy => exec_requestIntake_of_not busy, fun s payload rest running queue idle taking => ?_⟩
  · rw [requestOf_eq_rows]
    generalize fieldAt payload 0 1 = code
    unfold requestForm
    split
    case h_30 =>
      intro n1 n2 n4 lang rows
      rw [List.find?_eq_none.mpr]
      · rfl
      · simp only [rows, List.forall_mem_cons, List.not_mem_nil, false_imp_iff, implies_true, and_true, beq_iff_eq]
        and_intros <;> (rintro rfl; contradiction)
    all_goals
      simp only [fieldAt_drop, langAt_drop, Nat.add_zero]
      rfl
  · have able := canTake_iff (payload := payload) idle taking
    have step : exec .requestIntake s = .next (if s.canTake payload then takeRequest payload rest s else s) := by
      rw [exec_requestIntake running, intakeRequest, queue]
    refine ⟨fun room r spelled => ?_, fun room malformed => ?_, fun full => ?_⟩
    · rw [step, if_pos (able.mpr room), takeRequest, spelled]
      rfl
    · rw [step, if_pos (able.mpr room), takeRequest, malformed]
    · rw [step, if_neg (able.not.mpr (Nat.not_le.mpr full))]

/-! ### RESET and SET_EVENT_MASK (R183, R185) -/

theorem exec_reset_of_asking {s : State} {tag : Byte} {n : Nat} (h : s.asking tag .reset n) :
    exec .reset s = .next (resetRequest s) := by
  simp only [exec, execReset, whenRunning_of_running h.1, asked_eq s h.2]

theorem exec_setEventMask_of_asking {s : State} {tag : Byte} {n classes enable : Nat}
    (h : s.asking tag (.setEventMask classes enable) n) :
    exec .setEventMask s = .next (setEventMask classes enable s) := by
  simp only [exec, execSetEventMask, whenRunning_of_running h.1, asked_eq s h.2]

theorem mem_classesOf (c : EventClass) (byte : Nat) : c ∈ classesOf byte ↔ byte.testBit c.code = true := by
  have listed : c ∈ EventClass.all := by cases c <;> decide
  simp [classesOf, listed]

/-- Settles O18: both requests by their one equation. -/
theorem resetStopsIntakeAndMaskReplacesTheClassSet : Obligations.ResetStopsIntakeAndMaskReplacesTheClassSet := by
  refine fun s tag n => ⟨fun h => ?_, fun stopped => exec_requestIntake_of_not (.inr (.inl stopped)), fun classes enable h => ⟨fun out => ?_, fun inside => ?_⟩⟩
  · rw [exec_reset_of_asking h, resetRequest, reply_eq s .ok h.2]
  · rw [exec_setEventMask_of_asking h, setEventMask, if_pos out, reply_eq s .badParam h.2]
  · have answered : exec .setEventMask s = .next (State.replied
        { s with rpq := { s.rpq with classes := classesOf classes, enabled := enable == 1 } } tag
        (.setEventMask classes enable) .ok []) := by
      rw [exec_setEventMask_of_asking h, setEventMask, if_neg (Nat.not_lt.mpr inside)]
      exact congrArg _ (reply_eq { s with rpq := { s.rpq with classes := classesOf classes, enabled := enable == 1 } } .ok h.2)
    exact ⟨_, answered, fun c => mem_classesOf c classes, beq_iff_eq, rfl⟩

/-! ### READ_TABLE and the control words (R99, R113, R191) -/

theorem encKeyRecord_hideWords (r : KeyRecord) : encKeyRecord r.hideWords = encKeyRecord r := by
  simp [encKeyRecord, KeyRecord.hideWords, encSlot]

theorem tableKeys_hideWords (s : State) : tableKeys s.hideWords = tableKeys s := by
  have record (r : Option KeyRecord) : encMarked encKeyRecord (r.map KeyRecord.hideWords) = encMarked encKeyRecord r := by
    cases r with
    | none => rfl
    | some r => simp [encMarked, encKeyRecord_hideWords]
  simp only [tableKeys, State.hideWords, record]

/-- No table holds a control word. -/
theorem tableOf_hideWords (s : State) (id : Nat) : tableOf s.hideWords id = tableOf s id := by
  unfold tableOf
  split <;> first
    | rfl
    | exact congrArg some (tableKeys_hideWords s)

/-- What a reply leaves in the reply queue depends on the queue and the request in progress alone. -/
theorem answerRecords_rpq_congr {s t : State} (rpq : t.rpq = s.rpq) (rqh : t.rqh = s.rqh) (result : Result) (endMark : Bool)
    (datas : List (List Byte)) : (answerRecords result endMark datas t).rpq = (answerRecords result endMark datas s).rpq := by
  rw [answerRecords, answerRecords, rqh]
  split
  · exact rpq
  · simp only [rpq]

/-- What the reply queue holds after a READ_TABLE is the same of a part with its control words hidden. -/
theorem readTable_rpq_hideWords (s : State) (table first count : Nat) :
    (readTable table first count s.hideWords).rpq = (readTable table first count s).rpq := by
  have answered := answerRecords_rpq_congr (s := s) (t := s.hideWords) rfl rfl
  rw [readTable, readTable, tableOf_hideWords]
  split
  · exact answered _ _ _
  · split
    · exact answered _ _ _
    · simpa using answered _ _ _

theorem exec_readTable (s : State) : exec .readTable s = .next (if s.running then
    match s.asked with
    | some (.readTable table first count) => readTable table first count s
    | _ => s
    else s) := by
  simp only [exec, execReadTable, whenRunning] <;> rfl

/-- Settles O13: the reply queue after READ_TABLE is one of the part with its control words hidden. -/
theorem noReadShowsAControlWord : Obligations.NoReadShowsAControlWord := by
  have hidden (s t : State) (answered : exec .readTable s = .next t) :
      ∃ u, exec .readTable s.hideWords = .next u ∧ u.rpq = t.rpq := by
    rw [exec_readTable] at answered
    cases answered
    refine ⟨_, exec_readTable _, ?_⟩
    have running : s.hideWords.running = s.running := rfl
    have asked : s.hideWords.asked = s.asked := rfl
    rw [running, asked]
    split
    · split
      · exact readTable_rpq_hideWords s _ _ _
      · rfl
    · rfl
  intro s s' t t' same answered answered'
  obtain ⟨u, hu, rpq⟩ := hidden s t answered
  obtain ⟨u', hu', rpq'⟩ := hidden s' t' answered'
  rw [same, hu'] at hu
  cases hu
  exact rpq.symm.trans rpq'

/-! ### Resets and supply (R165, R185, R186) -/

/-- Settles O20: each of the commands by its definition. -/
theorem coldStartSetsEverythingAndPinAndSupplyHoldThePart : Obligations.ColdStartSetsEverythingAndPinAndSupplyHoldThePart := by
  refine ⟨fun s => rfl, fun s => ⟨?_, rfl, rfl, fun off => ?_⟩⟩
  · refine ⟨_, rfl, ?_⟩
    rw [pinReset]
    split <;> rfl
  · have stopped : s.running = false := by
      rcases off with unpowered | low
      · simp [State.running, unpowered]
      · simp [State.running, low]
    refine ⟨?_, by simp [State.ready, stopped], by simp [State.attention, stopped]⟩
    change whenRunning s sendDataCell = _
    simp [whenRunning, stopped]

/-- The part that a warm reset leaves, but for its supply, its data lane and its draws. -/
theorem exec_warmReset {s : State} {cause : ResetCause} (due : cause = .power ∨ (cause = .pin ∧ s.running = true)
    ∨ (cause = .request ∧ s.running = true ∧ resetReplyNext s = true)) : ∃ (power : _) (lanes : Lanes) (draws : Nat),
      lanes.waiting = [] ∧ lanes.lastStatus = false
        ∧ exec (.warmReset cause) s = .next { warmResetFrom cause s with power, lanes, draws } := by
  rcases due with rfl | ⟨rfl, running⟩ | ⟨rfl, running, next⟩
  · exact ⟨_, _, _, rfl, rfl, rfl⟩
  · refine ⟨{ s.power with pinLow := true }, s.lanes.cleared, s.draws, rfl, rfl, ?_⟩
    change Host.Outcome.next (pinReset s) = _
    rw [pinReset, if_pos (by simpa [State.running] using running)]
    rfl
  · have answered : exec (.warmReset .request) s = .next (sendDataCell s) := by
      simp only [exec, execWarmReset, whenRunning_of_running running, next, if_true]
    rw [answered]
    rw [resetReplyNext] at next
    split at next
    · rename_i r rest queue
      simp only [Bool.and_eq_true, Bool.or_eq_true, List.isEmpty_iff, Bool.not_eq_true', decide_eq_true_eq] at next
      obtain ⟨⟨⟨stopped, reset⟩, last⟩, turn⟩ := next
      refine ⟨s.power, { s.lanes with
        data := s.lanes.data ++ [statusCell r s.rpq.sentCells s.rpq.continuity s.draws], waiting := [], lastStatus := false },
        s.draws + 1, rfl, rfl, ?_⟩
      rw [sendDataCell_status queue turn]
      simp only [sendStatus, last, reset, stopped, decide_true, Bool.and_true, if_true]
      rfl
    · cases next

/-- Settles O21: every reset goes through `warmResetFrom` or the cold start. -/
theorem warmResetKeepsTheRetainedStoreAndResetLeavesTheSixFixedRoutes :
    Obligations.WarmResetKeepsTheRetainedStoreAndResetLeavesTheSixFixedRoutes := by
  refine ⟨fun s cause due => ?_, fun s t answered => ?_⟩
  · obtain ⟨power, lanes, draws, waiting, lastStatus, answered⟩ := exec_warmReset due
    exact ⟨_, answered, rfl, rfl, rfl, rfl, rfl, rfl, rfl, rfl, rfl, rfl, rfl, rfl, rfl, rfl, rfl, rfl, rfl, waiting, lastStatus, rfl⟩
  · have routes : t.routes = State.reset.routes := by
      rcases answered with cold | power | ⟨running, pin⟩ | ⟨running, next, request⟩
      · cases cold
        rfl
      · cases power
        rfl
      · obtain ⟨power, lanes, draws, -, -, answered⟩ := exec_warmReset (.inr (.inl ⟨rfl, running⟩))
        cases answered.symm.trans pin
        rfl
      · obtain ⟨power, lanes, draws, -, -, answered⟩ := exec_warmReset (.inr (.inr ⟨rfl, running, next⟩))
        cases answered.symm.trans request
        rfl
    rw [routes]
    rfl

end Sys2Proof.Machine
end

section
/-! The sixteen tables of READ_TABLE (R180, R191): the model's coding of each against the fields that its rule lists. -/

namespace Sys2Proof.Machine

/-! ### Shared codings (R191) -/

theorem encMarked_eq {α : Type} (enc : α → List Byte) (o : Option α) : encMarked enc o = markFree (o.map enc) := by
  cases o <;> rfl

theorem encOption_eq {α : Type} (width : Nat) (enc : α → List Byte) (o : Option α) :
    encOption width enc o = presence width (o.map enc) := by
  cases o <;> rfl

/-- A field without a fixed width that may be absent, with the number of bytes of its blank one. -/
theorem encMaybe_eq {α : Type} (enc : α → List Byte) (blank : α) (o : Option α) {width : Nat}
    (long : (enc blank).length = width) : encMaybe enc blank o = presence width (o.map enc) := by
  cases o with
  | none => simp [encMaybe, presence, List.map_const', long]
  | some v => rfl

theorem encLang_length (l : Lang) : (encLang l).length = 4 := rfl

theorem encOptLang_eq (l : Option Lang) : encOptLang l = language l := by
  cases l <;> rfl

theorem encAdvisory_eq (flags : Advisory) : encAdvisory flags = advisory flags := rfl

theorem encWindow_eq : encWindow = fun isOpen => [if isOpen = true then 0#8 else 1#8] := by
  funext isOpen
  cases isOpen <;> rfl

theorem encMark_eq_encFlag (b : Bool) : encCode (if b then 1 else 0) = encFlag b := by
  cases b <;> rfl

theorem encMark_eq (b : Bool) : encCode (if b then 0 else 1) = [if b = true then 0#8 else 1#8] := by
  cases b <;> rfl

theorem encPort_eq (p : Port) : encCode (portCode p) = named [.a, .b, .l] p := by
  cases p <;> rfl

theorem encRouteState_eq (x : RouteState) : encCode x.code = named [.live, .armed] x := by
  cases x <;> rfl

theorem encOwner_eq (x : Owner) : encCode x.code = named [.fixed, .change, .host] x := by
  cases x <;> rfl

theorem encSync_eq (x : SyncState) : encCode x.code = named [.hunt, .verify, .locked] x := by
  cases x <;> rfl

theorem encRecovery_eq (x : Recovery) : encCode x.code = named [.free, .acquire, .locked, .holdover] x := by
  cases x <;> rfl

theorem encCause_eq (x : ResetCause) : encCode (causeCode x) = named [.power, .pin, .request, .cold] x := by
  cases x <;> rfl

theorem encVerdict_eq (x : Verdict) : encCode x.code = named [.unknown, .entitled, .notEntitled] x := by
  cases x <;> rfl

theorem encMode_eq (x : BudgetMode) : encCode x.code = named [.none, .daily, .once] x := by
  cases x <;> rfl

theorem encComponentKind_eq (x : ComponentKind) : encCode x.code = named [.video, .audio, .data] x := by
  cases x <;> rfl

theorem encEngineState_eq (x : Engine) : encCode x.code = named [.idle, .tuning, .waitMap, .waitKey, .waitSplice] x := by
  cases x <;> rfl

theorem encParity_eq (x : Option Slot) : encParity x = parityField x := by
  rcases x with _ | _ | _ <;> rfl

theorem length_beBytes (n v : Nat) : (beBytes n v).length = n := by
  induction n generalizing v with
  | zero => rfl
  | succ n ih => simp [beBytes, ih]

theorem encOptNat_length {n : Nat} (v : Option Nat) : (encOptNat n v).length = n + 1 := by
  cases v <;> simp [encOptNat, encOption, length_beBytes]

/-! ### The ports and the routes -/

theorem tableIdent_eq (s : State) : tableIdent s = s.identRecords := by
  simp only [tableIdent, encCause_eq]
  rfl

theorem tablePorts_eq (s : State) : tablePorts s = s.portRecords := by
  simp only [tablePorts, encSerial, encStrobed, encSync_eq, encCounts, encCount, State.portRecords]
  rfl

theorem classes_map_encSectionClasses (r : Route) : r.use.classes.map encSectionClasses = r.classSet := by
  rw [Route.classSet]
  rcases r.use with _ | _ | _ | classes | _ | _ | _ <;> rfl

theorem encBinding_eq (b : Binding) : encBinding b = presence 1 (match b with
    | .active => some [0#8]
    | .arming => some [1#8]
    | .none => none) := by
  cases b <;> rfl

theorem encUse_eq (u : RouteUse) : encCode u.code = (match u with
    | .video => [0#8]
    | .audio => [1#8]
    | .data => [2#8]
    | .sections _ => [3#8]
    | .stamps => [4#8]
    | .control => [5#8]
    | .pass => [6#8]) := by
  cases u <;> rfl

theorem tableRoutes_eq (s : State) : tableRoutes s = s.routeRecords := by
  rw [tableRoutes, State.routeRecords]
  congr 1
  funext entry
  rw [encMarked_eq]
  congr 2
  funext r
  simp only [encRoute, encPort_eq, encUse_eq, encOption_eq, classes_map_encSectionClasses, encRouteState_eq, encOwner_eq,
    encBinding_eq, encCount] <;> rfl

theorem encPool_eq (s : State) : encPool s
    = beBytes 1 (16 - (s.routes.countP entryHoldsBuffer + s.queues.held))
      ++ SectionClass.all.flatMap (fun c => beBytes 1 ((s.queues.of c).length - 1))
      ++ SectionClass.all.flatMap fun c => encFlag (!(s.queues.of c).isEmpty) := rfl

theorem entryHoldsBuffer_eq : entryHoldsBuffer = fun entry => entry.any fun r => r.ctx.any fun c => match c.asm with
    | .assembling .. => true
    | _ => false := by
  funext entry
  cases entry <;> rfl

theorem encSectionClasses_getD (r : Route) : encSectionClasses (r.use.classes.getD []) = r.classSet.getD [0#8] := by
  rw [← classes_map_encSectionClasses]
  cases r.use.classes <;> rfl

theorem encAssembly_eq (a : Assembly) : encCode a.code ++ encOptNat 2 a.collected = (match a with
    | .idle => [0#8, 0#8, 0#8, 0#8]
    | .assembling _ _ bytes => [1#8, 1#8] ++ beBytes 2 bytes.length
    | .skipping => [2#8, 0#8, 0#8, 0#8]) := by
  cases a <;> rfl

theorem encContext_eq (r : Route) (c : Context) : encContext r c =
    named [.a, .b, .l] r.port ++ beBytes 2 r.stream ++ named [.live, .armed] r.state ++ r.classSet.getD [0#8]
      ++ (match c.asm with
        | .idle => [0#8, 0#8, 0#8, 0#8]
        | .assembling _ _ bytes => [1#8, 1#8] ++ beBytes 2 bytes.length
        | .skipping => [2#8, 0#8, 0#8, 0#8])
      ++ [c.counts.delivered, c.counts.classSkip, c.counts.lengthSkip, c.counts.addressSkip, c.counts.noBuffer,
        c.counts.abandoned, c.counts.stray, c.counts.crcFail, c.counts.overrun].flatMap (beBytes 4) := by
  rw [encContext, List.append_assoc _ (encCode c.asm.code), encAssembly_eq, encPort_eq, encRouteState_eq, encSectionClasses_getD]
  rfl

theorem tableSections_eq (s : State) : tableSections s = s.sectionRecords := by
  have contexts : (fun entry : Option Route => encMarked id (entry.bind fun r => r.ctx.map (encContext r)))
      = fun entry => markFree (entry.bind fun r => r.ctx.map fun c =>
        let n := c.counts
        named [.a, .b, .l] r.port ++ beBytes 2 r.stream ++ named [.live, .armed] r.state ++ r.classSet.getD [0#8]
          ++ (match c.asm with
            | .idle => [0#8, 0#8, 0#8, 0#8]
            | .assembling _ _ bytes => [1#8, 1#8] ++ beBytes 2 bytes.length
            | .skipping => [2#8, 0#8, 0#8, 0#8])
          ++ [n.delivered, n.classSkip, n.lengthSkip, n.addressSkip, n.noBuffer, n.abandoned, n.stray, n.crcFail,
            n.overrun].flatMap (beBytes 4)) := by
    funext entry
    rw [encMarked_eq, Option.map_id]
    have context (r : Route) := funext (encContext_eq r)
    simp only [context] <;> rfl
  rw [tableSections, contexts, encPool_eq, entryHoldsBuffer_eq]
  rfl

/-! ### The time base and the schedule -/

theorem tableTime_eq (s : State) : tableTime s = s.timeRecords := by
  have wall : encMaybe encWallRecord s.tmb (if s.tmb.wallValid then some s.tmb else none)
      = presence 27 (if s.tmb.wallValid = true then some (encWallRecord s.tmb) else none) := by
    rw [encMaybe_eq _ _ _ (width := 27) (by simp [encWallRecord, beBytesInt, length_beBytes]), apply_ite (Option.map _)]
    rfl
  simp only [tableTime, State.timeRecords, wall, encRecovery_eq, encOption_eq, encCount, encCounts]
  rfl

theorem reminders_length (p : Scp) : p.reminders.length = p.target.countP fun e => match e.kind with
    | .reminder .. => true
    | .device _ => false := by
  rw [Scp.reminders, List.countP_eq_length_filter]
  congr 2
  funext e
  rcases kind : e.kind with _ | _ <;> simp [Entry.reminderId, kind]

theorem encEntry_eq (e : Entry) : encEntry e = (match e.kind with
      | .reminder id period mark => [0#8] ++ beBytes 4 e.due ++ encOptNat 4 (some period) ++ encOptNat 2 (some id)
          ++ (encOptNat 2 e.service ++ encOptNat 2 e.event) ++ [1#8] ++ encFlag mark
      | .device k => [BitVec.ofNat 8 (1 + [DeviceKind.eventEnd, .dayRoll, .entExpiry, .overrideEnd, .offsetChange].idxOf k)]
          ++ beBytes 4 e.due ++ encOptNat 4 none ++ encOptNat 2 none ++ (encOptNat 2 e.service ++ encOptNat 2 e.event)
          ++ [0#8, 0#8]) := by
  rcases kind : e.kind with ⟨id, period, mark⟩ | k
  · simp [encEntry, kind, EntryKind.code, EntryKind.period, EntryKind.held, Entry.reminderId, encCode, encOption]
  · cases k <;> simp [encEntry, kind, EntryKind.code, EntryKind.period, EntryKind.held, Entry.reminderId, encCode, encOption,
      DeviceKind.code]

theorem tableSchedule_eq (s : State) : tableSchedule s = s.scheduleRecords := by
  simp only [tableSchedule, State.scheduleRecords, reminders_length, funext encEntry_eq] <;> rfl

theorem tableRanges_eq (s : State) : tableRanges s = s.rangeRecords := by
  simp only [tableRanges, State.rangeRecords, encWindow_eq]
  rfl

/-! ### The directory, the key records and the account -/

theorem tableDirectory_eq (s : State) : tableDirectory s = s.directoryRecords := rfl

theorem encSlot_eq (word : Option ControlWord) : encSlot word = encFlag word.isSome := by
  cases word <;> rfl

theorem encCriteria_eq : encCriteria = fun c => match c with
    | .tiers list => [0#8] ++ encList (beBytes 2) list
    | .event id price => [1#8] ++ beBytes 2 id ++ beBytes 2 price := by
  funext c
  cases c <;> rfl

theorem tableKeys_eq (s : State) : tableKeys s = s.keyRecords := by
  have criteria (c : Option Criteria) : encMaybe encCriteria (.tiers []) c = presence 2 (c.map encCriteria) :=
    encMaybe_eq _ _ _ rfl
  have record : encKeyRecord = fun r => _ := funext fun r => by
    rw [encKeyRecord, criteria, encCriteria_eq, encVerdict_eq, encSlot_eq, encSlot_eq, encParity_eq]
  simp only [tableKeys, State.keyRecords, encMarked_eq, record] <;> rfl

theorem tableCredit_eq (s : State) : tableCredit s = s.creditRecords := by
  simp only [tableCredit, State.creditRecords, encOption_eq, encCounts] <;> rfl

/-! ### The profiles and the gate -/

theorem encProfile_eq (p : Profile) : encProfile p
    = beBytes 1 p.ceiling ++ advisory p.blocked ++ encFlag p.blockUnrated ++ encFlag p.follow
      ++ named [.none, .daily, .once] p.mode ++ beBytes 2 p.budget ++ beBytes 2 p.latch ++ beBytes 2 p.used
      ++ beBytes 1 p.seconds ++ encFlag p.warned ++ encList (beBytes 2) p.locked := by
  simp only [encProfile, encAdvisory_eq, encMark_eq_encFlag, encMode_eq]

theorem encOverride_eq (o : Override) : encOverride o
    = [if o.scope.isSome = true then 0#8 else 1#8] ++ encOptNat 2 o.scope ++ beBytes 5 o.stop := by
  rw [encOverride, encMark_eq]

theorem tableProfiles_eq (s : State) : tableProfiles s = s.profileRecords := by
  simp only [tableProfiles, State.profileRecords, encPlu, funext encProfile_eq, encOption_eq, funext encOverride_eq, encWindow_eq,
    encCounts] <;> rfl

theorem encComponents_eq (m : ProgMap) : encList encComponent m.components = encList (fun k : Component =>
    beBytes 2 k.stream ++ named [.video, .audio, .data] k.kind ++ language k.lang) m.components := by
  have component : encComponent = fun k => beBytes 2 k.stream ++ named [.video, .audio, .data] k.kind ++ language k.lang :=
    funext fun k => by rw [encComponent, encComponentKind_eq, encOptLang_eq]
  rw [component]

theorem encMask_eq (mask : Bool) : encMask mask = [if mask = true then 15#8 else 0#8] := by
  cases mask <;> rfl

theorem encPresented_eq (p : Option Presentation) : encMaybe encPresentation .blank p = presence 32 (p.map fun p =>
      beBytes 2 p.service ++ beBytes 4 p.frequency ++ beBytes 2 p.mapStream ++ beBytes 1 p.map.version
        ++ encList (fun k : Component =>
          beBytes 2 k.stream ++ named [.video, .audio, .data] k.kind ++ language k.lang) p.map.components
        ++ encOptNat 2 p.map.keyStream ++ encOptNat 2 p.live.video ++ encOptNat 2 p.live.audio
        ++ encOptNat 2 p.live.data ++ language p.audio ++ beBytes 4 p.since.toNat ++ encFlag p.forced) := by
  rw [encMaybe_eq _ _ _ (width := 32) rfl]
  congr 2
  funext p
  simp only [encPresentation, encComponents_eq, encLaneStreams, encOptLang_eq, List.append_assoc]

theorem encChange_eq (tuning : Prop) [Decidable tuning] (c : Change) : encChange (decide tuning) c
    = beBytes 2 c.service ++ beBytes 4 c.frequency ++ beBytes 1 c.modulation ++ beBytes 2 c.mapStream
      ++ language c.audio ++ beBytes 4 c.phaseStart.toNat
      ++ encOptNat 4 (if tuning then some c.tuningTarget else none)
      ++ presence 1 (if tuning then some (encFlag c.readyMark) else none)
      ++ presence 1 (if tuning then some (encFlag c.lockMark) else none)
      ++ presence 5 (c.map.map fun m => encList (fun k : Component =>
          beBytes 2 k.stream ++ named [.video, .audio, .data] k.kind ++ language k.lang) m.components
        ++ encOptNat 2 m.keyStream ++ beBytes 1 m.version)
      ++ presence 1 (if c.map.isSome = true then some (parityField c.parity) else none) := by
  have map : encMaybe encMap .blank c.map = presence 5 (c.map.map fun m => encList (fun k : Component =>
        beBytes 2 k.stream ++ named [.video, .audio, .data] k.kind ++ language k.lang) m.components
      ++ encOptNat 2 m.keyStream ++ beBytes 1 m.version) := by
    rw [encMaybe_eq _ _ _ (width := 5) rfl]
    congr 2
    funext m
    rw [encMap, encComponents_eq]
  simp only [encChange, encOptLang_eq, encOption_eq, map, decide_eq_true_eq, apply_ite (Option.map _), Option.map_some,
    Option.map_none, encParity_eq]

theorem encChange_length (tuning : Bool) : (encChange tuning .blank).length = 35 := by
  cases tuning <;> rfl

theorem encEngine_change_eq (c : Cce) : encMaybe (encChange (c.engine == .tuning)) .blank c.change
    = presence 35 (c.change.map fun change => encChange (decide (c.engine = .tuning)) change) := by
  rw [encMaybe_eq _ _ _ (encChange_length _), beq_eq_decide]

theorem encPendingTune_eq (p : Option (Nat × Option Lang)) : encMaybe encPendingTune (0, none) p
    = presence 7 (p.map fun (service, audio) => beBytes 2 service ++ language audio) := by
  rw [encMaybe_eq _ _ _ (width := 7) rfl]
  congr 2
  funext ⟨service, audio⟩
  rw [encPendingTune, encOptLang_eq]

theorem tableGate_eq (s : State) : tableGate s = s.gateRecords := by
  simp only [tableGate, encPgt, encEngine, encPresented_eq, encPendingTune_eq, encEngineState_eq, encEngine_change_eq,
    encChange_eq, encMask_eq, encMark_eq, encGate, encCounts] <;> rfl

/-! ### The guide store -/

theorem tableGuide_eq (s : State) : tableGuide s = s.guideRecords := by
  simp only [tableGuide, encGuideHeader, encMarked_eq, encOption_eq, nowEvent_eq_find, nextEvent_eq_find,
    State.guideRecords, encCounts]
  congr 2
  congr 1
  funext k
  congr 2
  funext r
  rw [encGuideService, State.serviceEvents, Gds.eventsOf, List.countP_eq_length_filter]
  rfl

/-! ### The read -/

theorem tableOf_eq (s : State) (id : Nat) : tableOf s id = s.records id := by
  unfold tableOf
  split
  case h_17 beyond => 
    have long : 16 ≤ id := by
      by_contra short
      interval_cases id <;> simp_all
    rw [State.records, List.getElem?_eq_none (by simpa using long)]
  · exact congrArg some (tableIdent_eq s)
  · exact congrArg some (tablePorts_eq s)
  · exact congrArg some (tableRoutes_eq s)
  · exact congrArg some (tableSections_eq s)
  · exact congrArg some (tableTime_eq s)
  · exact congrArg some (tableSchedule_eq s)
  · exact congrArg some (tableRanges_eq s)
  · exact congrArg some (tableDirectory_eq s)
  · exact congrArg some (tableKeys_eq s)
  · rfl
  · rfl
  · rfl
  · exact congrArg some (tableCredit_eq s)
  · exact congrArg some (tableProfiles_eq s)
  · exact congrArg some (tableGate_eq s)
  · exact congrArg some (tableGuide_eq s)

/-- The slice of a table, record by record. -/
theorem tableSlice_eq (records : List (List Byte)) (first count : Nat) : tableSlice records first count
    = (List.range (min count (records.length - first))).flatMap fun k =>
        encIndexed (first + k) (records.getD (first + k) []) := by
  rw [tableSlice, List.flatMap_def, List.flatMap_def]
  congr 1
  refine List.ext_getElem (by simp) fun k inside inside' => ?_
  simp only [List.length_map, List.length_range, lt_min_iff] at inside'
  have held : first + k < records.length := by omega
  simp [List.getD_eq_getElem?_getD, held]

theorem exec_readTable_of_asking {s : State} {tag : Byte} {n table first count : Nat}
    (h : s.asking tag (.readTable table first count) n) :
    exec .readTable s = .next (readTable table first count s) := by
  simp only [exec, execReadTable, whenRunning_of_running h.1, asked_eq s h.2]

/-- Settles O19: the table is that of its rule, and the reply holds its slice. -/
theorem readTableReturnsTheRecordsOfItsTable : Obligations.ReadTableReturnsTheRecordsOfItsTable := by
  refine fun s tag n table first count h => ⟨fun bad => ?_, fun records table_eq low high => ?_⟩
  · rw [exec_readTable_of_asking h, readTable, tableOf_eq]
    split
    · rw [reply_eq s .badParam h.2]
    · rename_i found
      rw [if_pos (by simpa [found] using bad), reply_eq s .badParam h.2]
  · refine ⟨_, _, ?_, rfl, rfl⟩
    have inside : ¬ (decide (count = 0) || decide (count > 512)) = true := by simp; omega
    rw [exec_readTable_of_asking h, readTable, tableOf_eq, table_eq]
    simp only [if_neg inside, tableSlice_eq, answerRecords, h.2]
    rw [clearTrimLimit, timeTable]
    split
    · rename_i cleared
      simp [cleared, reachesEnd, Request.code]
    · rename_i stands
      have kept : (!(table == 4 && first == 0)) = true := by simpa [imp_iff_not_or] using stands
      simp [kept, reachesEnd, Request.code]

end Sys2Proof.Machine
end

section
/-! Sync on the ports, the watches on LOCAL time, and a cell as it arrives (R1 to R7, R11, R12, R43). -/

namespace Sys2Proof.Machine

/-! ### The record of a serial port -/

theorem serial_withSerial (port : Port) (f : SerialPort → SerialPort) (s : State) :
    (withSerial port f s).cin.serial port = (s.cin.serial port).map f := by
  cases port <;> rfl

theorem serial_withSerial_of_ne {port other : Port} (differs : other ≠ port) (f : SerialPort → SerialPort) (s : State) :
    (withSerial port f s).cin.serial other = s.cin.serial other := by
  cases port <;> cases other <;> first | rfl | exact absurd rfl differs

theorem withSerial_withSerial (port : Port) (f g : SerialPort → SerialPort) (s : State) :
    withSerial port f (withSerial port g s) = withSerial port (fun p => f (g p)) s := by
  cases port <;> rfl

theorem withSerial_congr {port : Port} {p : SerialPort} {s : State} {f g : SerialPort → SerialPort}
    (held : s.cin.serial port = some p) (same : f p = g p) : withSerial port f s = withSerial port g s := by
  cases port with
  | a =>
    cases held
    simp only [withSerial, same]
  | b =>
    cases held
    simp only [withSerial, same]
  | l => rfl

theorem withSerial_of_fixed {port : Port} {f : SerialPort → SerialPort} {s : State}
    (fixed : ∀ p, s.cin.serial port = some p → f p = p) : withSerial port f s = s := by
  cases port with
  | a =>
    have same : f s.cin.a = s.cin.a := fixed _ rfl
    simp only [withSerial, same]
  | b =>
    have same : f s.cin.b = s.cin.b := fixed _ rfl
    simp only [withSerial, same]
  | l => rfl

/-- A changed port record leaves Port L and the unkeyed count. -/
theorem withSerial_cin_others (port : Port) (f : SerialPort → SerialPort) (s : State) :
    (withSerial port f s).cin.l = s.cin.l ∧ (withSerial port f s).cin.unkeyedA = s.cin.unkeyedA := by
  cases port <;> exact ⟨rfl, rfl⟩

theorem withSerial_eq (port : Port) (f : SerialPort → SerialPort) (s : State) :
    withSerial port f s = { s with cin := (withSerial port f s).cin } := by
  cases port <;> rfl

theorem ne_l_of_serial {port : Port} {p : SerialPort} {s : State} (held : s.cin.serial port = some p) : port ≠ .l := by
  rintro rfl
  cases held

theorem countReceived_of_serial {port : Port} (serial : port ≠ .l) (s : State) :
    countReceived port s = withSerial port (fun p => { p with received := satInc max32 p.received }) s := by
  cases port <;> first | rfl | exact absurd rfl serial

theorem countUnrouted_of_serial {port : Port} (serial : port ≠ .l) (s : State) :
    countUnrouted port s = withSerial port (fun p => { p with unrouted := satInc max32 p.unrouted }) s := by
  cases port <;> first | rfl | exact absurd rfl serial

theorem countParityError_of_serial {port : Port} (serial : port ≠ .l) (s : State) :
    countParityError port s = withSerial port (fun p => { p with parityErrors := satInc max32 p.parityErrors }) s := by
  cases port <;> first | rfl | exact absurd rfl serial

/-! ### The watches on LOCAL time (R6, R43) -/

/-- Settles O28: both watches by their conditions. -/
theorem localWatchesReportIdleAndHoldover : Obligations.LocalWatchesReportIdleAndHoldover := by
  refine ⟨fun s port p since running held locked watched due => ?_, fun s since running tracking stamped due => ?_⟩
  · have out : ((s.cin.serial port).any fun p => idleDue p s.tmb.localTime) = true := by
      rw [held, Option.any_some, idleDue, locked, watched, Option.any_some, elapsed, decide_eq_true due]
      rfl
    simp only [exec, execIdleWatchExpiry, whenRunning_of_running running, out, if_true]
    rfl
  · have out : holdoverDue s.tmb = true := by
      rw [holdoverDue, stamped, Option.any_some, elapsed, decide_eq_true due, Bool.and_true]
      rcases tracking with acquire | locked
      · rw [acquire]
        rfl
      · rw [locked]
        rfl
    simp only [exec, execHoldoverWatchExpiry, whenRunning_of_running running, out, if_true]
    rfl

/-! ### The search for sync (R2) -/

theorem exec_syncSearch {s : State} (running : s.running = true) (port : Port) (byte : Byte) :
    exec (.syncSearch port byte) s = .next (searchByte port byte s) := whenRunning_of_running running _

/-- Whether the bytes kept refute a candidate at their start. -/
def candidateStands (bytes : List Byte) : Bool :=
  bytes[0]?.any (· == syncByte) && syncAt bytes cellBytes && syncAt bytes (2 * cellBytes)

theorem scan_of_stands {bytes : List Byte} (stands : candidateStands bytes = true) : scan bytes = bytes := by
  cases bytes with
  | nil => rfl
  | cons b rest =>
    simp only [candidateStands, List.getElem?_cons_zero, Option.any_some] at stands
    rw [scan, if_pos stands]

theorem scan_of_refuted {bytes : List Byte} (refuted : candidateStands bytes = false) : scan bytes = scan (bytes.drop 1) := by
  cases bytes with
  | nil => rfl
  | cons b rest =>
    simp only [candidateStands, List.getElem?_cons_zero, Option.any_some] at refuted
    rw [scan, if_neg (by simp [refuted])]
    rfl

/-- The search keeps the bytes from the first candidate that stands, and none where every one is refuted. -/
theorem scan_eq_drop (bytes : List Byte) : ∃ k ≤ bytes.length, (∀ j < k, candidateStands (bytes.drop j) = false)
    ∧ scan bytes = bytes.drop k ∧ (k < bytes.length → candidateStands (bytes.drop k) = true) := by
  induction bytes with
  | nil => exact ⟨0, le_rfl, by simp, rfl, by simp⟩
  | cons b rest ih =>
    rcases stands : candidateStands (b :: rest) with _ | _
    · obtain ⟨k, inside, refuted, kept, first⟩ := ih
      refine ⟨k + 1, Nat.succ_le_succ inside, fun j below => ?_, by simpa [scan_of_refuted stands] using kept,
        fun more => by simpa using first (Nat.lt_of_succ_lt_succ more)⟩
      cases j with
      | zero => exact stands
      | succ j => simpa using refuted j (Nat.lt_of_succ_lt_succ below)
    · exact ⟨0, Nat.zero_le _, by simp, scan_of_stands stands, fun _ => stands⟩

/-- A candidate among at most 320 bytes, by the places of the sync bytes that have been taken. -/
theorem candidateStands_drop_iff {bytes : List Byte} (short : bytes.length ≤ 320) (k : Nat) :
    candidateStands (bytes.drop k) = true ↔ ¬ (bytes[k]? ≠ some syncByte ∨ ∃ x, bytes[k + 160]? = some x ∧ x ≠ syncByte) := by
  have third : bytes[k + 2 * cellBytes]? = none := List.getElem?_eq_none (by simp only [cellBytes]; omega)
  have second : k + cellBytes = k + 160 := rfl
  simp only [candidateStands, syncAt, List.getElem?_drop, third, second, Nat.add_zero, Option.all_none, Bool.and_true,
    Bool.and_eq_true]
  rcases bytes[k]? with _ | x <;> rcases bytes[k + 160]? with _ | y <;> simp

/-- A byte taken on a port that searches. -/
theorem exec_syncSearch_of_searching {s : State} {port : Port} {p : SerialPort} (running : s.running = true)
    (held : s.cin.serial port = some p) (searching : p.sync ≠ .locked) (b : Byte)
    (still : (p.search s.tmb.localTime (p.taken ++ [b])).sync ≠ .locked) :
    exec (.syncSearch port b) s = .next (withSerial port (fun _ => p.search s.tmb.localTime (p.taken ++ [b])) s) := by
  rw [exec_syncSearch running, searchByte, held]
  simp only [if_neg searching, if_neg still]

theorem search_of_empty {bytes : List Byte} (now : LocalTime) (p : SerialPort) (none : scan bytes = []) :
    p.search now bytes = { p with sync := .hunt, goodSync := 0, taken := [] } := by
  simp [SerialPort.search, none]

theorem search_of_short {bytes : List Byte} (now : LocalTime) (p : SerialPort) (some : scan bytes ≠ [])
    (short : (scan bytes).length ≤ 320) : p.search now bytes
      = { p with sync := .verify, goodSync := if (scan bytes).length ≤ 160 then 1 else 2, taken := scan bytes } := by
  have kept : ¬ (scan bytes).isEmpty = true := by simpa using some
  simp only [SerialPort.search]
  rw [if_neg kept, if_pos (show (scan bytes).length ≤ 2 * cellBytes from short)]
  rfl

theorem search_of_full {bytes : List Byte} (now : LocalTime) (p : SerialPort) (full : 320 < (scan bytes).length) :
    p.search now bytes = { p with
      sync := .locked, goodSync := 3, failures := 0, idle := false, idleSince := some now, taken := (scan bytes).drop 320 } := by
  have kept : ¬ (scan bytes).isEmpty = true := by
    rw [List.isEmpty_iff]
    intro empty
    simp [empty] at full
  simp only [SerialPort.search]
  rw [if_neg kept, if_neg (show ¬ (scan bytes).length ≤ 2 * cellBytes from full.not_ge)]
  rfl

/-- A port that locks with this byte (R2). -/
theorem searchByte_of_full {s : State} {port : Port} {p : SerialPort} (held : s.cin.serial port = some p)
    (searching : p.sync ≠ .locked) (b : Byte) (full : 320 < (scan (p.taken ++ [b])).length) :
    searchByte port b s = reportLock port (withSerial port (fun p => { p with
      sync := .locked, goodSync := 3, failures := 0, idle := false, idleSince := some s.tmb.localTime
      taken := (scan (p.taken ++ [b])).drop 320 }) s) := by
  rw [searchByte, held]
  simp only [if_neg searching, search_of_full _ _ full, if_true]
  exact congrArg _ (withSerial_congr held rfl)

theorem reportLock_eq (port : Port) (s : State) : reportLock port s = { emit (.inputState port .locked) s with
    inFlight := s.inFlight ++ if port = .a then [.portALock] else [] } := by
  cases port <;> simp [reportLock, send, emit_eq]

/-- Settles O23: the candidate at the start of the bytes kept stands, or the scan goes on after it. -/
theorem thirdSyncByteAtCellSpacingLocksThePort : Obligations.ThirdSyncByteAtCellSpacingLocksThePort := by
  intro s port p running held
  refine ⟨fun verify length first second => ?_, fun hunt empty b => ?_, fun locked b => ?_,
    fun verify first length second b place => ?_, fun verify length b other => ?_⟩
  · have stands : candidateStands (p.taken ++ [syncByte]) = true := by
      have at0 : (p.taken ++ [syncByte])[0]? = some syncByte := by rw [List.getElem?_append_left (by omega), first]
      have at160 : (p.taken ++ [syncByte])[cellBytes]? = some syncByte := by
        rw [List.getElem?_append_left (by simp only [cellBytes]; omega)]
        exact second
      have at320 : (p.taken ++ [syncByte])[2 * cellBytes]? = some syncByte := by
        rw [List.getElem?_append_right (by simp only [cellBytes]; omega), length]
        rfl
      rw [candidateStands, syncAt, syncAt, at0, at160, at320]
      rfl
    have kept := scan_of_stands stands
    have full : 320 < (scan (p.taken ++ [syncByte])).length := by simp [kept, length]
    have last : (scan (p.taken ++ [syncByte])).drop 320 = [syncByte] := by
      rw [kept, List.drop_append_of_le_length length.ge, List.drop_eq_nil_of_le length.le, List.nil_append]
    have answered := exec_syncSearch running port syncByte
    rw [searchByte_of_full held (by simp [verify]) _ full, reportLock_eq, emit_eq] at answered
    have serial := serial_withSerial port (fun p => { p with
      sync := .locked, goodSync := 3, failures := 0, idle := false, idleSince := some s.tmb.localTime
      taken := (scan (p.taken ++ [syncByte])).drop 320 }) s
    rw [held, Option.map_some, last] at serial
    refine ⟨_, answered, serial, ?_, by simp, fun other differs => serial_withSerial_of_ne differs _ s,
      (withSerial_cin_others port _ s).1, (withSerial_cin_others port _ s).2, ?_⟩
    · simp [emit_eq]
    · cases port <;> rfl
  · by_cases sync : b = syncByte
    · subst sync
      have stands : candidateStands [syncByte] = true := by simp [candidateStands, syncAt, cellBytes]
      have kept := scan_of_stands stands
      have found := search_of_short (bytes := p.taken ++ [syncByte]) s.tmb.localTime p (by simp [empty, kept]) (by simp [empty, kept])
      rw [exec_syncSearch_of_searching running held (by simp [hunt]) _ (by simp [found])]
      exact congrArg _ (withSerial_congr held (by rw [found]; simp [empty, kept]))
    · have refuted : candidateStands [b] = false := by simp [candidateStands, sync]
      have found := search_of_empty (bytes := p.taken ++ [b]) s.tmb.localTime p (by simp [empty, scan_of_refuted refuted, scan])
      rw [exec_syncSearch_of_searching running held (by simp [hunt]) b (by simp [found])]
      exact congrArg _ (withSerial_congr held (by rw [found]; simp [sync, ← hunt, ← empty]))
  · rw [exec_syncSearch running, searchByte, held]
    simp only [locked, if_true]
  · have long : (p.taken ++ [b]).length ≤ 320 := by simp; omega
    have nonempty : 0 < p.taken.length := by
      by_contra none
      simp [List.eq_nil_of_length_eq_zero (Nat.eq_zero_of_not_pos none)] at first
    have stands : candidateStands (p.taken ++ [b]) = true := by
      refine (candidateStands_drop_iff long 0).mpr ?_
      rintro (other | ⟨x, held, other⟩)
      · exact other (by rw [List.getElem?_append_left nonempty, first])
      · rw [Nat.zero_add] at held
        rcases Nat.lt_trichotomy p.taken.length 160 with short | at160 | past
        · rw [List.getElem?_eq_none (by simp; omega)] at held
          cases held
        · rw [List.getElem?_append_right at160.le, at160] at held
          exact other ((Option.some.inj held).symm.trans (place at160))
        · rw [List.getElem?_append_left past, second past] at held
          exact other (Option.some.inj held).symm
    have kept := scan_of_stands stands
    have found := search_of_short (bytes := p.taken ++ [b]) s.tmb.localTime p (by simp [kept]) (by rwa [kept])
    rw [exec_syncSearch_of_searching running held (by simp [verify]) b (by simp [found])]
    refine congrArg _ (withSerial_congr held ?_)
    rw [found, kept]
    simp only [List.length_append, List.length_singleton, Nat.succ_le_iff, ← verify]
  · intro bytes refuted
    have long : bytes.length ≤ 320 := by simp [bytes]; omega
    obtain ⟨x, rest, split⟩ : ∃ x rest, p.taken = x :: rest := by
      rcases taken : p.taken with _ | ⟨x, rest⟩
      · simp [taken] at length
      · exact ⟨x, rest, rfl⟩
    have after : (p.taken ++ [b]).drop 1 = bytes := by simp [bytes, split]
    have head : candidateStands (p.taken ++ [b]) = false := by
      rcases length with at160 | at320
      · have : (p.taken ++ [b])[cellBytes]? = some b := by
          rw [List.getElem?_append_right (by simp only [cellBytes]; omega), at160]
          rfl
        simp [candidateStands, syncAt, this, other]
      · have : (p.taken ++ [b])[2 * cellBytes]? = some b := by
          rw [List.getElem?_append_right (by simp only [cellBytes]; omega), at320]
          rfl
        simp [candidateStands, syncAt, this, other]
    have goesOn : scan (p.taken ++ [b]) = scan bytes := by rw [scan_of_refuted head, after]
    obtain ⟨k, inside, before, kept, stands⟩ := scan_eq_drop bytes
    have iff (j : Nat) : candidateStands (bytes.drop j) = true ↔ ¬ refuted j := candidateStands_drop_iff long j
    refine ⟨k, inside, fun j below => ?_, fun all => ?_, fun more => ⟨(iff k).mp (stands more), ?_⟩⟩
    · by_contra fits
      exact absurd ((iff j).mpr fits) (by simp [before j below])
    · have found := search_of_empty (bytes := p.taken ++ [b]) s.tmb.localTime p (by rw [goesOn, kept, all, List.drop_length])
      rw [exec_syncSearch_of_searching running held (by simp [verify]) b (by simp [found])]
      exact congrArg _ (withSerial_congr held found)
    · have length_kept : (bytes.drop k).length = bytes.length - k := List.length_drop
      have found := search_of_short (bytes := p.taken ++ [b]) s.tmb.localTime p
        (by rw [goesOn, kept, ne_eq, List.drop_eq_nil_iff]; exact more.not_ge) (by rw [goesOn, kept, length_kept]; omega)
      rw [exec_syncSearch_of_searching running held (by simp [verify]) b (by simp [found])]
      refine congrArg _ (withSerial_congr held ?_)
      rw [found, goesOn, kept, length_kept]

/-! ### Bytes on a LOCKED port (R3, R6) -/

theorem exec_cellArrival {s : State} (running : s.running = true) (port : Port) (bytes : List Byte) :
    exec (.cellArrival port bytes) s = .next (takeBytes port bytes s) := whenRunning_of_running running _

/-- A port whose search of no further byte changes nothing: it is LOCKED, or in HUNT with nothing kept. -/
def SerialPort.Rests (p : SerialPort) : Prop := p.sync = .locked ∨ (p.sync = .hunt ∧ p.goodSync = 0 ∧ p.taken = [])

theorem SerialPort.Rests.absorb_nil {p : SerialPort} (rests : p.Rests) (now : LocalTime) : p.absorb now [] = p := by
  rcases rests with locked | ⟨hunt, count, empty⟩
  · rw [SerialPort.absorb, if_pos locked, List.append_nil]
  · have found := search_of_empty (bytes := p.taken ++ []) now p (by simp [empty, scan])
    rw [SerialPort.absorb, if_neg (by simp [hunt]), found, ← hunt, ← count, ← empty]

/-- Whether the port's record, if it is a serial port, rests. -/
def State.PortRests (port : Port) (s : State) : Prop := ∀ p, s.cin.serial port = some p → p.Rests

theorem State.PortRests.absorb {port : Port} {s : State} (rests : s.PortRests port) (now : LocalTime) :
    withSerial port (SerialPort.absorb now []) s = s :=
  withSerial_of_fixed fun p held => (rests p held).absorb_nil now

theorem State.PortRests.of_cin {port : Port} {s t : State} (rests : s.PortRests port) (same : t.cin = s.cin) :
    t.PortRests port := by
  rw [State.PortRests, same]
  exact rests

theorem State.PortRests.withSerial {port : Port} {s : State} (rests : s.PortRests port) (other : Port)
    {f : SerialPort → SerialPort} (kept : ∀ p : SerialPort, p.Rests → (f p).Rests) : (withSerial other f s).PortRests port := by
  intro p held
  by_cases same : port = other
  · subst same
    rw [serial_withSerial] at held
    obtain ⟨q, before, rfl⟩ := Option.map_eq_some_iff.mp held
    exact kept q (rests q before)
  · rw [serial_withSerial_of_ne same] at held
    exact rests p held

/-- Bytes that complete one cell, and no more. -/
theorem takeBytes_of_cell {s : State} {port : Port} {p : SerialPort} {bytes : List Byte} (held : s.cin.serial port = some p)
    (locked : p.sync = .locked) (cell : (p.taken ++ bytes).length = 160)
    (rests : (frameCell port (p.taken ++ bytes)
      (noteArrival port p (withSerial port (fun p => { p with taken := [] }) s))).PortRests port) :
    takeBytes port bytes s
      = frameCell port (p.taken ++ bytes) (noteArrival port p (withSerial port (fun p => { p with taken := [] }) s)) := by
  rw [takeBytes, held]
  simp only [locked, bne_self_eq_false, Bool.false_eq_true, if_false, cellBytes, cell, lt_irrefl,
    List.take_of_length_le cell.le, List.drop_eq_nil_of_le cell.le]
  exact rests.absorb _

theorem noteArrival_eq {port : Port} {p : SerialPort} {s : State} : noteArrival port p s
    = withSerial port (fun q => { q with idle := false, idleSince := some s.tmb.localTime })
        (if p.idle then emit (.inputState port .active) s else s) := by
  rcases idle : p.idle with _ | _
  · simp [noteArrival, idle]
  · cases port <;> simp [noteArrival, idle, emit_eq, Machine.withSerial]

/-- The part whose port has framed a cell without the sync byte, before its third failure in a row is acted on (R3). -/
def failedCell (now : LocalTime) (p : SerialPort) : SerialPort :=
  { p with syncErrors := satInc max32 p.syncErrors, failures := p.failures + 1, idle := false, idleSince := some now, taken := [] }

theorem losePort_eq (port : Port) (s : State) : losePort port s = { withSerial port (fun p =>
      { p with sync := .hunt, goodSync := 0, failures := 0, idle := false, idleSince := none, taken := []
               syncLosses := satInc max16 p.syncLosses }) (emit (.inputState port .lost) s) with
    routes := s.routes.map (Option.map fun r => if r.port = port then { r.abandon with expected := none } else r)
    inFlight := s.inFlight ++ if port = .a then [.portAHunt] else [] } := by
  cases port <;> simp [losePort, withSerial, send, emit_eq, RouteTable.resync, RouteTable.mapRoutes]

theorem serial_losePort {port : Port} {s : State} {p : SerialPort} (held : s.cin.serial port = some p) :
    (losePort port s).cin.serial port = some { p with
      sync := .hunt, goodSync := 0, failures := 0, idle := false, idleSince := none, taken := []
      syncLosses := satInc max16 p.syncLosses } := by
  rw [losePort_eq]
  change (withSerial port _ (emit _ s)).cin.serial port = _
  rw [serial_withSerial]
  simp [held]

theorem takeBytes_of_failed {s : State} {port : Port} {p : SerialPort} {bytes : List Byte} (held : s.cin.serial port = some p)
    (locked : p.sync = .locked) (cell : (p.taken ++ bytes).length = 160) (failed : (p.taken ++ bytes)[0]? ≠ some syncByte) :
    let s1 := withSerial port (failedCell s.tmb.localTime) (if p.idle then emit (.inputState port .active) s else s)
    takeBytes port bytes s = if 2 ≤ p.failures then losePort port s1 else s1 := by
  intro s1
  have bad : byteAt (p.taken ++ bytes) 0 ≠ syncByte := by
    intro sync
    rw [byteAt, List.getD_eq_getElem?_getD] at sync
    rcases first : (p.taken ++ bytes)[0]? with _ | x
    · simp [cell] at first
    · rw [first, Option.getD_some] at sync
      exact failed (first.trans (congrArg _ sync))
  have served : s1.cin.serial port = some (failedCell s.tmb.localTime p) := by
    rw [serial_withSerial]
    split <;> simp [held]
  have framed : frameCell port (p.taken ++ bytes) (noteArrival port p (withSerial port (fun p => { p with taken := [] }) s))
      = if 2 ≤ p.failures then losePort port s1 else s1 := by
    have noted : withSerial port (fun p => { p with syncErrors := satInc max32 p.syncErrors, failures := p.failures + 1 })
        (noteArrival port p (withSerial port (fun p => { p with taken := [] }) s)) = s1 := by
      rw [noteArrival_eq]
      split <;> cases port <;> simp [s1, *, Machine.withSerial, emit_eq, failedCell]
    rw [frameCell, if_neg bad]
    dsimp only
    rw [noted, served]
    simp [failedCell]
  rw [takeBytes_of_cell held locked cell, framed]
  rw [framed]
  split
  · intro q found
    rw [serial_losePort served] at found
    cases found
    exact .inr ⟨rfl, rfl, rfl⟩
  · intro q found
    rw [served] at found
    cases found
    exact .inl locked

/-- Settles O24: the failed cell is counted, and a third one in a row loses the port. -/
theorem thirdFailedCellInARowLosesSync : Obligations.ThirdFailedCellInARowLosesSync := by
  intro s port p bytes running held locked cell failed
  have arrived := exec_cellArrival running port bytes
  rw [takeBytes_of_failed held locked cell failed] at arrived
  have noted : (if p.idle then emit (.inputState port .active) s else s).cin.serial port = some p := by
    split <;> simp [held]
  have counted := serial_withSerial port (failedCell s.tmb.localTime) (if p.idle then emit (.inputState port .active) s else s)
  rw [noted, Option.map_some] at counted
  have others (other : Port) (differs : other ≠ port) :
      (withSerial port (failedCell s.tmb.localTime) (if p.idle then emit (.inputState port .active) s else s)).cin.serial other
        = s.cin.serial other := by
    rw [serial_withSerial_of_ne differs]
    split <;> simp
  refine ⟨fun few => ?_, fun third => ?_⟩
  · rw [if_neg (by omega)] at arrived
    refine ⟨_, arrived, counted, by simp, others, ?_⟩
    split <;> cases port <;> simp [withSerial, emit_eq]
  · rw [if_pos third] at arrived
    refine ⟨_, arrived, serial_losePort counted, ?_, ?_, ?_, fun other differs => ?_, ?_⟩
    · simp [losePort_eq, emit_eq]
    · rw [losePort_eq]
      split <;> simp
    · rw [losePort_eq]
      split <;> simp
    · rw [losePort_eq]
      change (withSerial port _ (emit _ _)).cin.serial other = _
      rw [serial_withSerial_of_ne differs]
      simpa using others other differs
    · split <;> cases port <;> simp [losePort_eq, withSerial, emit_eq]

/-! ### What a cell can do to a resting port: counts, or the restart of Port A (R5) -/

section
variable {port : Port} {s : State}

theorem restartPortA_rests (rests : s.PortRests port) : (restartPortA s).PortRests port := by
  have restarted : (restartPortA s).PortRests port ↔ (withSerial .a (fun p =>
      { p with sync := .hunt, goodSync := 0, failures := 0, idle := false, idleSince := none, taken := [] }) s).PortRests port :=
    Iff.rfl
  exact restarted.mpr (rests.withSerial .a fun p _ => .inr ⟨rfl, rfl, rfl⟩)

theorem countParityError_rests (other : Port) (rests : s.PortRests port) : (countParityError other s).PortRests port := by
  by_cases serial : other = .l
  · subst serial
    exact fun p held => rests p (by cases port <;> exact held)
  · rw [countParityError_of_serial serial]
    exact rests.withSerial other fun p h => h

theorem startChange_rests (target : Service) (audio : Option Lang) (rests : s.PortRests port) :
    (startChange target audio s).PortRests port := by
  have crossed (c : Change) : (startCross c s).PortRests port :=
    (restartPortA_rests (rests.of_cin (t := dropPresented .crossMultiplex s) (by simp))).of_cin (by simp [startCross])
  rw [startChange]
  split
  · split
    · exact rests.of_cin (by simp)
    · exact crossed _
  · split
    · exact rests.of_cin (by simp)
    · exact crossed _

theorem enterIdle_rests (rests : s.PortRests port) : (enterIdle s).PortRests port := by
  rw [enterIdle]
  dsimp only
  split
  · exact rests
  · split
    · exact startChange_rests _ _ rests
    · exact State.PortRests.of_cin (s := s) rests (by simp)

theorem splice_rests (reason : DoneReason) (rests : s.PortRests port) : (splice reason s).PortRests port := by
  rw [splice]
  split
  · exact rests
  · exact enterIdle_rests (rests.of_cin (by simp))

theorem parityReport_rests (k : Slot) (rests : s.PortRests port) : (parityReport k s).PortRests port := by
  have entered (c : Change) {u : State} (h : u.PortRests port) : (enterWaitSplice c u).PortRests port := by
    rw [enterWaitSplice]
    split
    · exact h
    · exact splice_rests .ok h
  have tested {u : State} (h : u.PortRests port) : (testWaitKey u).PortRests port := by
    rw [testWaitKey]
    split
    · split
      · exact entered _ h
      · exact h
    · exact h
  rw [parityReport]
  split
  · exact rests
  · exact tested rests

theorem forward_rests (r : Route) (broken : Bool) (c : Cell) (rests : s.PortRests port) : (forward r broken c s).PortRests port := by
  have cleared : (clearCell r c s).2.PortRests port := by
    rw [clearCell]
    split
    · exact rests
    · split
      · exact rests.of_cin (by simp)
      · rw [countUnkeyed]
        split
        · exact fun p held => rests p (by cases port <;> exact held)
        · exact rests
  exact cleared.of_cin (by simp [forward])

theorem spliceOn_rests (k : Nat) (c : Cell) (rests : s.PortRests port) : (spliceOn k c s).PortRests port := by
  have spliced := splice_rests .ok rests
  rw [spliceOn]
  split
  · split
    · exact forward_rests _ _ _ (spliced.of_cin (by simp))
    · exact spliced
  · exact spliced

theorem observe_rests (k : Nat) (r : Route) (c : Cell) (rests : s.PortRests port) : (observe k r c s).PortRests port := by
  have marked {u : State} (splices : Bool) (h : u.PortRests port) :
      (if splices = true then spliceOn k c u else u).PortRests port := by
    split
    · exact spliceOn_rests k c h
    · exact h
  rw [observe]
  split
  · exact marked _ (parityReport_rests _ rests)
  · exact marked _ rests

theorem takeCell_rests (k : Nat) (c : Cell) (rests : s.PortRests port) : (takeCell k c s).PortRests port := by
  rw [takeCell]
  split
  · exact rests
  · rename_i r _
    have used {u : State} (b : Bool) (h : u.PortRests port) : (useCell k (r.take c) b c u).PortRests port := by
      have sections : (sectionsCell k (r.take c) b c u).PortRests port := by
        rw [sectionsCell]
        split
        · exact (countParityError_rests (r.take c).port h).of_cin (by simp)
        · exact h.of_cin (by split <;> simp)
      have stamp : (stampArrival c.payload u).PortRests port := h.of_cin (by simp)
      rw [useCell]
      split
      all_goals first
        | exact sections
        | (split; exacts [forward_rests _ _ _ h, observe_rests _ _ _ h])
        | (split; exacts [countParityError_rests _ h, stamp])
        | (split; exacts [countParityError_rests _ h, h])
        | exact h
    exact used _ rests

theorem lookup_rests (other : Port) (c : Cell) (rests : s.PortRests port) : (lookup other c s).PortRests port := by
  rw [lookup]
  split
  · by_cases serial : other = .l
    · subst serial
      exact fun p held => rests p (by cases port <;> exact held)
    · rw [countUnrouted_of_serial serial]
      exact rests.withSerial other fun p h => h
  · exact takeCell_rests _ _ rests
  · exact takeCell_rests _ _ rests
  · exact takeCell_rests _ _ (takeCell_rests _ _ rests)

end

/-! ### A whole cell on a LOCKED port (R3, R7, R11) -/

/-- A port with a cell taken that has the sync byte (R3, R6). -/
def framedCell (now : LocalTime) (p : SerialPort) : SerialPort := { p with failures := 0, idleSince := some now }

/-- A port with a cell received (R7). -/
def receivedCell (now : LocalTime) (p : SerialPort) : SerialPort :=
  { p with received := satInc max32 p.received, failures := 0, idleSince := some now }

theorem toBytes_length {c : Cell} (full : c.payload.length = 156) : c.toBytes.length = 160 := by
  simp [Cell.toBytes, full]

/-- A port that a whole cell can reach without a change of its framing. -/
structure State.Receives (s : State) (port : Port) (p : SerialPort) : Prop where
  running : s.running = true
  held : s.cin.serial port = some p
  locked : p.sync = .locked
  empty : p.taken = []
  awake : p.idle = false

theorem frameCell_toBytes (port : Port) {c : Cell} (sync : c.sync = syncByte) (s : State) :
    frameCell port c.toBytes s = checkHeader port c (withSerial port (fun p => { p with failures := 0 }) s) := by
  rw [frameCell, if_pos (show byteAt c.toBytes 0 = syncByte from sync), cell_ofBytes_toBytes]

/-- A cell that is not lost at its framing, up to the header checks. -/
theorem exec_cellArrival_of_framed {s : State} {port : Port} {p : SerialPort} {c : Cell} (h : s.Receives port p)
    (full : c.payload.length = 156) (sync : c.sync = syncByte)
    (rests : (checkHeader port c (withSerial port (framedCell s.tmb.localTime) s)).PortRests port) :
    exec (.cellArrival port c.toBytes) s = .next (checkHeader port c (withSerial port (framedCell s.tmb.localTime) s)) := by
  have framed : frameCell port (p.taken ++ c.toBytes) (noteArrival port p (withSerial port (fun p => { p with taken := [] }) s))
      = checkHeader port c (withSerial port (framedCell s.tmb.localTime) s) := by
    rw [h.empty, List.nil_append, frameCell_toBytes port sync, noteArrival_eq, h.awake]
    simp only [Bool.false_eq_true, if_false, withSerial_withSerial, withSerial_frame]
    exact congrArg _ (withSerial_congr h.held (by simp [framedCell, ← h.empty, ← h.awake]))
  rw [exec_cellArrival h.running, takeBytes_of_cell h.held h.locked, framed]
  · rw [h.empty, List.nil_append, toBytes_length full]
  · rw [framed]
    exact rests

theorem framed_rests {s : State} {port : Port} {p : SerialPort} (h : s.Receives port p) :
    (withSerial port (framedCell s.tmb.localTime) s).PortRests port := by
  intro q held
  rw [serial_withSerial, h.held] at held
  cases held
  exact .inl h.locked

/-- A cell of the reserved parity (R7). -/
theorem exec_cellArrival_of_reserved {s : State} {port : Port} {p : SerialPort} {c : Cell} (h : s.Receives port p)
    (full : c.payload.length = 156) (sync : c.sync = syncByte) (reserved : c.parity = .reserved) :
    exec (.cellArrival port c.toBytes) s = .next (withSerial port (fun p =>
      { receivedCell s.tmb.localTime p with parityErrors := satInc max32 p.parityErrors }) s) := by
  have serial := ne_l_of_serial h.held
  have checked : checkHeader port c (withSerial port (framedCell s.tmb.localTime) s) = withSerial port (fun p =>
      { receivedCell s.tmb.localTime p with parityErrors := satInc max32 p.parityErrors }) s := by
    rw [checkHeader]
    simp only [reserved, if_true, countReceived_of_serial serial, countParityError_of_serial serial, withSerial_withSerial]
    rfl
  rw [exec_cellArrival_of_framed h full sync, checked]
  rw [checked]
  intro q held
  rw [serial_withSerial, h.held] at held
  cases held
  exact .inl h.locked

/-- A null cell (R7). -/
theorem exec_cellArrival_of_null {s : State} {port : Port} {p : SerialPort} {c : Cell} (h : s.Receives port p)
    (full : c.payload.length = 156) (sync : c.sync = syncByte) (clear : c.parity ≠ .reserved) (null : c.stream = 4095#12) :
    exec (.cellArrival port c.toBytes) s = .next (withSerial port (receivedCell s.tmb.localTime) s) := by
  have serial := ne_l_of_serial h.held
  have checked : checkHeader port c (withSerial port (framedCell s.tmb.localTime) s)
      = withSerial port (receivedCell s.tmb.localTime) s := by
    rw [checkHeader]
    simp only [if_neg clear, if_pos null, countReceived_of_serial serial, withSerial_withSerial]
    rfl
  rw [exec_cellArrival_of_framed h full sync, checked]
  rw [checked]
  intro q held
  rw [serial_withSerial, h.held] at held
  cases held
  exact .inl h.locked

/-- Any other cell goes to the route lookup (R7, R11). -/
theorem exec_cellArrival_of_stream {s : State} {port : Port} {p : SerialPort} {c : Cell} (h : s.Receives port p)
    (full : c.payload.length = 156) (sync : c.sync = syncByte) (clear : c.parity ≠ .reserved) (stream : c.stream ≠ 4095#12) :
    exec (.cellArrival port c.toBytes) s = .next (lookup port c (withSerial port (receivedCell s.tmb.localTime) s)) := by
  have serial := ne_l_of_serial h.held
  have checked : checkHeader port c (withSerial port (framedCell s.tmb.localTime) s)
      = lookup port c (withSerial port (receivedCell s.tmb.localTime) s) := by
    rw [checkHeader]
    simp only [if_neg clear, if_neg stream, serial, false_and, if_false, countReceived_of_serial serial, withSerial_withSerial]
    rfl
  rw [exec_cellArrival_of_framed h full sync, checked]
  rw [checked]
  refine lookup_rests _ _ fun q held => ?_
  rw [serial_withSerial, h.held] at held
  cases held
  exact .inl h.locked

/-- A route that has taken a cell, its continuity checked (R11, R12). -/
theorem take_eq (r : Route) (c : Cell) : r.take c = { r with
    cells := satInc max32 r.cells
    discontinuities := if r.expected = none ∨ r.expected = some c.continuity then r.discontinuities
      else satInc max16 r.discontinuities
    expected := some (c.continuity + 1#4) } := by
  rw [Route.take, Route.broken]
  rcases r.expected with _ | n
  · simp
  · by_cases same : n = c.continuity <;> simp [same]

theorem broken_eq (r : Route) (c : Cell) :
    r.broken c = decide (r.expected ≠ none ∧ r.expected ≠ some c.continuity) := by
  rw [Route.broken]
  rcases r.expected with _ | n
  · simp
  · by_cases same : n = c.continuity <;> simp [same]

theorem takeCell_of_route {s : State} {k : Nat} {r : Route} (held : s.routes[k]? = some (some r)) (c : Cell) :
    takeCell k c s = useCell k (r.take c) (r.broken c) c { s with routes := s.routes.set k (some (r.take c)) } := by
  rw [takeCell, RouteTable.route_eq_some.mpr held]
  rfl

theorem withSerial_routes (port : Port) (f : SerialPort → SerialPort) (s : State) (routes : List (Option Route)) :
    { withSerial port f s with routes } = withSerial port f { s with routes } := by
  cases port <;> rfl

/-- A cell that one route alone takes, whatever its state. -/
theorem exec_cellArrival_of_route {s : State} {port : Port} {p : SerialPort} {c : Cell} {k : Nat} {r : Route} (h : s.Receives port p)
    (full : c.payload.length = 156) (sync : c.sync = syncByte) (clear : c.parity ≠ .reserved) (stream : c.stream ≠ 4095#12)
    (found : RouteTable.find s.routes (Route.isAt port c.stream.toNat .live) = some k
        ∧ RouteTable.find s.routes (Route.isAt port c.stream.toNat .armed) = none
      ∨ RouteTable.find s.routes (Route.isAt port c.stream.toNat .live) = none
        ∧ RouteTable.find s.routes (Route.isAt port c.stream.toNat .armed) = some k)
    (held : s.routes[k]? = some (some r)) :
    exec (.cellArrival port c.toBytes) s = .next (useCell k (r.take c) (r.broken c) c
      (withSerial port (receivedCell s.tmb.localTime) { s with routes := s.routes.set k (some (r.take c)) })) := by
  have routes : (withSerial port (receivedCell s.tmb.localTime) s).routes = s.routes := by simp
  rw [exec_cellArrival_of_stream h full sync clear stream, lookup, routes]
  have taken := takeCell_of_route (s := withSerial port (receivedCell s.tmb.localTime) s) (routes ▸ held) c
  rw [routes, withSerial_routes] at taken
  rcases found with ⟨live, armed⟩ | ⟨live, armed⟩
  · rw [live, armed]
    exact congrArg _ taken
  · rw [live, armed]
    exact congrArg _ taken

/-- A cell that no route takes. -/
theorem exec_cellArrival_of_unrouted {s : State} {port : Port} {p : SerialPort} {c : Cell} (h : s.Receives port p)
    (full : c.payload.length = 156) (sync : c.sync = syncByte) (clear : c.parity ≠ .reserved) (stream : c.stream ≠ 4095#12)
    (live : RouteTable.find s.routes (Route.isAt port c.stream.toNat .live) = none)
    (armed : RouteTable.find s.routes (Route.isAt port c.stream.toNat .armed) = none) :
    exec (.cellArrival port c.toBytes) s = .next (withSerial port (fun p =>
      { receivedCell s.tmb.localTime p with unrouted := satInc max32 p.unrouted }) s) := by
  have routes : (withSerial port (receivedCell s.tmb.localTime) s).routes = s.routes := by simp
  rw [exec_cellArrival_of_stream h full sync clear stream, lookup, routes, live, armed]
  simp only [countUnrouted_of_serial (ne_l_of_serial h.held), withSerial_withSerial]
  rfl

theorem isAt_iff (port : Port) (stream : Nat) (state : RouteState) (r : Route) :
    r.isAt port stream state = true ↔ r.port = port ∧ r.stream = stream ∧ r.state = state := by
  simp [Route.isAt, and_assoc]

/-- Whether a table has no route at a place. -/
theorem find_isAt_eq_none_iff (t : List (Option Route)) (port : Port) (stream : Nat) (state : RouteState) :
    RouteTable.find t (Route.isAt port stream state) = none
      ↔ ∀ r ∈ t.filterMap id, ¬ (r.port = port ∧ r.stream = stream ∧ r.state = state) := by
  rw [RouteTable.find_eq_none]
  simp only [List.mem_filterMap, id_eq, exists_eq_right, ← isAt_iff, Bool.not_eq_true]

/-- A cell of a PASS route (R18). -/
theorem useCell_of_pass {r : Route} (pass : r.use = .pass) (k : Nat) (broken : Bool) (c : Cell) (s : State) :
    useCell k r broken c s = { s with lanes := { s.lanes with waiting := s.lanes.waiting ++ [c] } } := by
  rw [useCell, pass]

/-! ### Port L (R1, R4, R7) -/

theorem exec_portLCell_of_ready {s : State} (ready : s.ready = true) (strobe : Bool) (bytes : List Byte) :
    exec (.portLCell strobe bytes) s = .next (takeStrobed strobe bytes s) := by
  simp only [State.ready, Bool.and_eq_true] at ready
  exact whenRunning_of_running ready.1 _

theorem exec_portLCell_of_not_ready {s : State} (ready : s.ready = false) (strobe : Bool) (bytes : List Byte) :
    exec (.portLCell strobe bytes) s = .next s := by
  have unready : takeStrobed strobe bytes s = s := by simp [takeStrobed, ready]
  change whenRunning s (takeStrobed strobe bytes) = _
  rw [whenRunning, unready, ite_self]

/-- Port L once the strobe has begun a cell, and the whole cell has been taken (R1). -/
def strobedCell (l : StrobedPort) : StrobedPort :=
  { l with framing := none, syncErrors := if l.framing = none then l.syncErrors else satInc max32 l.syncErrors }

/-- A whole cell, begun by the strobe (R1). -/
theorem takeStrobed_of_cell {s : State} {bytes : List Byte} (ready : s.ready = true) (cell : bytes.length = 160) :
    takeStrobed true bytes s = frameStrobed bytes { s with cin := { s.cin with l := strobedCell s.cin.l } } := by
  have strobed : (withStrobed StrobedPort.strobe s).cin.l.framing = some [] := rfl
  have begun : withStrobed (fun p => { p with framing := none }) (withStrobed StrobedPort.strobe s)
      = { s with cin := { s.cin with l := strobedCell s.cin.l } } := by
    simp only [withStrobed, StrobedPort.strobe, strobedCell]
    cases s.cin.l.framing <;> rfl
  rw [takeStrobed, ready]
  simp only [Bool.not_true, Bool.false_eq_true, if_false, if_true, strobed, List.nil_append, cellBytes, cell, lt_irrefl,
    List.take_of_length_le cell.le, begun]

theorem byteAt_zero_eq_syncByte_iff {bytes : List Byte} : byteAt bytes 0 = syncByte ↔ bytes[0]? = some syncByte := by
  cases bytes with
  | nil => decide
  | cons b rest => simp [byteAt]

/-- A cell of Port L that has the sync byte (R4). -/
theorem takeStrobed_of_synced {s : State} {bytes : List Byte} (ready : s.ready = true) (cell : bytes.length = 160)
    (sync : bytes[0]? = some syncByte) : takeStrobed true bytes s
      = checkHeader .l (.ofBytes bytes) { s with cin := { s.cin with l := strobedCell s.cin.l } } := by
  rw [takeStrobed_of_cell ready cell, frameStrobed, if_pos (byteAt_zero_eq_syncByte_iff.mpr sync)]

/-- A request cell of a CONTROL route (R18). -/
theorem useCell_of_control {r : Route} (control : r.use = .control) (k : Nat) (broken : Bool) (c : Cell) (s : State) :
    useCell k r broken c s = if c.parity.slot.isSome then countParityError r.port s
      else { s with rqh := { s.rqh with intake := s.rqh.intake ++ [c.payload] } } := by
  rw [useCell, control]

theorem slot_isSome_iff {p : Parity} (kept : p ≠ .reserved) : p.slot.isSome = true ↔ p ≠ .clear := by
  cases p <;> simp_all [Parity.slot]

/-- Settles O26: a whole cell by its first byte, its header, and the CONTROL route. -/
theorem requestCellsJoinTheIntakeQueue : Obligations.RequestCellsJoinTheIntakeQueue := by
  refine ⟨fun s bytes ready cell => ?_, fun s c k r full sync clear stream found held control alone => ?_⟩
  · intro l strobed left c
    have arrived := exec_portLCell_of_ready ready true bytes
    refine ⟨fun other => ?_, fun synced reserved => ?_, fun synced kept null => ?_, fun synced kept stream foreign => ?_⟩
    · rw [takeStrobed_of_cell ready cell, frameStrobed, if_neg (byteAt_zero_eq_syncByte_iff.not.mpr other)] at arrived
      exact arrived
    · rw [takeStrobed_of_synced ready cell synced, checkHeader] at arrived
      simp only [show (Cell.ofBytes bytes).parity = .reserved from reserved, if_true] at arrived
      exact arrived
    · rw [takeStrobed_of_synced ready cell synced, checkHeader] at arrived
      simp only [show (Cell.ofBytes bytes).parity ≠ .reserved from kept, show (Cell.ofBytes bytes).stream = 4095#12 from null,
        if_false, if_true] at arrived
      exact arrived
    · rw [takeStrobed_of_synced ready cell synced, checkHeader] at arrived
      simp only [if_neg (show ¬ (Cell.ofBytes bytes).parity = .reserved from kept),
        if_neg (show ¬ (Cell.ofBytes bytes).stream = 4095#12 from stream)] at arrived
      rw [if_pos ⟨trivial, foreign⟩] at arrived
      exact arrived
  · refine ⟨fun ready => ?_, fun unready strobe bytes => exec_portLCell_of_not_ready unready strobe bytes⟩
    have arrived := exec_portLCell_of_ready ready true c.toBytes
    have live : RouteTable.find s.routes (Route.isAt .l c.stream.toNat .live) = some k := by rw [stream]; exact found
    have armed : RouteTable.find s.routes (Route.isAt .l c.stream.toNat .armed) = none := by rw [stream]; exact alone
    have port : r.port = .l := by
      obtain ⟨q, held', test⟩ := RouteTable.find_eq_some live
      cases held.symm.trans held'
      exact ((isAt_iff _ _ _ _).mp test).1
    rw [takeStrobed_of_synced ready (toBytes_length full) (congrArg some sync), cell_ofBytes_toBytes, checkHeader] at arrived
    simp only [if_neg clear, stream, if_neg (show ¬ (4080#12 : BitVec 12) = 4095#12 by decide), ne_eq, not_true, and_false,
      if_false] at arrived
    have taken := takeCell_of_route (s := countReceived .l { s with cin := { s.cin with l := strobedCell s.cin.l } }) held c
    rw [useCell_of_control (r := r.take c) control] at taken
    have looked : lookup .l c (countReceived .l { s with cin := { s.cin with l := strobedCell s.cin.l } })
        = takeCell k c (countReceived .l { s with cin := { s.cin with l := strobedCell s.cin.l } }) := by
      have routes : (countReceived .l { s with cin := { s.cin with l := strobedCell s.cin.l } }).routes = s.routes := rfl
      rw [lookup, routes, live, armed]
    rw [looked, taken] at arrived
    refine ⟨_, arrived, ?_⟩
    by_cases plain : c.parity = .clear
    · have unscrambled : ¬ c.parity.slot.isSome = true := by simp [plain, Parity.slot]
      rw [if_neg unscrambled, if_pos plain, if_pos plain]
      exact ⟨rfl, rfl, rfl, rfl⟩
    · rw [if_pos ((slot_isSome_iff clear).mpr plain), if_neg plain, if_neg plain, show (r.take c).port = .l from port]
      exact ⟨rfl, rfl, rfl, rfl⟩

end Sys2Proof.Machine
end

section
/-! The wall, the stamps and the TIME sections (R38 to R52). -/

namespace Sys2Proof.Machine

/-! ### The second-advance check (R46, R47) -/

theorem exec_secondAdvance {s : State} (running : s.running = true) : exec .secondAdvance s = .next (applyCheck [] s) :=
  whenRunning_of_running running _

/-- NT a second or more past N_s (R46). -/
theorem check_of_advance {t : Tmb} (valid : t.wallValid = true) (past : 8000000 ≤ (t.nt - t.ns).toInt) :
    let d := (t.nt - t.ns).toInt
    let w := min (t.w + (d / 8000000).toNat) 4294967295
    t.check = ({ t with w, ns := t.ns + BitVec.ofInt 40 (d / 8000000 * 8000000) }, .advance w) := by
  rw [Tmb.check]
  simp only [valid, Bool.not_true, Bool.false_eq_true, if_false, if_pos (show ((ticksPerSecond : Nat) : Int) ≤ _ from past)]
  rfl

/-- NT more than 300 seconds behind N_s, and W not taken below 0 (R46). -/
theorem check_of_rewind {t : Tmb} (valid : t.wallValid = true) (behind : (t.nt - t.ns).toInt < -2400000000)
    (inside : 0 ≤ (t.w : Int) + (t.nt - t.ns).toInt / 8000000) :
    let d := (t.nt - t.ns).toInt
    let w := ((t.w : Int) + d / 8000000).toNat
    t.check = ({ t with w, ns := t.ns + BitVec.ofInt 40 (d / 8000000 * 8000000) }, .rewind t.w w) := by
  have notPast : ¬ ((ticksPerSecond : Nat) : Int) ≤ (t.nt - t.ns).toInt := by
    simp only [ticksPerSecond]
    omega
  rw [Tmb.check]
  simp only [valid, Bool.not_true, Bool.false_eq_true, if_false, if_neg notPast, if_pos behind,
    if_neg (show ¬ (t.w : Int) + (t.nt - t.ns).toInt / (ticksPerSecond : Nat) < 0 from inside.not_gt)]
  rfl

/-- NT so far behind N_s that W would fall below 0 (R46). -/
theorem check_of_rewind_to_zero {t : Tmb} (valid : t.wallValid = true) (behind : (t.nt - t.ns).toInt < -2400000000)
    (below : (t.w : Int) + (t.nt - t.ns).toInt / 8000000 < 0) :
    t.check = ({ t with w := 0, ns := t.nt }, .rewind t.w 0) := by
  have notPast : ¬ ((ticksPerSecond : Nat) : Int) ≤ (t.nt - t.ns).toInt := by
    simp only [ticksPerSecond]
    omega
  rw [Tmb.check]
  simp only [valid, Bool.not_true, Bool.false_eq_true, if_false, if_neg notPast, if_pos behind,
    if_pos (show (t.w : Int) + (t.nt - t.ns).toInt / (ticksPerSecond : Nat) < 0 from below)]

theorem check_of_still {t : Tmb} (still : t.wallValid = false
    ∨ (-2400000000 ≤ (t.nt - t.ns).toInt ∧ (t.nt - t.ns).toInt < 8000000)) : t.check = (t, .still) := by
  rw [Tmb.check]
  rcases still with invalid | ⟨low, high⟩
  · simp [invalid]
  · dsimp only
    rw [if_neg (show ¬ ((ticksPerSecond : Nat) : Int) ≤ (t.nt - t.ns).toInt from high.not_ge), if_neg low.not_gt, ite_self]

/-- What a move of the wall makes of the part (R46, R47). -/
theorem applyCheck_of_check {s : State} {t : Tmb} {move : WallMove} (checked : s.tmb.check = (t, move)) :
    applyCheck [] s = emitAll move.events { s with tmb := t, inFlight := s.inFlight ++ move.handovers } := by
  simp only [applyCheck, checked, List.nil_append]
  rfl

/-- Settles O29: the outcomes of the check. -/
theorem secondAdvanceMovesTheWallByWholeSeconds : Obligations.SecondAdvanceMovesTheWallByWholeSeconds := by
  intro s running d
  rw [exec_secondAdvance running]
  refine ⟨fun valid past => ?_, fun valid behind inside => ?_, fun valid behind below => ?_, fun still => ?_⟩
  · rw [applyCheck_of_check (check_of_advance valid past)]
    rfl
  · rw [applyCheck_of_check (check_of_rewind valid behind inside)]
    rfl
  · rw [applyCheck_of_check (check_of_rewind_to_zero valid behind below)]
    rfl
  · rw [applyCheck_of_check (check_of_still still)]
    simp [WallMove.events, WallMove.handovers, emitAll]

/-! ### Stamps (R38 to R42) -/

/-- A quarter of the phase error, to nearest with halves away from zero (R42). -/
theorem quarter_nearest (e : Int) : (4 * quarter e - e).natAbs ≤ 2
    ∧ ((4 * quarter e - e).natAbs = 2 → e.natAbs < (4 * quarter e).natAbs) := by
  rcases lt_trichotomy e 0 with negative | zero | positive
  · rw [quarter, Int.sign_eq_neg_one_of_neg negative]
    omega
  · subst zero
    decide
  · rw [quarter, Int.sign_eq_one_of_pos positive]
    omega

/-- A stamp that loads NETWORK time (R39). -/
theorem stamp_of_free {t : Tmb} (free : t.recovery = .free) (stamp : NetTime) (flag : Bool) : t.stamp stamp flag
    = ({ t with
        lastError := some (stamp - t.nt).toInt, lastStamp := some t.localTime, stamps := satInc max32 t.stamps
        nt := stamp, recovery := .acquire, good := 0 }, true) := by
  rw [Tmb.stamp]
  simp [free, Tmb.load, Tmb.phaseError]

/-- A stamp that steps NETWORK time (R39 to R41). -/
theorem stamp_of_step {t : Tmb} {stamp : NetTime} {flag : Bool} (running : t.recovery ≠ .free)
    (stepped : flag = true ∨ 12000 < (stamp - t.nt).toInt.natAbs) : t.stamp stamp flag
      = ({ t with
          lastError := some (stamp - t.nt).toInt, lastStamp := some t.localTime, stamps := satInc max32 t.stamps
          nt := stamp, recovery := .acquire, good := 0, steps := satInc max16 t.steps }, true) := by
  rw [Tmb.stamp]
  rcases flag with _ | _
  · have far : 12000 < (stamp - t.nt).toInt.natAbs := stepped.resolve_left (by simp)
    simp only [Bool.false_or, beq_iff_eq, if_neg running]
    rw [if_pos (show 12000 < (t.phaseError stamp).natAbs from far)]
    rfl
  · simp only [Bool.true_or, if_true, Tmb.load, if_neg running]
    rfl

/-- The time base once a stamp has been seen (R38). -/
def Tmb.seen (t : Tmb) (stamp : NetTime) : Tmb := { t with
  lastError := some (stamp - t.nt).toInt, lastStamp := some t.localTime, stamps := satInc max32 t.stamps }

/-- A stamp within the step window (R40, R42). -/
theorem stamp_of_near {t : Tmb} {stamp : NetTime} (running : t.recovery ≠ .free) (near : (stamp - t.nt).toInt.natAbs ≤ 12000) :
    t.stamp stamp false = if t.recovery = .locked then ((t.seen stamp).correct (stamp - t.nt).toInt, false)
      else (t.seen stamp).pullIn (stamp - t.nt).toInt := by
  rw [Tmb.stamp]
  simp only [Bool.false_or, beq_iff_eq, if_neg running]
  rw [if_neg (show ¬ 12000 < (t.phaseError stamp).natAbs from near.not_gt)]
  rfl

theorem pullIn_of_good {t : Tmb} {e : Int} (good : e.natAbs ≤ 400) : t.pullIn e
    = if 2 ≤ t.good then ({ t.correct e with recovery := .locked, good := 0 }, true)
      else ({ t.correct e with recovery := .acquire, good := t.good + 1 }, decide (t.recovery = .holdover)) := by
  rw [Tmb.pullIn]
  simp only [good, if_true, ge_iff_le, beq_eq_decide]
  split <;> split <;> first | rfl | omega

theorem pullIn_of_not_good {t : Tmb} {e : Int} (bad : 400 < e.natAbs) : t.pullIn e
    = ({ t.correct e with recovery := .acquire, good := 0 }, decide (t.recovery = .holdover)) := by
  rw [Tmb.pullIn]
  simp [bad.not_ge, beq_eq_decide]

/-- A stamp cell of a STAMPS route (R18). -/
theorem useCell_of_stamps {r : Route} (stamps : r.use = .stamps) {c : Cell} (clear : c.parity = .clear) (k : Nat) (broken : Bool)
    (s : State) : useCell k r broken c s = stampArrival c.payload s := by
  simp [useCell, stamps, clear, Parity.slot]

/-- An event record that comes before those of the check (R38). -/
theorem applyCheck_cons (e : Event) (s : State) : applyCheck [e] s = applyCheck [] (emit e s) := by
  have same : (emit e s).tmb = s.tmb := by simp
  simp only [applyCheck, same, List.singleton_append, List.nil_append]
  rw [emitAll, List.foldl_cons, ← emitAll]
  congr 1
  simp [sendAll, emit_eq]

/-- Settles O30: the stamp by the recovery state, and its arrival. -/
theorem stampsLoadCorrectOrStepNetworkTime : Obligations.StampsLoadCorrectOrStepNetworkTime := by
  refine ⟨fun t stamp flag => ?_, fun s port p c k r running held locked empty awake full sync clear stream live armed entry stamps => ?_⟩
  · intro e seen stepped corrected
    refine ⟨fun free => stamp_of_free free stamp flag, fun running far => stamp_of_step running far,
      fun running noFlag near => ⟨quarter e, (quarter_nearest e).1, (quarter_nearest e).2, ?_⟩⟩
    subst noFlag
    have handled := stamp_of_near running near
    refine ⟨fun locked => ?_, fun pulling good third => ?_, fun pulling good few => ?_, fun pulling bad => ?_⟩
    · rw [handled, if_pos locked]
      rfl
    · rw [handled, if_neg pulling, pullIn_of_good good, if_pos (show 2 ≤ (t.seen stamp).good from third)]
      rfl
    · rw [handled, if_neg pulling, pullIn_of_good good, if_neg (show ¬ 2 ≤ (t.seen stamp).good from few.not_ge)]
      rfl
    · rw [handled, if_neg pulling, pullIn_of_not_good bad]
      rfl
  · intro out handled reported
    have receives : s.Receives port p := ⟨running, held, locked, empty, awake⟩
    have arrived := exec_cellArrival_of_route receives full sync (by simp [clear]) stream (.inl ⟨live, armed⟩) entry
    rw [useCell_of_stamps (r := r.take c) stamps clear, take_eq] at arrived
    have runs : reported.running = true := by
      have same : reported.running = s.running := by
        simp only [reported, handled]
        split <;> cases port <;> simp [State.running, withSerial]
      rw [same, running]
    refine ⟨_, exec_secondAdvance runs, arrived.trans ?_⟩
    have stamped (u : State) (same : u.tmb = s.tmb) (moved : { u with tmb := out.1 } = handled) :
        stampArrival c.payload u = applyCheck [] reported := by
      have read : u.tmb.stamp (stampOf c.payload).1 (stampOf c.payload).2 = out := by rw [same]; rfl
      simp only [stampArrival, read, moved, reported]
      split
      · exact applyCheck_cons _ _
      · rfl
    refine congrArg _ (stamped _ (by simp) ?_)
    cases port <;> rfl

end Sys2Proof.Machine
end

section
/-! TIME sections (R48 to R52, R189). -/

namespace Sys2Proof.Machine

/-! ### The fields and the checks (R48) -/

/-- A two-byte field read as signed (R189). -/
def signedField (v : Nat) : Int := if v < 32768 then v else (v : Int) - 65536

/-- The fields of a TIME body, each at its offset (R189). -/
def timeBody (body : List Byte) : TimeBody :=
  { w0 := fieldAt body 0 4
    n0 := BitVec.ofNat 40 (fieldAt body 4 5)
    offset := signedField (fieldAt body 9 2)
    next := if (byteAt body 11).getLsbD 0 = true then some (fieldAt body 12 4, signedField (fieldAt body 16 2)) else none }

theorem parse_timeBody_of_long {body : List Byte} (long : 18 ≤ body.length) : TimeBody.parse body = some (timeBody body) := by
  rw [TimeBody.parse, if_neg long.not_gt]
  rfl

theorem parse_timeBody_of_short {body : List Byte} (short : body.length < 18) : TimeBody.parse body = none := by
  rw [TimeBody.parse, if_pos short]

theorem accepts_iff (t : Tmb) (b : TimeBody) : t.accepts b = true ↔ t.recovery ≠ .free ∧ (-720 ≤ b.offset ∧ b.offset ≤ 840)
    ∧ (∀ time offset, b.next = some (time, offset) → -720 ≤ offset ∧ offset ≤ 840)
    ∧ 0 ≤ t.anchorWall b ∧ t.anchorWall b ≤ 4294967295 := by
  have next : (b.next.all fun n => offsetOk n.2) = true
      ↔ ∀ time offset, b.next = some (time, offset) → -720 ≤ offset ∧ offset ≤ 840 := by
    rcases b.next with _ | ⟨time, offset⟩ <;> simp [offsetOk_iff]
  simp only [Tmb.accepts, Bool.and_eq_true, bne_iff_ne, ne_eq, offsetOk_iff, next, decide_eq_true_eq, and_assoc]
  exact Iff.rfl

/-! ### The parts of a section (R51, R52) -/

/-- The offset part (R51). -/
def State.offsetTaken (offset : Int) (s : State) : State := if offset = s.tmb.offset then s
  else { s with tmb := { s.tmb with offset }, inFlight := s.inFlight ++ [.offsetChange .scp, .offsetChange .plu] }

/-- A pending change and its entry gone (R52). -/
def State.changeDropped (s : State) : State := { s with
  tmb := { s.tmb with pendingChange := none }
  scp := { s.scp with target := s.scp.target.filter fun e => !e.isDevice .offsetChange } }

/-- The next-change part (R52). -/
def State.nextTaken (next : Option (Nat × Int)) (s : State) : State := match next with
  | none => s.changeDropped
  | some (time, offset) => if s.tmb.w < time
      then { s with
        tmb := { s.tmb with pendingChange := some (time, offset) }
        scp := { s.scp with
          target := insertEntry
            { kind := .device .offsetChange, due := min time 4294967295, service := none, event := none }
            (s.scp.target.filter fun e => !e.isDevice .offsetChange) } }
      else s.changeDropped.offsetTaken offset

theorem setOffset_eq_offsetTaken (offset : Int) (s : State) : setOffset offset s = s.offsetTaken offset := rfl

theorem applyNext_eq_nextTaken (next : Option (Nat × Int)) {s : State} (valid : s.tmb.wallValid = true) :
    applyNext next s = s.nextTaken next := by
  rcases next with _ | ⟨time, offset⟩
  · rfl
  · rw [applyNext, State.nextTaken]
    split
    · rw [keyEntry_eq]
      simp only [valid, if_true]
      rfl
    · rw [setOffset_eq_offsetTaken]
      have pending (u : State) (same : u.tmb.offset = s.tmb.offset) : u.offsetTaken offset = if offset = s.tmb.offset then u
          else { u with tmb := { u.tmb with offset }, inFlight := u.inFlight ++ [.offsetChange .scp, .offsetChange .plu] } := by
        rw [State.offsetTaken, same]
      rw [pending { s with tmb := { s.tmb with pendingChange := none } } rfl, pending s.changeDropped rfl]
      split <;> rfl

theorem offsetTaken_wallValid (offset : Int) (s : State) : (s.offsetTaken offset).tmb.wallValid = s.tmb.wallValid := by
  rw [State.offsetTaken]
  split <;> rfl

/-! ### The anchor (R48 to R50) -/

theorem exec_timeSection {s : State} {x : Section} {rest : List Section} (running : s.running = true)
    (front : s.queues.time = x :: rest) :
    exec .timeSection s = .next (applyTimeSection x { s with queues := { s.queues with time := rest } }) := by
  refine (whenRunning_of_running running _).trans ?_
  rw [consume_cons (c := .time) s applyTimeSection front]
  rfl

theorem applyTimeSection_of_accepted {s : State} {x : Section} (long : 18 ≤ x.body.length)
    (accepted : s.tmb.accepts (timeBody x.body) = true) :
    let b := timeBody x.body
    let s1 := { s with tmb := { s.tmb with applied := satInc max32 s.tmb.applied } }
    applyTimeSection x s = if s.tmb.wallValid then applyNext b.next (setOffset b.offset (realign b s1))
      else
        let u := applyNext b.next (setOffset b.offset (setWall b s1))
        emit (.wallSet u.tmb.w u.tmb.offset) u := by
  intro b s1
  have kept : (TimeBody.parse x.body).filter s.tmb.accepts = some b := by
    rw [parse_timeBody_of_long long, Option.filter_some, if_pos accepted]
  rw [applyTimeSection, kept]
  rcases valid : s.tmb.wallValid with _ | _ <;> simp [valid, s1]

theorem applyTimeSection_of_rejected {s : State} {x : Section}
    (rejected : x.body.length < 18 ∨ s.tmb.accepts (timeBody x.body) = false) :
    applyTimeSection x s = { s with tmb := { s.tmb with rejected := satInc max32 s.tmb.rejected } } := by
  have dropped : (TimeBody.parse x.body).filter s.tmb.accepts = none := by
    by_cases short : x.body.length < 18
    · rw [parse_timeBody_of_short short]
      rfl
    · rw [parse_timeBody_of_long (not_lt.mp short), Option.filter_some, rejected.resolve_left short]
      rfl
  rw [applyTimeSection, dropped]

theorem applyCheck_wallValid (s : State) : (applyCheck [] s).tmb.wallValid = s.tmb.wallValid := by
  have checked : s.tmb.check.1.wallValid = s.tmb.wallValid := by
    rw [Tmb.check]
    dsimp only
    (repeat' split) <;> rfl
  simpa [applyCheck] using checked

/-- A difference of two NETWORK times moved by a number of ticks, while it stays within 39 bits and a sign. -/
theorem toInt_sub_add_ofInt {nt n0 : NetTime} {k : Int} (low : -549755813888 ≤ (nt - n0).toInt - k)
    (high : (nt - n0).toInt - k < 549755813888) : (nt - (n0 + BitVec.ofInt 40 k)).toInt = (nt - n0).toInt - k := by
  rw [sub_add_eq_sub_sub]
  generalize nt - n0 = x at low high ⊢
  rw [BitVec.toInt_sub, BitVec.toInt_ofInt, Int.sub_bmod_bmod, Int.bmod_eq_of_le] <;> norm_num <;> omega

/-- What the check finds after N_s is realigned to an anchor within 68,000 seconds of W (R50): the anchor's second less W in
whole seconds, and a part of a second. -/
theorem realigned_distance (nt n0 : NetTime) (w : Nat) (w0 : Int) (near : w0 + (nt - n0).toInt / 8000000 ≤ w + 68000)
    (near' : (w : Int) ≤ w0 + (nt - n0).toInt / 8000000 + 68000) :
    let q := (nt - n0).toInt / 8000000
    ∃ f : Int, 0 ≤ f ∧ f < 8000000
      ∧ (nt - (n0 + BitVec.ofInt 40 ((q + (w - (w0 + q))) * 8000000))).toInt = (w0 + q - w) * 8000000 + f := by
  intro q
  have split := Int.mul_ediv_add_emod (nt - n0).toInt 8000000
  have low := Int.emod_nonneg (nt - n0).toInt (show (8000000 : Int) ≠ 0 by decide)
  have high := Int.emod_lt_of_pos (nt - n0).toInt (show (0 : Int) < 8000000 by decide)
  refine ⟨(nt - n0).toInt % 8000000, low, high, ?_⟩
  rw [toInt_sub_add_ofInt]
  all_goals
    simp only [q] at *
    omega

/-- Settles O31: the checks, the anchor, then the offset part and the next-change part. -/
theorem timeSectionsSetOrRealignTheWallAndKeepTheOffset : Obligations.TimeSectionsSetOrRealignTheWallAndKeepTheOffset := by
  intro s x rest running front signed w0 n0 offset next q accepted
  have section_eq := exec_timeSection running front
  have iff : accepted ↔ 18 ≤ x.body.length ∧ s.tmb.accepts (timeBody x.body) = true := by
    rw [accepts_iff]
    exact Iff.rfl
  refine ⟨fun ok => ?_, fun bad => ?_⟩
  · obtain ⟨long, passes⟩ := iff.mp ok
    have inside : 0 ≤ (w0 : Int) + q ∧ (w0 : Int) + q ≤ 4294967295 := ok.2.2.2.2
    rw [applyTimeSection_of_accepted (s := { s with queues := { s.queues with time := rest } }) long passes] at section_eq
    intro s0
    refine ⟨fun invalid => ?_, fun valid => ?_⟩
    · intro u
      have wall : ¬ s.tmb.wallValid = true := by simp [invalid]
      rw [section_eq, if_neg wall, setOffset_eq_offsetTaken, applyNext_eq_nextTaken _ (offsetTaken_wallValid _ _)]
      rfl
    · intro w'
      rw [if_pos valid] at section_eq
      have kept : (applyCheck [] { s0 with tmb := { s0.tmb with
          ns := n0 + BitVec.ofInt 40 ((q + (s.tmb.w - w')) * 8000000) } }).tmb.wallValid = true :=
        (applyCheck_wallValid _).trans valid
      have distance (near : w' ≤ s.tmb.w + 68000) (near' : (s.tmb.w : Int) ≤ w' + 68000) : ∃ f : Int, 0 ≤ f ∧ f < 8000000
          ∧ (s.tmb.nt - (n0 + BitVec.ofInt 40 ((q + (s.tmb.w - w')) * 8000000))).toInt = (w' - s.tmb.w) * 8000000 + f :=
        realigned_distance s.tmb.nt n0 s.tmb.w w0 near near'
      let t : Tmb := { s0.tmb with ns := n0 + BitVec.ofInt 40 ((q + (s.tmb.w - w')) * 8000000) }
      refine ⟨_, exec_secondAdvance running, ?_, fun ahead near => ?_, fun behind near => ?_, fun behind near => ?_⟩
      · rw [section_eq, setOffset_eq_offsetTaken]
        exact congrArg _ (applyNext_eq_nextTaken _ ((offsetTaken_wallValid _ _).trans kept))
      · obtain ⟨f, low, high, reads⟩ := distance near (by omega)
        have reads : (t.nt - t.ns).toInt = _ := reads
        have moved : min (s.tmb.w + ((t.nt - t.ns).toInt / 8000000).toNat) 4294967295 = w'.toNat := by
          rw [reads]
          omega
        rw [applyCheck_of_check (check_of_advance (t := t) valid (by rw [reads]; omega))]
        exact ⟨moved, congrArg (fun w => s.inFlight ++ [Handover.advance w]) moved, rfl⟩
      · obtain ⟨f, low, high, reads⟩ := distance (by omega) (by omega)
        have reads : (t.nt - t.ns).toInt = _ := reads
        rw [applyCheck_of_check (check_of_still (t := t) (.inr (by rw [reads]; omega)))]
        exact ⟨rfl, List.append_nil _, rfl⟩
      · obtain ⟨f, low, high, reads⟩ := distance (by omega) near
        have reads : (t.nt - t.ns).toInt = _ := reads
        have moved : ((s.tmb.w : Int) + (t.nt - t.ns).toInt / 8000000) = w' := by
          rw [reads]
          omega
        rw [applyCheck_of_check (check_of_rewind (t := t) valid (by rw [reads]; omega) (moved ▸ inside.1))]
        have landed : ((t.w : Int) + (t.nt - t.ns).toInt / 8000000).toNat = w'.toNat := congrArg Int.toNat moved
        simp only [landed, WallMove.events, WallMove.handovers, emitAll, List.foldl_cons, List.foldl_nil, emit_eq]
        exact ⟨trivial, rfl, rfl⟩
  · rw [section_eq, applyTimeSection_of_rejected]
    rw [iff, not_and_or] at bad
    exact bad.imp not_le.mp fun fails => by simpa using fails

end Sys2Proof.Machine
end

section
/-! The gate's events, HOST_MUTE, and the events at the Parental Limit Unit in general (R162 to R164). -/

namespace Sys2Proof.Machine

/-! ### Events at the gate (R163, R164) -/

/-- An event at the gate, as one update of the part: the record with its gate state, the report and the hand-over (R163, R164). -/
theorem gateEvent_eq (change : Pgt → Pgt) (s : State) :
    let g := change s.pgt
    let isOpen := gateIsOpen g.sources g.mask g.presented.isSome
    gateEvent change s = { s with
      pgt := { g with
        isOpen
        lastChange := if isOpen = s.pgt.isOpen then g.lastChange else s.tmb.localTime
        emitted := if g.sources = s.pgt.sources ∧ isOpen = s.pgt.isOpen then g.emitted else satInc max32 g.emitted }
      rpq := if g.sources = s.pgt.sources ∧ isOpen = s.pgt.isOpen then s.rpq
        else (emit (.gateChange s.pgt.sources g.sources s.pgt.isOpen isOpen g.mask g.presented) s).rpq
      inFlight := s.inFlight ++ if isOpen = s.pgt.isOpen then [] else [.gateState isOpen] } := by
  rw [gateEvent]
  generalize change s.pgt = g
  by_cases same : gateIsOpen g.sources g.mask g.presented.isSome = s.pgt.isOpen
  · by_cases sources : g.sources = s.pgt.sources
    · rw [sources] at same
      simp [Pgt.stampChange, Pgt.recompute, same, sources]
    · simp [Pgt.stampChange, Pgt.recompute, gateChangeEvent, same, sources, emit_eq]
  · simp [Pgt.stampChange, Pgt.recompute, gateChangeEvent, same, emit_eq, send]

theorem gateIsOpen_iff (sources : Sources) (mask presenting : Bool) : gateIsOpen sources mask presenting = true
    ↔ presenting = true ∧ sources.noKey = false ∧ sources.notEntitled = false ∧ sources.hostMute = false
      ∧ (mask = true ∨ sources.rating = false ∧ sources.locked = false ∧ sources.hours = false ∧ sources.budget = false) := by
  simp [gateIsOpen, and_assoc]

theorem exec_gatePosting_dsc {s : State} {noKey notEntitled : Bool} (h : s.offered (.dscPosting noKey notEntitled)) :
    exec (.gatePosting .dsc) s = .next (gateEvent (.withDsc noKey notEntitled)
      { s with inFlight := s.others (.dscPosting noKey notEntitled) }) := by
  have front : s.nextIn .dscToPgt = some (.dscPosting noKey notEntitled) := offered_next h
  refine (whenRunning_of_running h.1 _).trans ?_
  rw [takeDscPosting, front]
  rfl

theorem exec_gatePosting_plu {s : State} {p : PluPosting} (h : s.offered (.pluPosting p)) :
    exec (.gatePosting .plu) s = .next (gateEvent (.withPlu p) { s with inFlight := s.others (.pluPosting p) }) := by
  have front : s.nextIn .pluToPgt = some (.pluPosting p) := offered_next h
  refine (whenRunning_of_running h.1 _).trans ?_
  rw [takePluPosting, front]
  rfl

theorem exec_pgtContextChange {s : State} {cause : ContextCause} {service stream : Option Nat}
    (h : s.offered (.context .pgt cause service stream)) :
    exec .pgtContextChange s = .next (gateEvent (fun g => { g with presented := service })
      { s with inFlight := s.others (.context .pgt cause service stream) }) := by
  have front : s.nextIn (.cceTo .pgt) = some (.context .pgt cause service stream) := offered_next h
  refine (whenRunning_of_running h.1 _).trans ?_
  rw [takeGateContext, front]
  rfl

/-! ### Events at the PLU in general (R157, R163) -/

/-- An event at the PLU that changes neither a source nor the mask sends no posting. -/
theorem pluEvent_of_posted {effect : State → State} {s : State} (same : (effect s).plu.posted = s.plu.posted) :
    pluEvent effect s = { effect s with plu := { (effect s).plu with accruing := (effect s).plu.accrues } } := by
  rw [pluEvent_eq, State.posts, if_pos same, List.append_nil]

/-- A refusal at the PLU leaves the part as the reply does. -/
theorem pluEvent_of_refused {effect : State → State} {s t : State} (settled : s.plu.settled) (refused : effect s = t)
    (same : t.plu = s.plu) : pluEvent effect s = t := by
  subst refused
  rw [pluEvent_of_posted (congrArg Plu.posted same)]
  have accruing : (effect s).plu.accrues = (effect s).plu.accruing := by
    rw [same]
    exact settled.symm
  rw [accruing]

/-- What an event at the PLU sends is read from the posting that its effect leaves. -/
theorem posts_congr {s s' t t' : State} (before : s'.plu.posted = s.plu.posted) (after : t'.plu.posted = t.plu.posted) :
    s'.posts t' = s.posts t := by
  rw [State.posts, State.posts, before, after]

/-! ### HOST_MUTE (R162) -/

theorem exec_hostMute_of_asking {s : State} {tag : Byte} {n value : Nat} (h : s.asking tag (.hostMute value) n) :
    exec .hostMute s = .next (pluEvent (hostMute value) s) := by
  simp only [exec, execHostMute, whenRunning_of_running h.1, asked_eq s h.2]

/-- Settles O58: an event at the gate by its one equation. -/
theorem theGateTakesPostingsAndReportsItsChanges : Obligations.TheGateTakesPostingsAndReportsItsChanges := by
  refine ⟨fun s h command g offered event => ?_, fun s tag n value asking settled high => ?_⟩
  · have taken (change : Pgt → Pgt) (answered : exec command s = .next (gateEvent change { s with inFlight := s.others h }))
        (changed : change s.pgt = g) (kept : g.lastChange = s.pgt.lastChange ∧ g.emitted = s.pgt.emitted) : ∃ t, exec command s = .next t
        ∧ (t.pgt.isOpen = true ↔ g.presented ≠ none ∧ g.sources.noKey = false ∧ g.sources.notEntitled = false
            ∧ g.sources.hostMute = false ∧ (g.mask = true ∨ g.sources.rating = false ∧ g.sources.locked = false
              ∧ g.sources.hours = false ∧ g.sources.budget = false))
        ∧ t.pgt = { g with
            isOpen := t.pgt.isOpen
            lastChange := if t.pgt.isOpen = s.pgt.isOpen then s.pgt.lastChange else s.tmb.localTime
            emitted := if g.sources = s.pgt.sources ∧ t.pgt.isOpen = s.pgt.isOpen then s.pgt.emitted
              else satInc max32 s.pgt.emitted }
        ∧ t.rpq = (if g.sources = s.pgt.sources ∧ t.pgt.isOpen = s.pgt.isOpen then s.rpq
            else (emit (.gateChange s.pgt.sources g.sources s.pgt.isOpen t.pgt.isOpen g.mask g.presented) s).rpq)
        ∧ t.inFlight = s.others h ++ (if t.pgt.isOpen = s.pgt.isOpen then [] else [.gateState t.pgt.isOpen])
        ∧ t = { s with pgt := t.pgt, rpq := t.rpq, inFlight := t.inFlight } := by
      obtain ⟨lastChange, emitted⟩ := kept
      rw [gateEvent_eq] at answered
      simp only [changed, lastChange, emitted] at answered
      refine ⟨_, answered, ?_, rfl, ?_, rfl, rfl⟩
      · rw [gateIsOpen_iff, Option.isSome_iff_ne_none]
      · simp only [emit_eq]
    rcases event with ⟨noKey, notEntitled, rfl, rfl, rfl⟩ | ⟨p, rfl, rfl, rfl⟩ | ⟨cause, service, stream, rfl, rfl, rfl⟩
    · exact taken _ (exec_gatePosting_dsc offered) rfl ⟨rfl, rfl⟩
    · exact taken _ (exec_gatePosting_plu offered) rfl ⟨rfl, rfl⟩
    · exact taken _ (exec_pgtContextChange offered) rfl ⟨rfl, rfl⟩
  · rw [exec_hostMute_of_asking asking]
    refine congrArg _ (pluEvent_of_refused settled ?_ rfl)
    rw [hostMute, if_pos high, reply_eq s .badParam asking.2]

/-- Settles O56: the request by its one equation, the gate by its composition. -/
theorem hostMuteIsSetClearedAndNeverMasked : Obligations.HostMuteIsSetClearedAndNeverMasked := by
  refine ⟨fun s tag n value asking low => ?_, fun s t p offered answered => ?_, fun s t cause due answered => ?_⟩
  · have taken := exec_hostMute_of_asking asking
    rw [pluEvent_eq, hostMute, if_neg low.not_gt, reply_eq (withPosted _ s) .ok asking.2] at taken
    exact ⟨_, taken, rfl, rfl⟩
  · cases (exec_gatePosting_plu offered).symm.trans answered
    rw [gateEvent_eq]
    refine ⟨rfl, fun mute => ?_⟩
    rw [Bool.eq_false_iff, ne_eq, gateIsOpen_iff]
    rintro ⟨-, -, -, silent, -⟩
    exact Bool.noConfusion (mute.symm.trans silent)
  · rcases answered with warm | cold
    · obtain ⟨power, lanes, draws, -, -, reset⟩ := exec_warmReset due
      cases reset.symm.trans warm
      exact ⟨rfl, rfl⟩
    · cases cold
      exact ⟨rfl, rfl⟩

end Sys2Proof.Machine
end

section
/-! The override, the profiles and their sources (R149, R150, R154, R155, R158, R160, R161). -/

namespace Sys2Proof.Machine

/-! ### The sources as they are evaluated -/

/-- A current rating and a source RATING taken from the ratings and limits held stand as R154 evaluates them. -/
theorem rated_of_evaluated {p : Plu} {presented : Option Nat} (current : p.current = p.currentFor presented)
    (rating : p.posted.rating = p.ratingSet (p.currentFor presented)) : p.rated presented := by
  rcases presented with _ | service
  · exact ⟨current, rating⟩
  · have fails (age : Nat) (flags : Advisory) : p.ratingFails age flags = true ↔ (age ≤ 7 ∧ p.limits.ceiling < age)
        ∨ flags &&& p.limits.blocked ≠ 0#4 ∨ (age = 15 ∧ p.limits.blockUnrated = true) := by
      simp [Plu.ratingFails, or_assoc]
    have limits : (if p.activeProfile.follow then p.profile 0 else p.activeProfile) = p.limits := rfl
    simp only [Plu.rated, limits]
    refine ⟨fun r held same => ?_, fun noStream => ⟨fun g held same => ?_, fun noGuide => ?_⟩⟩
    · have kept : p.presentedRating.filter (·.service == service) = some r := by simp [held, Option.filter_some, same]
      have shown : p.currentFor (some service) = .inStream r.age r.flags := by simp only [Plu.currentFor, kept]
      rw [current, rating, shown]
      exact ⟨rfl, fails _ _⟩
    · have absent : p.presentedRating.filter (·.service == service) = none := by
        rw [Option.filter_eq_none_iff]
        simpa using noStream
      have kept : p.guideRating.filter (·.service == service) = some g := by simp [held, Option.filter_some, same]
      have shown : p.currentFor (some service) = .guide g.event g.age g.flags := by simp only [Plu.currentFor, absent, kept]
      rw [current, rating, shown]
      exact ⟨rfl, fails _ _⟩
    · have absent : p.presentedRating.filter (·.service == service) = none := by
        rw [Option.filter_eq_none_iff]
        simpa using noStream
      have absent' : p.guideRating.filter (·.service == service) = none := by
        rw [Option.filter_eq_none_iff]
        simpa using noGuide
      have shown : p.currentFor (some service) = .unrated := by simp [Plu.currentFor, absent, absent']
      rw [current, rating, shown]
      exact ⟨rfl, rfl⟩

theorem presentedService_any (s : State) (p : Plu) : s.presentedService.any p.lockHolds = true
    ↔ ∃ shown, s.cce.presented = some shown ∧ shown.service ∈ p.activeProfile.locked := by
  simp [State.presentedService, Plu.lockHolds, Option.any_eq_true]

theorem isSpent_iff (p : Profile) : p.isSpent = true ↔ p.mode ≠ .none ∧ p.budget ≤ p.used := by
  simp [Profile.isSpent]

theorem windowClosed_iff (windows : List Bool) (n : Nat) : (!windows.getD n true) = true ↔ windows[n]? = some false := by
  rw [List.getD_eq_getElem?_getD]
  rcases windows[n]? with _ | _ | _ <;> simp

/-! ### The override (R160, R161) -/

/-- The end of an override, as one update of the part. -/
theorem stopOverride_of_some {s : State} {o : Override} (active : s.plu.override = some o) (cause : OverrideCause) :
    stopOverride cause s = { s with
      rpq := (emit (.overrideEnd cause o.scope) s).rpq
      plu := { s.plu with override := none, posted := { s.plu.posted with mask := false } }
      scp := { s.scp with target := if cause = .expired then s.scp.target
        else s.scp.target.filter fun e => !e.isDevice .overrideEnd } } := by
  rw [stopOverride, active]
  by_cases expired : cause = .expired
  · simp [expired, evalMask, withPosted, emit_eq]
  · simp [expired, evalMask, withPosted, emit_eq, clearEntry, removeDevice]

theorem stopOverride_of_none {s : State} (inactive : s.plu.override = none) (cause : OverrideCause) : stopOverride cause s = s := by
  rw [stopOverride, inactive]

theorem accrues_of_override {p : Plu} {o : Override} (active : p.override = some o) : p.accrues = false := by
  simp [Plu.accrues, active]

section
variable {s : State} {tag : Byte} {n : Nat}

theorem exec_override_of_asking {minutes scope : Nat} (h : s.asking tag (.override minutes scope) n) :
    exec .override s = .next (pluEvent (override minutes scope) s) := by
  simp only [exec, execOverride, whenRunning_of_running h.1, asked_eq s h.2]

theorem exec_endOverride_of_asking (h : s.asking tag .endOverride n) :
    exec .endOverride s = .next (pluEvent endOverride s) := by
  simp only [exec, execEndOverride, whenRunning_of_running h.1, asked_eq s h.2]

end

/-- An override begun in answer to a request (R160). -/
theorem beginOverride_of_asking {s : State} {tag : Byte} {n : Nat} {request : Request}
    (asked : s.rqh.inProgress = some { tag, request, reserved := n }) (valid : s.tmb.wallValid = true) (scope : Option Nat)
    (minutes : Nat) :
    let stop := s.tmb.w + 60 * minutes
    beginOverride scope minutes s = { s.replied tag request .ok (beBytes 1 minutes ++ beBytes 5 stop) with
      plu := { s.plu with override := some { scope := scope, stop := stop }, posted := { s.plu.posted with mask := true } }
      scp := { s.scp with
        target := insertEntry
          { kind := .device .overrideEnd, due := min stop 4294967295, service := scope, event := none }
          (s.scp.target.filter fun e => !e.isDevice .overrideEnd) } } := by
  intro stop
  rw [beginOverride]
  simp only [keyEntry_eq, valid, if_true]
  rw [answer_eq { s with
      plu := { s.plu with override := some { scope := scope, stop := s.tmb.w + 60 * minutes } }
      scp := { s.scp with target := deviceAt .overrideEnd (s.tmb.w + 60 * minutes) scope none s.scp.target } } .ok _ asked]
  rfl

/-- Settles O55: the refusals, the beginning and the two ends. -/
theorem overridesBeginEndAndExpire : Obligations.OverridesBeginEndAndExpire := by
  refine ⟨fun s tag n minutes scope asking settled => ?_, fun s => ?_⟩
  · have taken := exec_override_of_asking asking
    have refused (result : Result) (answer : override minutes scope s = reply result s) :
        exec .override s = .next (s.replied tag (.override minutes scope) result []) := by
      rw [taken, pluEvent_of_refused settled (answer.trans (reply_eq s result asking.2)) rfl]
    refine ⟨fun bad => refused _ ?_, fun some inside invalid => refused _ ?_, fun some named valid idle => refused _ ?_,
      fun named some valid reach => ?_⟩
    · rw [override, if_pos (by simpa using bad)]
    · rw [override, if_neg (by simp; omega), if_pos (by simp [invalid])]
    · rw [override, if_neg (by simp; omega), if_neg (by simp [valid]), if_neg (by simp [named]), State.presentedService, idle]
      rfl
    · intro minutesTaken stop
      have begun : override minutes scope s = beginOverride named minutesTaken s := by
        rw [override, if_neg (by simp; omega), if_neg (by simp [valid])]
        rcases reach with ⟨all, rfl⟩ | ⟨service, p, shown, rfl⟩
        · rw [if_pos all]
        · rw [if_neg (by simp [service]), State.presentedService, shown]
          rfl
      rw [pluEvent_eq, begun, beginOverride_of_asking asking.2 valid, accrues_of_override (o := ⟨named, stop⟩) rfl] at taken
      exact ⟨_, taken, rfl, rfl, rfl⟩
  · intro ended
    have ends {cause : OverrideCause} {r : State} {o : Override} (active : s.plu.override = some o) (same : r.plu = s.plu)
        (scp : r.scp = s.scp) (rest : State) (run : State → State) (effect : run rest = stopOverride cause r)
        (posted : rest.plu.posted = s.plu.posted) : ended cause r (pluEvent run rest) := by
      have stopped := stopOverride_of_some (s := r) (same ▸ active) cause
      rw [pluEvent_eq, effect, stopped]
      refine ⟨o, active, rfl, by simp, ?_⟩
      simp only [posts_congr (s := s) posted rfl, emit_eq, same, scp]
      rfl
    refine ⟨fun tag n asking settled => ⟨fun inactive => ?_, fun active => ?_⟩, fun due service event offered => ?_⟩
    · rw [exec_endOverride_of_asking asking]
      refine congrArg _ (pluEvent_of_refused settled ?_ rfl)
      rw [endOverride, inactive]
      exact reply_eq s .notWaiting asking.2
    · obtain ⟨o, active⟩ := Option.ne_none_iff_exists'.mp active
      refine ⟨_, exec_endOverride_of_asking asking, ends (r := s.replied tag .endOverride .ok []) active rfl rfl s _ ?_ rfl⟩
      rw [endOverride, active]
      simp only [Option.isSome_some, if_true, reply_eq s .ok asking.2]
    · intro s0
      have front : s.nextIn .scpToPlu = some (.firing .overrideEnd due service event) := offered_next offered
      have taken : exec .overrideEndFiring s = .next (if s.plu.override.any fun o => decide (o.stop ≤ s.tmb.w)
          then pluEvent (stopOverride .expired) s0 else s0) := by
        simp only [exec, execOverrideEndFiring, whenRunning_of_running offered.1, front]
        rfl
      refine ⟨fun early => ?_, fun ⟨o, active, reached⟩ => ?_⟩
      · rw [taken, if_neg]
        simp only [Option.any_eq_true, decide_eq_true_eq, not_exists, not_and, not_le]
        exact early
      · rw [if_pos (by simp [active, reached])] at taken
        exact ⟨_, taken, ends (r := s0) active rfl rfl s0 _ rfl rfl⟩

end Sys2Proof.Machine
end

section
/-! The profile requests (R149, R150). -/

namespace Sys2Proof.Machine

section
variable {s : State} {tag : Byte} {n : Nat}

theorem exec_selectProfile_of_asking {k : Nat} (h : s.asking tag (.selectProfile k) n) :
    exec .selectProfile s = .next (pluEvent (selectProfile k) s) := by
  simp only [exec, execSelectProfile, whenRunning_of_running h.1, asked_eq s h.2]

theorem exec_setProfileLimits_of_asking {k ceiling blocked policy follow : Nat}
    (h : s.asking tag (.setProfileLimits k ceiling blocked policy follow) n) :
    exec .setProfileLimits s = .next (pluEvent (setProfileLimits k ceiling blocked policy follow) s) := by
  simp only [exec, execSetProfileLimits, whenRunning_of_running h.1, asked_eq s h.2]

theorem exec_lockService_of_asking {k service : Nat} (h : s.asking tag (.lockService k service) n) :
    exec .lockService s = .next (pluEvent (lockService k service) s) := by
  simp only [exec, execLockService, whenRunning_of_running h.1, asked_eq s h.2]

theorem exec_unlockService_of_asking {k service : Nat} (h : s.asking tag (.unlockService k service) n) :
    exec .unlockService s = .next (pluEvent (unlockService k service) s) := by
  simp only [exec, execUnlockService, whenRunning_of_running h.1, asked_eq s h.2]

end

/-- A profile or service number out of range (R190). -/
theorem profileService_refused_iff (k service : Nat) :
    (decide (k > 3) || !serviceOk service) = true ↔ 3 < k ∨ service = 0 ∨ 9999 < service := by
  simp only [serviceOk, Bool.or_eq_true, decide_eq_true_eq, Bool.not_eq_true', Bool.and_eq_false_iff, decide_eq_false_iff_not]
  omega

theorem profile_withProfile_of_ne {k m : Nat} (differs : k ≠ m) (f : Profile → Profile) (s : State) :
    (withProfile k f s).plu.profile m = s.plu.profile m := by
  simp [withProfile, Plu.profile, setAt, List.getD_eq_getElem?_getD, List.getElem?_set_ne differs]

theorem profile_withProfile_same {k : Nat} {s : State} (inside : k < s.plu.profiles.length) (f : Profile → Profile) :
    (withProfile k f s).plu.profile k = f (s.plu.profile k) := by
  simp [withProfile, Plu.profile, setAt, List.getD_eq_getElem?_getD, inside]

/-- The sources of a profile change, evaluated in their order (R149). -/
theorem evaluateAll_eq (s : State) : evalBudget (evalHours (evalLocked (evalRating s))) = { s with plu := { s.plu with
    current := s.plu.currentFor s.presentedService
    posted := { s.plu.posted with
      rating := s.plu.ratingSet (s.plu.currentFor s.presentedService)
      locked := s.presentedService.any s.plu.lockHolds
      hours := !s.plu.windows.getD s.plu.active true
      budget := s.plu.activeProfile.isSpent } } } := rfl

/-- What SELECT_PROFILE makes of the part before the accrual is settled and the posting sent (R149). -/
theorem selectProfile_of_asking {s : State} {tag : Byte} {n k : Nat} (asking : s.asking tag (.selectProfile k) n) (inside : k ≤ 3) :
    let r := s.replied tag (.selectProfile k) .ok []
    let ended := stopOverride .profile { r with plu := { s.plu with active := k } }
    selectProfile k s = evalBudget (evalHours (evalLocked (evalRating { ended with
      plu := { ended.plu with remainder := 0 }, inFlight := ended.inFlight ++ [.profileChange] }))) := by
  intro r ended
  rw [selectProfile, if_neg inside.not_gt]
  simp only [reply_eq { s with plu := { s.plu with active := k } } .ok asking.2]
  rfl

/-- A change of a profile's list of locked services, whichever request makes it (R150). -/
theorem pluEvent_of_listChanged {s : State} {tag : Byte} {request : Request} {k : Nat} {after : Profile} {effect : State → State}
    (changed : effect s = lockChanged k (State.replied
      { s with plu := { s.plu with profiles := s.plu.profiles.set k after } } tag request .ok [])) :
    ∃ t, pluEvent effect s = t
      ∧ t.plu = { s.plu with
          profiles := s.plu.profiles.set k after
          posted := { s.plu.posted with locked := t.plu.posted.locked }, accruing := t.plu.accruing }
      ∧ t.plu.settled
      ∧ (k = s.plu.active → (t.plu.posted.locked = true
          ↔ ∃ shown, s.cce.presented = some shown ∧ shown.service ∈ t.plu.activeProfile.locked))
      ∧ (k ≠ s.plu.active → t.plu.posted = s.plu.posted)
      ∧ t = { s.replied tag request .ok [] with plu := t.plu, inFlight := s.inFlight ++ s.posts t } := by
  rw [pluEvent_eq, changed, lockChanged]
  split
  · rename_i own
    exact ⟨_, rfl, rfl, rfl, fun _ => presentedService_any s _, fun other => absurd own other, rfl⟩
  · rename_i other
    exact ⟨_, rfl, rfl, rfl, fun own => absurd own other, fun _ => rfl, rfl⟩

/-- Settles O54: each request by its one equation, the sources as they are evaluated. -/
theorem profilesAreSelectedLimitedAndLocked : Obligations.ProfilesAreSelectedLimitedAndLocked := by
  refine fun s tag n four active settled => ⟨fun k asking => ⟨fun out => ?_, fun inside => ?_⟩,
    fun k ceiling blocked policy follow asking => ?_, fun k service => ⟨fun asking => ?_, fun asking => ?_⟩⟩
  · rw [exec_selectProfile_of_asking asking]
    refine congrArg _ (pluEvent_of_refused settled ?_ rfl)
    rw [selectProfile, if_pos out, reply_eq s .badParam asking.2]
  · intro r p
    have taken := exec_selectProfile_of_asking asking
    rw [pluEvent_eq, selectProfile_of_asking asking inside, evaluateAll_eq] at taken
    rcases running : s.plu.override with _ | o
    · rw [stopOverride_of_none (by exact running)] at taken
      refine ⟨_, taken, rfl, ?_, presentedService_any s _, windowClosed_iff _ _, isSpent_iff _, rated_of_evaluated rfl rfl, rfl,
        fun _ => ⟨rfl, rfl, rfl⟩, ?_, ?_⟩
      · simp only [← running]
      · rintro o ⟨⟩
      · rfl
    · rw [stopOverride_of_some (o := o) (by exact running)] at taken
      refine ⟨_, taken, rfl, rfl, presentedService_any s _, windowClosed_iff _ _, isSpent_iff _, rated_of_evaluated rfl rfl, rfl,
        ?_, ?_, ?_⟩
      · rintro ⟨⟩
      · rintro o' ⟨⟩
        exact ⟨by simp [emit_eq, State.replied, r], rfl, rfl⟩
      · rfl
  · intro r
    have taken := exec_setProfileLimits_of_asking asking
    refine ⟨fun out => ?_, fun profile age flags untold follows allowed => ?_⟩
    · rw [taken]
      refine congrArg _ (pluEvent_of_refused settled ?_ rfl)
      rw [setProfileLimits, if_pos (by simp; omega), reply_eq s .badParam asking.2]
    · let limited : State := withProfile k
        (fun p => { p with ceiling, blocked := BitVec.ofNat 4 blocked, blockUnrated := policy == 1, follow := follow == 1 }) s
      have kept : ¬ (decide (k > 3) || decide (ceiling > 7) || decide (blocked > 15) || decide (policy > 1) || decide (follow > 1)
          || (k == 0 && follow == 1)) = true := by
        simp
        omega
      have answered : reply .ok limited = limited.replied tag (.setProfileLimits k ceiling blocked policy follow) .ok [] :=
        reply_eq limited .ok asking.2
      have evaluates : (decide (k = s.plu.active) || (k == 0 && limited.plu.activeProfile.follow)) = true
          ↔ k = s.plu.active ∨ k = 0 ∧ s.plu.activeProfile.follow = true := by
        simp only [Bool.or_eq_true, decide_eq_true_eq, Bool.and_eq_true, beq_iff_eq]
        by_cases own : k = s.plu.active
        · simp [own]
        · rw [show limited.plu.activeProfile = s.plu.activeProfile from profile_withProfile_of_ne own _ s]
      have effect : setProfileLimits k ceiling blocked policy follow s
          = if k = s.plu.active ∨ k = 0 ∧ s.plu.activeProfile.follow = true
            then evalRating (limited.replied tag (.setProfileLimits k ceiling blocked policy follow) .ok [])
            else limited.replied tag (.setProfileLimits k ceiling blocked policy follow) .ok [] := by
        rw [setProfileLimits, if_neg kept]
        dsimp only
        rw [show reply .ok _ = _ from answered]
        exact if_congr evaluates rfl rfl
      by_cases own : k = s.plu.active ∨ k = 0 ∧ s.plu.activeProfile.follow = true
      · rw [pluEvent_eq, effect, if_pos own] at taken
        exact ⟨_, taken, rfl, rfl, fun other follows' => absurd own (by simp_all), fun _ => rated_of_evaluated rfl rfl, rfl⟩
      · rw [pluEvent_eq, effect, if_neg own] at taken
        exact ⟨_, taken, rfl, rfl, fun _ _ => ⟨rfl, rfl⟩, fun yes => absurd yes own, rfl⟩
  · intro r p
    have taken := exec_lockService_of_asking asking
    have refused (result : Result) (answer : lockService k service s = reply result s) :
        exec .lockService s = .next (s.replied tag (.lockService k service) result []) := by
      rw [taken, pluEvent_of_refused settled (answer.trans (reply_eq s result asking.2)) rfl]
    refine ⟨fun out => refused _ ?_, fun profile low high => ?_⟩
    · rw [lockService, if_pos ((profileService_refused_iff k service).mpr out)]
    have inside : ¬ (decide (k > 3) || !serviceOk service) = true := by
      rw [profileService_refused_iff]
      omega
    refine ⟨fun held => refused _ ?_, fun absent full => refused _ ?_, fun absent room => ?_⟩
    · rw [lockService, if_neg inside, if_pos (by simpa using held)]
    · rw [lockService, if_neg inside, if_neg (by simpa using absent), if_pos full]
    · have changed : lockService k service s = lockChanged k (State.replied { s with plu := { s.plu with
          profiles := s.plu.profiles.set k { p with locked := p.locked ++ [service] } } } tag (.lockService k service) .ok []) := by
        rw [lockService, if_neg inside, if_neg (by simpa using absent), if_neg room.not_ge, reply_eq (withProfile k _ s) .ok asking.2]
        rfl
      obtain ⟨t, reached, rest⟩ := pluEvent_of_listChanged changed
      exact ⟨t, taken.trans (congrArg _ reached), rest⟩
  · intro r p
    have taken := exec_unlockService_of_asking asking
    have refused (result : Result) (answer : unlockService k service s = reply result s) :
        exec .unlockService s = .next (s.replied tag (.unlockService k service) result []) := by
      rw [taken, pluEvent_of_refused settled (answer.trans (reply_eq s result asking.2)) rfl]
    refine ⟨fun out => refused _ ?_, fun profile low high => ?_⟩
    · rw [unlockService, if_pos ((profileService_refused_iff k service).mpr out)]
    have inside : ¬ (decide (k > 3) || !serviceOk service) = true := by
      rw [profileService_refused_iff]
      omega
    refine ⟨fun absent => refused _ ?_, fun held => ?_⟩
    · rw [unlockService, if_neg inside, if_pos (by simpa using absent)]
    · have changed : unlockService k service s = lockChanged k (State.replied { s with plu := { s.plu with
          profiles := s.plu.profiles.set k { p with locked := p.locked.filter fun x => x != service } } } tag
            (.unlockService k service) .ok []) := by
        rw [unlockService, if_neg inside, if_neg (by simpa using held), reply_eq (withProfile k _ s) .ok asking.2]
        rfl
      obtain ⟨t, reached, rest⟩ := pluEvent_of_listChanged changed
      exact ⟨t, taken.trans (congrArg _ reached), rest⟩

end Sys2Proof.Machine
end

section
/-! Budgets and the day roll (R156 to R159). -/

namespace Sys2Proof.Machine

/-! ### Several event records -/

/-- The reply queue after several event records have been offered to it, in order (R182). -/
def admittedAll (es : List Event) (q : Rpq) (reserved : Nat) : Rpq := es.foldl (fun q e => admitted e q reserved) q

theorem emitAll_eq (es : List Event) (s : State) : emitAll es s = { s with rpq := admittedAll es s.rpq s.rqh.reserved } := by
  induction es generalizing s with
  | nil => rfl
  | cons e es ih =>
    change emitAll es (emit e s) = _
    rw [ih, emit_eq]
    rfl

theorem emitAll_append (es fs : List Event) (s : State) : emitAll (es ++ fs) s = emitAll fs (emitAll es s) :=
  List.foldl_append

/-! ### The tests of a budget (R158) -/

theorem warns_iff (p : Profile) : p.warns = true ↔ p.mode ≠ .none ∧ p.warned = false ∧ p.budget ≤ p.used + 5 := by
  simp [Profile.warns, and_assoc]

/-- What the two tests report of a profile (R158). -/
def testEvents (n : Nat) (before after : Profile) : List Event :=
  (if after.warns then [.budgetWarn n (after.budget - after.used)] else [])
    ++ if after.isSpent && !before.isSpent then [.budgetSpent n after.used after.budget] else []

/-- A profile once it has been tested (R158). -/
def Profile.tested (p : Profile) : Profile := { p with warned := p.warned || p.warns }

theorem tested_of_not_warns {p : Profile} (quiet : p.warns = false) : p.tested = p := by
  simp [Profile.tested, quiet]

theorem tested_of_warns {p : Profile} (warns : p.warns = true) : p.tested = { p with warned := true } := by
  simp [Profile.tested, warns]

/-- The two tests, as one update of the part. -/
theorem budgetTests_eq {n : Nat} {s : State} (before : Profile) (inside : n < s.plu.profiles.length) :
    budgetTests n before s = { s with
      plu := { s.plu with profiles := s.plu.profiles.set n (s.plu.profile n).tested }
      rpq := (emitAll (testEvents n before (s.plu.profile n)) s).rpq } := by
  have stands : s.plu.profiles.set n (s.plu.profile n) = s.plu.profiles := by
    simp [Plu.profile, List.getD_eq_getElem?_getD, inside]
  rw [budgetTests, warnTest]
  rcases warns : (s.plu.profile n).warns with _ | _
  · simp only [Bool.false_eq_true, if_false, spentTest, testEvents, warns, tested_of_not_warns warns, stands, List.nil_append]
    split <;> simp [emitAll, emit_eq]
  · have read : (emit (.budgetWarn n (s.plu.profile n).left) (withProfile n (fun p => { p with warned := true }) s)).plu.profile n
        = { s.plu.profile n with warned := true } := by
      simpa using profile_withProfile_same inside fun p => { p with warned := true }
    simp only [if_true, spentTest, read, testEvents, warns, tested_of_warns warns]
    have spent : ({ s.plu.profile n with warned := true } : Profile).isSpent = (s.plu.profile n).isSpent := rfl
    rw [spent]
    split <;> simp [emitAll, emit_eq, withProfile, setAt, Profile.left]

/-! ### SET_BUDGET with a mode code that is not listed (R156, R190) -/

theorem exec_setBudget_of_asking {s : State} {tag : Byte} {n profile mode minutes timing : Nat}
    (h : s.asking tag (.setBudget profile mode minutes timing) n) :
    exec .setBudget s = .next (pluEvent (setBudget profile mode minutes timing) s) := by
  simp only [exec, execSetBudget, whenRunning_of_running h.1, asked_eq s h.2]

/-- A code above 2 names the mode NONE in the model: the catch-all of `BudgetMode.ofCode` is read as the mode's own `none`. -/
theorem ofCode_three : BudgetMode.ofCode 3 = some .none := rfl

/-- A part that is asked for a budget of mode code 3, which R190 does not list. -/
def unlistedModeAsked : State :=
  { State.reset with
    rqh := { State.reset.rqh with inProgress := some { tag := 7#8, request := .setBudget 0 3 0 0, reserved := 1 } } }

/-- The result of the one reply in the reply queue. -/
def State.onlyResult (s : State) : Option Result :=
  match s.rpq.queue with
  | [.reply _ _ result _ _ _] => some result
  | _ => none

theorem unlistedModeAsked_accepted : ∃ t, exec .setBudget unlistedModeAsked = .next t ∧ t.onlyResult = some .ok :=
  ⟨_, exec_setBudget_of_asking (tag := 7#8) (n := 1) (profile := 0) (mode := 3) (minutes := 0) (timing := 0) ⟨rfl, rfl⟩, by decide⟩

/-- Refutes O52: SET_BUDGET with mode code 3 is answered OK, and the statement has it refused. -/
theorem not_budgetsAccrueWhileTheGateIsOpenAndAreTested : ¬ Obligations.BudgetsAccrueWhileTheGateIsOpenAndAreTested := by
  intro h
  obtain ⟨-, -, requests⟩ := h
  obtain ⟨refused, -⟩ := requests unlistedModeAsked 7#8 1 0 3 0 0 ⟨rfl, rfl⟩ rfl (by decide) rfl
  obtain ⟨t, accepted, result⟩ := unlistedModeAsked_accepted
  cases accepted.symm.trans (refused (.inr (.inl (by decide))))
  exact absurd result (by decide)

/-! ### The day roll (R159) -/

/-- A profile after a day roll and its tests (R159). -/
def Profile.rolled (p : Profile) : Profile := if p.mode = .daily
  then { p with budget := p.latch, used := 0, seconds := 0, warned := decide (p.latch ≤ 5) } else p

/-- What the tests of a day roll report of a profile (R158, R159). -/
def rollEvents (p : Profile) (n : Nat) : List Event :=
  if p.mode = .daily then
    (if p.latch ≤ 5 then [.budgetWarn n p.latch] else [])
    ++ (if p.latch = 0 ∧ p.used < p.budget then [.budgetSpent n 0 0] else [])
  else []

theorem tested_roll {p : Profile} (daily : p.mode = .daily) : p.roll.tested = p.rolled := by
  simp [Profile.tested, Profile.roll, Profile.rolled, Profile.warns, daily]

theorem testEvents_roll {p : Profile} (daily : p.mode = .daily) (n : Nat) : testEvents n p p.roll = rollEvents p n := by
  have warns : p.roll.warns = decide (p.latch ≤ 5) := by simp [Profile.roll, Profile.warns, daily]
  have spends : (p.roll.isSpent && !p.isSpent) = decide (p.latch = 0 ∧ p.used < p.budget) := by
    have limited : (BudgetMode.daily != BudgetMode.none) = true := rfl
    simp only [Profile.roll, Profile.isSpent, daily, limited, if_true, Bool.true_and, Nat.le_zero, Bool.decide_and, ← not_le,
      decide_not]
  have rolled : p.roll = { p with budget := p.latch, used := 0, seconds := 0, warned := false } := by simp [Profile.roll, daily]
  rw [testEvents, warns, spends, rollEvents, if_pos daily, rolled]
  by_cases zero : p.latch = 0 ∧ p.used < p.budget
  · simp [zero]
  · simp [zero]

/-- The tests of the profile of one number at a day roll (R159). -/
theorem rollTest_eq {before : Plu} {n : Nat} {p : Profile} {s : State} (old : before.profile n = p) (new : s.plu.profile n = p.roll)
    (inside : n < s.plu.profiles.length) :
    (if (before.profile n).mode = .daily then budgetTests n (before.profile n) s else s) = { s with
      plu := { s.plu with profiles := s.plu.profiles.set n p.rolled }
      rpq := (emitAll (rollEvents p n) s).rpq } := by
  rw [old]
  by_cases daily : p.mode = .daily
  · rw [if_pos daily, budgetTests_eq p inside, new, tested_roll daily, testEvents_roll daily]
  · have stands : s.plu.profiles.set n p.rolled = s.plu.profiles := by
      have same : p.rolled = s.plu.profile n := by rw [new, Profile.rolled, Profile.roll, if_neg daily, if_neg daily]
      rw [same]
      simp [Plu.profile, List.getD_eq_getElem?_getD, inside]
    rw [if_neg daily, stands, rollEvents, if_neg daily]
    rfl

/-- The tests of the four profiles at a day roll, in order (R159). -/
theorem rollTests_eq {before : Plu} {s : State} (four : before.profiles.length = 4)
    (rolled : s.plu.profiles = before.profiles.map Profile.roll) : rollTests before s = { s with
      plu := { s.plu with profiles := before.profiles.map Profile.rolled }
      rpq := (emitAll (before.profiles.zipIdx.flatMap fun (p, n) => rollEvents p n) s).rpq } := by
  obtain ⟨p0, p1, p2, p3, list⟩ : ∃ p0 p1 p2 p3, before.profiles = [p0, p1, p2, p3] := by
    match before.profiles, four with
    | [p0, p1, p2, p3], _ => exact ⟨p0, p1, p2, p3, rfl⟩
  rw [list] at rolled
  rw [rollTests, show List.range 4 = [0, 1, 2, 3] from rfl]
  simp only [List.foldl_cons, List.foldl_nil]
  rw [rollTest_eq (n := 0) (p := p0) (by simp [Plu.profile, list]) (by simp [Plu.profile, rolled]) (by simp [rolled]),
    rollTest_eq (n := 1) (p := p1) (by simp [Plu.profile, list]) (by simp [Plu.profile, rolled]) (by simp [rolled]),
    rollTest_eq (n := 2) (p := p2) (by simp [Plu.profile, list]) (by simp [Plu.profile, rolled]) (by simp [rolled]),
    rollTest_eq (n := 3) (p := p3) (by simp [Plu.profile, list]) (by simp [Plu.profile, rolled]) (by simp [rolled])]
  simp [list, rolled, emitAll_eq, admittedAll, List.foldl_append]

/-- A day roll, as one update of the part but for BUDGET (R159). -/
theorem rollDay_eq {s : State} (stored : Int) (four : s.plu.profiles.length = 4) :
    let plu := { s.plu with profiles := s.plu.profiles.map Profile.rolled, dayNumber := some s.tmb.day }
    rollDay stored s = { s with
      plu := { plu with posted := { s.plu.posted with budget := plu.activeProfile.isSpent } }
      rpq := (emitAll (.dayRoll s.tmb.day stored :: s.plu.profiles.zipIdx.flatMap fun (p, n) => rollEvents p n) s).rpq
      inFlight := s.inFlight ++ [.dayRoll] } := by
  intro plu
  rw [rollDay]
  simp only [emit_eq]
  rw [rollTests_eq four rfl]
  simp only [emitAll_eq]
  rfl

theorem day_eq (t : Tmb) : t.day = ((t.w : Int) + 60 * t.offset) / 86400 := rfl

theorem exec_dayRollFiring {s : State} {due : Nat} {n e : Option Nat} (h : s.offered (.firing .dayRoll due n e)) :
    exec .dayRollFiring s = .next (pluEvent rollIfRisen { s with inFlight := s.others (.firing .dayRoll due n e) }) := by
  have front : s.nextIn .scpToPlu = some (.firing .dayRoll due n e) := offered_next h
  simp only [exec, execDayRollFiring, whenRunning_of_running h.1, front]
  rfl

theorem exec_pluOffsetChange {s : State} (h : s.offered (.offsetChange .plu)) :
    exec .pluOffsetChange s = .next (pluEvent rollIfRisen { s with inFlight := s.others (.offsetChange .plu) }) := by
  have front : s.nextIn (.tmbTo .plu) = some (.offsetChange .plu) := offered_next h
  simp only [exec, execPluOffsetChange, whenRunning_of_running h.1, front]
  rfl

theorem exec_pluWallSet {s : State} (h : s.offered (.wallSet .plu)) :
    exec .pluWallSet s = .next (pluEvent rollAtWallSet { s with inFlight := s.others (.wallSet .plu) }) := by
  have front : s.nextIn (.tmbTo .plu) = some (.wallSet .plu) := offered_next h
  simp only [exec, execPluWallSet, whenRunning_of_running h.1, front]
  rfl

/-- What a command does that rolls the day where `rolls` says so, and stores `first` where no day number is stored (R159). -/
theorem rolled_of {s : State} {h : Handover} {command : Instr} {effect : State → State} {rolls : Int → Prop} {first : Option Int}
    (four : s.plu.profiles.length = 4) (answered : exec command s = .next (pluEvent effect { s with inFlight := s.others h }))
    (fresh : ∀ u : State, u.plu = s.plu → u.tmb = s.tmb → s.plu.dayNumber = none →
      effect u = { u with plu := { u.plu with dayNumber := first } })
    (stays : ∀ u : State, u.plu = s.plu → u.tmb = s.tmb → ∀ stored, s.plu.dayNumber = some stored → ¬ rolls stored → effect u = u)
    (moves : ∀ u : State, u.plu = s.plu → u.tmb = s.tmb → ∀ stored, s.plu.dayNumber = some stored → rolls stored →
      effect u = rollDay stored u) : ∃ t, exec command s = .next t ∧ t.plu.settled
      ∧ (s.plu.dayNumber = none → t.plu = { s.plu with dayNumber := first, accruing := t.plu.accruing }
          ∧ t.rpq = s.rpq ∧ t.inFlight = s.others h)
      ∧ (∀ stored, s.plu.dayNumber = some stored →
        (¬ rolls stored → t.plu = { s.plu with accruing := t.plu.accruing } ∧ t.rpq = s.rpq ∧ t.inFlight = s.others h)
        ∧ (rolls stored →
          t.plu = { s.plu with
            profiles := s.plu.profiles.map Profile.rolled, dayNumber := some s.tmb.day, accruing := t.plu.accruing
            posted := { s.plu.posted with budget := t.plu.posted.budget } }
          ∧ (t.plu.posted.budget = true ↔ t.plu.activeProfile.mode ≠ .none
              ∧ t.plu.activeProfile.budget ≤ t.plu.activeProfile.used)
          ∧ t.rpq = (emitAll (.dayRoll s.tmb.day stored :: s.plu.profiles.zipIdx.flatMap fun (p, n) => rollEvents p n) s).rpq
          ∧ t.inFlight = s.others h ++ [.dayRoll] ++ s.posts t))
      ∧ t = { s with plu := t.plu, rpq := t.rpq, inFlight := t.inFlight } := by
  rw [pluEvent_eq] at answered
  rcases stored : s.plu.dayNumber with _ | day
  · rw [fresh { s with inFlight := s.others h } rfl rfl stored] at answered
    exact ⟨_, answered, rfl, fun _ => ⟨rfl, rfl, by simp [State.posts]⟩, by rintro _ ⟨⟩, rfl⟩
  · by_cases moved : rolls day
    · rw [moves { s with inFlight := s.others h } rfl rfl day stored moved,
        rollDay_eq (s := { s with inFlight := s.others h }) day four] at answered
      refine ⟨_, answered, rfl, by rintro ⟨⟩, ?_, rfl⟩
      rintro _ ⟨⟩
      refine ⟨fun still => absurd moved still, fun _ => ⟨rfl, isSpent_iff _, ?_, rfl⟩⟩
      simp only [emitAll_eq]
    · rw [stays { s with inFlight := s.others h } rfl rfl day stored moved] at answered
      refine ⟨_, answered, rfl, by rintro ⟨⟩, ?_, rfl⟩
      rintro _ ⟨⟩
      exact ⟨fun _ => ⟨rfl, rfl, by simp [State.posts]⟩, fun yes => absurd yes moved⟩

/-- Settles O53: the three commands roll by one rule, each with its test of the day number. -/
theorem dayRollsRenewTheDailyBudgets : Obligations.DayRollsRenewTheDailyBudgets := by
  intro s h command offered four active which day rolls
  have risen (u : State) (plu : u.plu = s.plu) (tmb : u.tmb = s.tmb) (stored : Int) (held : s.plu.dayNumber = some stored) :
      rollIfRisen u = if stored < day then rollDay stored u else u := by
    rw [rollIfRisen, plu, tmb, held]
    rfl
  have unset (u : State) (plu : u.plu = s.plu) (unstored : s.plu.dayNumber = none) : rollIfRisen u
      = { u with plu := { u.plu with dayNumber := none } } := by
    rw [← plu] at unstored
    rw [rollIfRisen, unstored]
    change u = _
    rw [← unstored]
  have atRise (other : h ≠ .wallSet .plu) (answered : exec command s = .next (pluEvent rollIfRisen { s with inFlight := s.others h })) :=
    rolled_of (rolls := rolls) (first := if h = .wallSet .plu then some day else none) four answered
      (fun u plu _ unstored => by rw [unset u plu unstored, if_neg other])
      (fun u plu tmb stored held still => by
        rw [risen u plu tmb stored held, if_neg]
        simpa only [rolls, if_neg other] using still)
      (fun u plu tmb stored held moved => by
        rw [risen u plu tmb stored held, if_pos]
        simpa only [rolls, if_neg other] using moved)
  rcases which with ⟨⟨due, n, e, rfl⟩, rfl⟩ | ⟨rfl, rfl⟩ | ⟨rfl, rfl⟩
  · exact atRise (by simp) (exec_dayRollFiring offered)
  · exact atRise (by simp) (exec_pluOffsetChange offered)
  · refine rolled_of (rolls := rolls) (first := if Handover.wallSet .plu = .wallSet .plu then some day else none) four
      (exec_pluWallSet offered) (fun u plu tmb unstored => ?_) (fun u plu tmb stored held still => ?_)
      (fun u plu tmb stored held moved => ?_)
    · rw [rollAtWallSet, plu, tmb, unstored, if_pos rfl]
      rfl
    · have same : stored = day := by simpa [rolls] using still
      rw [rollAtWallSet, plu, tmb, held]
      exact if_pos same
    · have differs : stored ≠ day := by simpa [rolls] using moved
      rw [rollAtWallSet, plu, tmb, held]
      exact if_neg differs

end Sys2Proof.Machine
end

section
/-! Ratings (R151 to R154). -/

namespace Sys2Proof.Machine

theorem exec_ratingSection {s : State} {x : Section} {rest : List Section} (running : s.running = true)
    (front : s.queues.rating = x :: rest) : exec .ratingSection s
      = .next (pluEvent (applyRatingSection x) { s with queues := { s.queues with rating := rest } }) := by
  refine (whenRunning_of_running running _).trans ?_
  rw [consume_cons (c := .rating) s (fun x => pluEvent (applyRatingSection x)) front]
  rfl

theorem exec_nowEventNotice {s : State} {service : Option Nat} {event : Option NowEvent} (h : s.offered (.nowEvent service event)) :
    exec .nowEventNotice s = .next (pluEvent (takeNowEvent service event) { s with inFlight := s.others (.nowEvent service event) }) := by
  have front : s.nextIn .gdsToPlu = some (.nowEvent service event) := offered_next h
  simp only [exec, execNowEventNotice, whenRunning_of_running h.1, front]
  rfl

theorem exec_pluContextChange {s : State} {cause : ContextCause} {service stream : Option Nat}
    (h : s.offered (.context .plu cause service stream)) : exec .pluContextChange s
      = .next (pluEvent (takeContext cause service stream) { s with inFlight := s.others (.context .plu cause service stream) }) := by
  have front : s.nextIn (.cceTo .plu) = some (.context .plu cause service stream) := offered_next h
  simp only [exec, execPluContextChange, whenRunning_of_running h.1, front]
  rfl

theorem ratingBody_eq (body : List Byte) : ratingBody body = if 2 ≤ body.length
    then some (fieldAt body 0 1 % 16, (byteAt body 1).extractLsb' 0 4) else none := by
  rw [ratingBody, toNat_byteAt]
  by_cases short : body.length < 2
  · rw [if_pos short, if_neg short.not_ge]
  · rw [if_neg short, if_pos (not_lt.mp short)]

/-! ### What a RATING section is for (R152) -/

theorem ratesPresentation_isSome (x : Section) (s : State) : (ratesPresentation x s).isSome = true
    ↔ ∃ p, s.cce.presented = some p ∧ x.port = .a ∧ x.stream = p.mapStream ∧ x.key = p.service := by
  rw [ratesPresentation]
  rcases s.cce.presented with _ | p <;> simp [Option.filter_some, and_assoc]

theorem ratesChange_isSome (x : Section) (s : State) : (ratesChange x s).isSome = true
    ↔ ∃ c, s.cce.change = some c ∧ x.port = .a ∧ x.stream = c.mapStream ∧ x.key = c.service
      ∧ (s.cce.engine = .waitMap ∨ s.cce.engine = .waitKey ∨ s.cce.engine = .waitSplice) := by
  rw [ratesChange]
  rcases s.cce.change with _ | c <;> rcases s.cce.engine <;> simp [Option.filter_some, and_assoc]

theorem repeatsPresented_iff (x : Section) (p : Plu) : repeatsPresented x p = true
    ↔ ∃ r, p.presentedRating = some r ∧ r.service = x.key ∧ r.version = x.version := by
  rw [repeatsPresented]
  rcases p.presentedRating with _ | r <;> simp

theorem repeatsPrepared_iff (x : Section) (p : Plu) : repeatsPrepared x p = true
    ↔ ∃ r, p.preparedRating = some r ∧ r.service = x.key ∧ r.mapStream = x.stream ∧ r.version = x.version := by
  rw [repeatsPrepared]
  rcases p.preparedRating with _ | r <;> simp [and_assoc]

/-- The part with its in-stream ratings and the count of the applied sections set (R152). -/
def State.withRatings (s : State) (presentedRating : Option StreamRating) (preparedRating : Option PreparedRating) (applied : Nat) :
    State :=
  { s with plu := { s.plu with presentedRating, preparedRating, applied } }

theorem applyRatingSection_of_bad {s : State} {x : Section} (bad : ratingBody x.body = none) :
    applyRatingSection x s = { s with plu := { s.plu with rejected := satInc max32 s.plu.rejected } } := by
  rw [applyRatingSection, bad]

theorem applyRatingSection_of_ignored {s : State} {x : Section} {sent : Nat} {flags : Advisory}
    (body : ratingBody x.body = some (sent, flags)) (shown : (ratesPresentation x s).isSome = false)
    (prepared : (ratesChange x s).isSome = false) :
    applyRatingSection x s = { s with plu := { s.plu with ignored := satInc max32 s.plu.ignored } } := by
  rw [applyRatingSection, body]
  simp only [shown, prepared]
  rfl

theorem applyRatingSection_of_taken {s : State} {x : Section} {sent : Nat} {flags : Advisory}
    (body : ratingBody x.body = some (sent, flags))
    (listed : (ratesPresentation x s).isSome = true ∨ (ratesChange x s).isSome = true) :
    let setShown := (ratesPresentation x s).isSome && !repeatsPresented x s.plu
    let setPrepared := (ratesChange x s).isSome && !repeatsPrepared x s.plu
    ∃ presentedRating preparedRating applied, applyRatingSection x s
        = (if setShown then evalRating (s.withRatings presentedRating preparedRating applied)
          else s.withRatings presentedRating preparedRating applied)
      ∧ presentedRating = (if setShown then some { service := x.key, version := x.version, age := ageTaken sent, flags }
        else s.plu.presentedRating)
      ∧ preparedRating = (if setPrepared then some
          { service := x.key, mapStream := x.stream, version := x.version, age := ageTaken sent, flags } else s.plu.preparedRating)
      ∧ applied = if setShown || setPrepared then satInc max32 s.plu.applied else s.plu.applied := by
  have counted : ¬ (!(ratesPresentation x s).isSome && !(ratesChange x s).isSome) = true := by
    rcases listed with shown | prepared
    · simp [shown]
    · simp [prepared]
  refine ⟨_, _, _, ?_, rfl, rfl, rfl⟩
  rw [applyRatingSection, body]
  dsimp only
  rw [if_neg counted]
  rfl

/-! ### A change of context (R153) -/

theorem adopted_eq_some_iff (service stream : Option Nat) (p : Plu) (r : StreamRating) : adopted service stream p = some r
    ↔ ∃ q, p.preparedRating = some q ∧ service = some q.service ∧ stream = some q.mapStream
      ∧ r = { service := q.service, version := q.version, age := q.age, flags := q.flags } := by
  rw [adopted]
  rcases p.preparedRating with _ | q
  · simp
  · rw [Option.filter_some]
    by_cases fits : some q.service = service ∧ some q.mapStream = stream
    · obtain ⟨rfl, rfl⟩ := fits
      simp [eq_comm]
    · rw [if_neg (by simpa using fits)]
      simp only [Option.map_none, reduceCtorEq, false_iff, not_exists, not_and]
      rintro _ ⟨⟩ service_eq stream_eq
      exact absurd ⟨service_eq.symm, stream_eq.symm⟩ fits

/-- Whether a change of context ends the override, and with which cause. -/
theorem contextEnds_eq_some_iff (cause : ContextCause) (service : Option Nat) (o : Option Override) (why : OverrideCause) :
    contextEnds cause service o = some why ↔ ∃ x, o = some x
      ∧ (cause = .splice ∧ why = .splice ∧ (∃ named, x.scope = some named ∧ service ≠ some named)
        ∨ cause = .standby ∧ why = .standby) := by
  rcases o with _ | ⟨scope, stop⟩
  · cases cause <;> simp [contextEnds]
  · rcases scope with _ | named
    · cases cause <;> simp [contextEnds, eq_comm]
    · cases cause
      · by_cases same : service = some named <;> simp [contextEnds, same, eq_comm]
      all_goals simp [contextEnds, eq_comm]

/-- The part once the ratings have followed a change of context (R153). -/
def State.contextTaken (s : State) (cause : ContextCause) (service stream : Option Nat) : State :=
  { s with plu := { s.plu with
    presentedRating := if cause = .splice then adopted service stream s.plu else none
    preparedRating := none
    guideRating := s.plu.guideRating.filter fun g => some g.service == service } }

theorem takeContext_of_kept {s : State} {cause : ContextCause} {service : Option Nat}
    (kept : contextEnds cause service s.plu.override = none) (stream : Option Nat) :
    takeContext cause service stream s = evalLocked (evalRating (s.contextTaken cause service stream)) := by
  simp only [takeContext, kept]
  rfl

theorem takeContext_of_ended {s : State} {cause : ContextCause} {service : Option Nat} {why : OverrideCause}
    (ended : contextEnds cause service s.plu.override = some why) (stream : Option Nat) :
    takeContext cause service stream s
      = evalLocked (evalRating (stopOverride why (s.contextTaken cause service stream))) := by
  simp only [takeContext, ended]
  rfl

/-- Settles O51: the three commands. -/
theorem ratingsAreTakenAndTheRatingSourceEvaluated : Obligations.RatingsAreTakenAndTheRatingSourceEvaluated := by
  refine ⟨ratingBody_eq, fun s x rest running front => ?_, fun s service event offered => ?_, fun s cause service stream offered => ?_⟩
  · intro s0 shown prepared repeated prepeated
    have taken := exec_ratingSection running front
    have shown_iff : (ratesPresentation x s0).isSome = true ↔ shown := ratesPresentation_isSome x s0
    have prepared_iff : (ratesChange x s0).isSome = true ↔ prepared := ratesChange_isSome x s0
    have repeated_iff : repeatsPresented x s0.plu = true ↔ repeated := repeatsPresented_iff x s.plu
    have prepeated_iff : repeatsPrepared x s0.plu = true ↔ prepeated := repeatsPrepared_iff x s.plu
    rw [pluEvent_eq] at taken
    rcases body : ratingBody x.body with _ | ⟨sent, flags⟩
    · rw [applyRatingSection_of_bad body] at taken
      exact ⟨_, taken, rfl, fun _ => rfl, by rintro _ _ ⟨⟩, rfl, rfl⟩
    by_cases listed : shown ∨ prepared
    · obtain ⟨shows, next, count, effect, shows_eq, next_eq, count_eq⟩ :=
        applyRatingSection_of_taken (s := s0) body (listed.imp shown_iff.mpr prepared_iff.mpr)
      have setShown_iff : ((ratesPresentation x s0).isSome && !repeatsPresented x s0.plu) = true ↔ shown ∧ ¬ repeated := by
        rw [Bool.and_eq_true, Bool.not_eq_true', ← Bool.not_eq_true, shown_iff, repeated_iff]
      have setPrepared_iff : ((ratesChange x s0).isSome && !repeatsPrepared x s0.plu) = true ↔ prepared ∧ ¬ prepeated := by
        rw [Bool.and_eq_true, Bool.not_eq_true', ← Bool.not_eq_true, prepared_iff, prepeated_iff]
      generalize ((ratesPresentation x s0).isSome && !repeatsPresented x s0.plu) = setShown
        at effect shows_eq count_eq setShown_iff
      generalize ((ratesChange x s0).isSome && !repeatsPrepared x s0.plu) = setPrepared at next_eq count_eq setPrepared_iff
      have counts (inst : Decidable ((shown ∧ ¬ repeated) ∨ (prepared ∧ ¬ prepeated))) :
          count = @ite Nat _ inst (satInc max32 s.plu.applied) s.plu.applied :=
        count_eq.trans (if_congr (by rw [Bool.or_eq_true, setShown_iff, setPrepared_iff]) rfl rfl)
      have prepares (yes : prepared) (fresh : ¬ prepeated) := next_eq.trans (if_pos (setPrepared_iff.mpr ⟨yes, fresh⟩))
      have preparesNot (kept : ¬ prepared ∨ prepeated) := next_eq.trans (if_neg (setPrepared_iff.not.mpr fun both =>
        kept.elim (absurd both.1) both.2))
      by_cases sets : setShown = true
      · rw [effect, if_pos sets] at taken
        refine ⟨_, taken, rfl, by rintro ⟨⟩, ?_, rfl, rfl⟩
        rintro _ _ ⟨⟩
        exact ⟨fun no no' => absurd listed (not_or.mpr ⟨no, no'⟩),
          fun _ _ => ⟨rated_of_evaluated rfl rfl, shows_eq.trans (if_pos sets)⟩,
          fun kept => kept.elim (absurd (setShown_iff.mp sets).1) fun again => absurd again (setShown_iff.mp sets).2,
          prepares, preparesNot, fun _ => counts _⟩
      · rw [effect, if_neg sets] at taken
        refine ⟨_, taken, rfl, by rintro ⟨⟩, ?_, rfl, rfl⟩
        rintro _ _ ⟨⟩
        exact ⟨fun no no' => absurd listed (not_or.mpr ⟨no, no'⟩), fun yes fresh => absurd (setShown_iff.mpr ⟨yes, fresh⟩) sets,
          fun _ => ⟨shows_eq.trans (if_neg sets), rfl, rfl⟩, prepares, preparesNot, fun _ => counts _⟩
    · rw [not_or] at listed
      rw [applyRatingSection_of_ignored body (by simpa using shown_iff.not.mpr listed.1)
        (by simpa using prepared_iff.not.mpr listed.2)] at taken
      refine ⟨_, taken, rfl, by rintro ⟨⟩, ?_, rfl, rfl⟩
      rintro _ _ ⟨⟩
      exact ⟨fun _ _ => rfl, fun yes => absurd yes listed.1, fun _ => ⟨rfl, rfl, rfl⟩, fun yes => absurd yes listed.2,
        fun _ => rfl, fun either => absurd either (not_or.mpr listed)⟩
  · have taken := exec_nowEventNotice offered
    rw [pluEvent_eq] at taken
    exact ⟨_, taken, rfl, rated_of_evaluated rfl rfl, rfl, rfl, rfl⟩
  · intro ends
    have taken := exec_pluContextChange offered
    have ends_iff (why : OverrideCause) : contextEnds cause service s.plu.override = some why ↔ ends why :=
      contextEnds_eq_some_iff cause service _ why
    have presented (r : StreamRating) : (if cause = .splice then adopted service stream s.plu else none) = some r
        ↔ cause = .splice ∧ ∃ q, s.plu.preparedRating = some q ∧ service = some q.service ∧ stream = some q.mapStream
          ∧ r = { service := q.service, version := q.version, age := q.age, flags := q.flags } := by
      by_cases splice : cause = .splice
      · rw [if_pos splice, adopted_eq_some_iff]
        simp [splice]
      · simp [splice]
    have guide (g : GuideRating) : (s.plu.guideRating.filter fun g => some g.service == service) = some g
        ↔ s.plu.guideRating = some g ∧ service = some g.service := by
      rw [Option.filter_eq_some_iff, beq_iff_eq, eq_comm (a := some g.service)]
    rw [pluEvent_eq] at taken
    rcases found : contextEnds cause service s.plu.override with _ | why
    · have none_ends (why : OverrideCause) : ¬ ends why := by
        rw [← ends_iff, found]
        rintro ⟨⟩
      rw [takeContext_of_kept (by exact found)] at taken
      exact ⟨_, taken, rfl, rated_of_evaluated rfl rfl, presentedService_any s _, rfl, presented, guide,
        fun _ => ⟨rfl, rfl, rfl, rfl⟩, fun why yes => absurd yes (none_ends why), rfl, rfl⟩
    · have this_ends : ends why := (ends_iff why).mp found
      obtain ⟨o, active, reason⟩ := id this_ends
      rw [takeContext_of_ended (by exact found), stopOverride_of_some (o := o) (by exact active)] at taken
      have standing : why ≠ .expired := by
        rintro rfl
        rcases reason with ⟨-, other, -⟩ | ⟨-, other⟩ <;> cases other
      rw [if_neg standing] at taken
      refine ⟨_, taken, rfl, rated_of_evaluated rfl rfl, presentedService_any s _, rfl, presented, guide,
        fun none_ends => absurd this_ends (none_ends why), fun why' yes => ⟨rfl, rfl, rfl, fun o' active' => ?_⟩, rfl, rfl⟩
      cases active.symm.trans active'
      have same : why' = why := Option.some.inj (((ends_iff why').mpr yes).symm.trans found)
      simp only [same, emit_eq]
      rfl

end Sys2Proof.Machine
end

section
/-! Viewing hours and the hand-overs of the schedule comparator (R54, R65 to R71, R155). -/

namespace Sys2Proof.Machine

/-! ### Window states (R70, R71) -/

/-- A profile's window at a minute: open where no range names it, or where one that names it covers the minute (R70). -/
def openAt (ranges : List HoursRange) (minute profile : Nat) : Bool :=
  ranges.all (fun r => r.profile != some profile) || ranges.any fun r => r.profile == some profile && r.covers minute

theorem windowOpen_eq (ranges : List HoursRange) (p : Nat) : windowOpen ranges p
    = (ranges.all (fun r => r.profile != some p) || ranges.any fun r => r.profile == some p && r.contains) := by
  rw [windowOpen, List.any_filter, Bool.eq_iff_iff]
  simp [List.isEmpty_iff]

theorem windowOpen_flagged (minute p : Nat) (ranges : List HoursRange) :
    windowOpen (flagged minute ranges) p = openAt ranges minute p := by
  rw [windowOpen_eq, flagged, openAt, List.all_map, List.any_map]
  congr 1
  refine congrArg (List.any ranges) (funext fun r => ?_)
  rcases r with ⟨profile, lower, upper, contains⟩
  cases profile <;> rfl

theorem windowsOf_flagged (minute : Nat) (ranges : List HoursRange) :
    windowsOf (flagged minute ranges) = (List.range 4).map (openAt ranges minute) :=
  List.map_congr_left fun p _ => windowOpen_flagged minute p ranges

/-- The comparator once its ranges are evaluated at a minute (R70). -/
theorem evaluate_eq (p : Scp) (minute : Nat) : p.evaluate minute =
    { p with ranges := flagged minute p.ranges, windows := (List.range 4).map (openAt p.ranges minute), lastMinute := some minute } := by
  rw [← windowsOf_flagged]
  rfl

theorem evaluateRanges_of_valid {s : State} (wall : s.tmb.wallValid = true) : evaluateRanges s =
    { s with
      scp := s.scp.evaluate s.tmb.minute
      inFlight := s.inFlight ++ [.windowStates (s.scp.evaluate s.tmb.minute).windows] } := by
  rw [evaluateRanges, if_pos wall]
  rfl

theorem evaluateRanges_of_invalid {s : State} (wall : s.tmb.wallValid = false) : evaluateRanges s =
    { s with inFlight := s.inFlight ++ [.windowStates s.scp.windows] } := by
  rw [evaluateRanges, if_neg (by simp [wall])]
  rfl

/-! ### The wall in local time (R54) -/

theorem minute_spec (t : Tmb) : 60 * (t.minute : Int) ≤ t.lw % 86400 ∧ t.lw % 86400 < 60 * t.minute + 60 ∧ t.minute < 1440 := by
  rw [Tmb.minute]
  omega

theorem day_spec (t : Tmb) : 86400 * t.day ≤ t.lw ∧ t.lw < 86400 * (t.day + 1) := by
  rw [Tmb.day]
  omega

theorem midnight_spec (t : Tmb) : (t.midnight : Int) + 60 * t.offset = 86400 * (t.day + 1) ∧ t.w < t.midnight := by
  have inDay := (day_spec t).2
  rw [Tmb.lw] at inDay
  rw [Tmb.midnight]
  omega

/-! ### Hand-overs at the comparator (R65 to R68, R71) -/

/-- DAY_ROLL's entry at the next local midnight (R65). -/
def Tmb.dayRollEntry (t : Tmb) : Entry :=
  { kind := .device .dayRoll, due := min t.midnight 4294967295, service := none, event := none }

/-- The state with DAY_ROLL kept in the table, where the wall is valid (R65). -/
theorem keepDayRoll_of_valid {s : State} (wall : s.tmb.wallValid = true) : keepDayRoll s =
    { s with scp := { s.scp with
        target := insertEntry s.tmb.dayRollEntry (s.scp.target.filter fun e => !e.isDevice .dayRoll) } } := by
  rw [keepDayRoll, keyEntry_eq, if_pos wall]
  rfl

theorem keepDayRoll_of_invalid {s : State} (wall : s.tmb.wallValid = false) : keepDayRoll s = s := by
  rw [keepDayRoll, keyEntry_eq, if_neg (by simp [wall])]

theorem evaluateIfMoved_of_moved {s : State} (wall : s.tmb.wallValid = true) (moved : s.scp.lastMinute ≠ some s.tmb.minute) :
    evaluateIfMoved s = evaluateRanges s := if_pos (by simp [wall, moved])

theorem evaluateIfMoved_of_still {s : State} (still : ¬ (s.tmb.wallValid = true ∧ s.scp.lastMinute ≠ some s.tmb.minute)) :
    evaluateIfMoved s = s := if_neg (by simpa using still)

/-- The comparator with DAY_ROLL kept in its table (R65). -/
def State.rolling (s : State) : Scp :=
  { s.scp with target := insertEntry s.tmb.dayRollEntry (s.scp.target.filter fun e => !e.isDevice .dayRoll) }

/-- DAY_ROLL kept and the ranges evaluated, as at WALL_SET and at an offset change (R65, R66, R68). -/
theorem evaluateRanges_keepDayRoll {s : State} (wall : s.tmb.wallValid = true) : evaluateRanges (keepDayRoll s) =
    { s with
      scp := s.rolling.evaluate s.tmb.minute
      inFlight := s.inFlight ++ [.windowStates (s.rolling.evaluate s.tmb.minute).windows] } := by
  rw [keepDayRoll_of_valid wall]
  exact evaluateRanges_of_valid (s := { s with scp := s.rolling }) wall

/-- DAY_ROLL kept, and the ranges evaluated where the minute has moved, as at a rewind (R67, R71). -/
theorem evaluateIfMoved_keepDayRoll {s : State} (wall : s.tmb.wallValid = true) : evaluateIfMoved (keepDayRoll s) =
    if s.scp.lastMinute = some s.tmb.minute then { s with scp := s.rolling } else evaluateRanges (keepDayRoll s) := by
  rw [keepDayRoll_of_valid wall]
  split
  · rename_i still
    exact evaluateIfMoved_of_still (s := { s with scp := s.rolling }) fun both => both.2 still
  · rename_i moved
    exact evaluateIfMoved_of_moved (s := { s with scp := s.rolling }) wall moved

/-- What each of the four hand-overs makes of the state without it. -/
def scpEffect (h : Handover) (s : State) : State :=
  match h with
  | .profileChange => evaluateRanges s
  | .rewind _ => evaluateIfMoved (keepDayRoll s)
  | _ => evaluateRanges (keepDayRoll s)

theorem exec_scpHandover {s : State} {h : Handover} {c : Instr}
    (which : h = .wallSet .scp ∧ c = .scpWallSet ∨ h = .offsetChange .scp ∧ c = .scpOffsetChange
      ∨ h = .profileChange ∧ c = .scpProfileChange ∨ h = .rewind .scp ∧ c = .scpRewind) (ho : s.offered h) :
    exec c s = .next (scpEffect h { s with inFlight := s.others h }) := by
  have front := offered_next ho
  rcases which with ⟨rfl, rfl⟩ | ⟨rfl, rfl⟩ | ⟨rfl, rfl⟩ | ⟨rfl, rfl⟩
  · simp only [exec, execScpWallSet, whenRunning_of_running ho.1, show s.nextIn (.tmbTo .scp) = _ from front]
    rfl
  · simp only [exec, execScpOffsetChange, whenRunning_of_running ho.1, show s.nextIn (.tmbTo .scp) = _ from front]
    rfl
  · simp only [exec, execScpProfileChange, whenRunning_of_running ho.1, show s.nextIn .pluToScp = _ from front]
    rfl
  · simp only [exec, execScpRewind, whenRunning_of_running ho.1, show s.nextIn (.tmbTo .scp) = _ from front]
    rfl

theorem scpEffect_of_invalid {s : State} {h : Handover} {c : Instr}
    (which : h = .wallSet .scp ∧ c = .scpWallSet ∨ h = .offsetChange .scp ∧ c = .scpOffsetChange
      ∨ h = .profileChange ∧ c = .scpProfileChange ∨ h = .rewind .scp ∧ c = .scpRewind) (wall : s.tmb.wallValid = false) :
    scpEffect h s = { s with inFlight := s.inFlight ++ if h = .rewind .scp then [] else [.windowStates s.scp.windows] } := by
  rcases which with ⟨rfl, -⟩ | ⟨rfl, -⟩ | ⟨rfl, -⟩ | ⟨rfl, -⟩
  · dsimp only [scpEffect]
    rw [keepDayRoll_of_invalid wall, evaluateRanges_of_invalid wall]
    simp
  · dsimp only [scpEffect]
    rw [keepDayRoll_of_invalid wall, evaluateRanges_of_invalid wall]
    simp
  · dsimp only [scpEffect]
    rw [evaluateRanges_of_invalid wall]
    simp
  · dsimp only [scpEffect]
    rw [keepDayRoll_of_invalid wall, evaluateIfMoved_of_still (by simp [wall])]
    simp

/-- Settles O34: each hand-over is the keeping of DAY_ROLL, the evaluation, or both, and the local quantities are quotients of the
local wall second. -/
theorem theScpKeepsDayRollAndHandsOnTheWindows : Obligations.TheScpKeepsDayRollAndHandsOnTheWindows := by
  refine ⟨fun t => ⟨(minute_spec t).1, (minute_spec t).2.1, (minute_spec t).2.2, (day_spec t).1, (day_spec t).2, midnight_spec t⟩,
    fun s h c which ho => ?_⟩
  rw [exec_scpHandover which ho]
  refine ⟨fun wall => congrArg Host.Outcome.next (scpEffect_of_invalid which wall), fun wall => ⟨_, rfl, ?_⟩⟩
  generalize rest : State.others s h = others
  have evaluated (p : Scp) (same : p.ranges = s.scp.ranges) : (p.evaluate s.tmb.minute).windows
      = (List.range 4).map (openAt s.scp.ranges s.tmb.minute) := by rw [evaluate_eq, same]
  have kept := evaluateRanges_keepDayRoll (s := { s with inFlight := others }) wall
  have others_eq : s.inFlight.eraseP (fun x => x.channel == h.channel) = others := rest
  rw [others_eq]
  rcases which with ⟨rfl, -⟩ | ⟨rfl, -⟩ | ⟨rfl, -⟩ | ⟨rfl, -⟩
  · dsimp only [scpEffect]
    rw [kept]
    exact ⟨fun _ => rfl, fun no => absurd no (by simp), fun no => absurd no.1 (by simp),
      fun _ => ⟨rfl, rfl, evaluated _ rfl, rfl⟩, rfl, rfl⟩
  · dsimp only [scpEffect]
    rw [kept]
    exact ⟨fun _ => rfl, fun no => absurd no (by simp), fun no => absurd no.1 (by simp),
      fun _ => ⟨rfl, rfl, evaluated _ rfl, rfl⟩, rfl, rfl⟩
  · dsimp only [scpEffect]
    rw [evaluateRanges_of_valid (s := { s with inFlight := others }) wall]
    exact ⟨fun no => absurd rfl no, fun _ => rfl, fun no => absurd no.1 (by simp),
      fun _ => ⟨rfl, rfl, evaluated _ rfl, rfl⟩, rfl, rfl⟩
  · dsimp only [scpEffect]
    rw [evaluateIfMoved_keepDayRoll (s := { s with inFlight := others }) wall]
    by_cases still : s.scp.lastMinute = some s.tmb.minute
    · rw [if_pos still]
      exact ⟨fun _ => rfl, fun no => absurd no (by simp), fun _ => ⟨rfl, rfl⟩, fun moved => absurd ⟨rfl, still⟩ moved, rfl, rfl⟩
    · rw [if_neg still, kept]
      exact ⟨fun _ => rfl, fun no => absurd no (by simp), fun both => absurd both.2 still,
        fun _ => ⟨rfl, rfl, evaluated _ rfl, rfl⟩, rfl, rfl⟩

/-! ### SET_RANGE and the HOURS source (R69 to R71, R155) -/

/-- The ranges with one of them set (R69). -/
def Scp.withRange (p : Scp) (index profile lower upper : Nat) : List HoursRange :=
  p.ranges.modify index fun r => { r with profile := if profile = 255 then none else some profile, lower, upper }

theorem setRange_of_refused {s : State} {index profile lower upper : Nat} (eight : s.scp.ranges.length = 8)
    (refused : 7 < index ∨ 1439 < lower ∨ 1439 < upper ∨ (3 < profile ∧ profile ≠ 255)) :
    setRange index profile lower upper s = reply .badParam s := by
  rw [setRange]
  split
  · rfl
  · rename_i r found
    have listed := (List.getElem?_eq_some_iff.mp found).1
    exact if_pos (by simp; omega)

theorem setRange_of_taken {s : State} {index profile lower upper : Nat} (eight : s.scp.ranges.length = 8) (listed : index ≤ 7)
    (low : lower ≤ 1439) (high : upper ≤ 1439) (known : profile ≤ 3 ∨ profile = 255) :
    setRange index profile lower upper s
      = evaluateRanges (reply .ok { s with scp := { s.scp with ranges := s.scp.withRange index profile lower upper } }) := by
  have bound : index < s.scp.ranges.length := by omega
  rw [setRange, List.getElem?_eq_getElem bound]
  dsimp only
  rw [if_neg (show ¬ _ by simp; omega), Scp.withRange, List.modify_eq_set_getElem?, List.getElem?_eq_getElem bound]
  rfl

/-- A range of the new list: the one of the old list, or the one that the request sets. -/
theorem withRange_getElem? {p : Scp} {index profile lower upper k : Nat} {r : HoursRange} (found : p.ranges[k]? = some r) :
    (p.withRange index profile lower upper)[k]? = some (if k = index
      then { r with profile := if profile = 255 then none else some profile, lower, upper } else r) := by
  rw [Scp.withRange, List.getElem?_modify, found]
  by_cases same : index = k
  · simp [same]
  · simp [same, Ne.symm same]

theorem covers_iff (r : HoursRange) (m : Nat) : r.covers m = true ↔
    if r.lower ≤ r.upper then r.lower ≤ m ∧ m ≤ r.upper else r.lower ≤ m ∨ m ≤ r.upper := by
  rw [HoursRange.covers]
  split <;> simp

/-- SET_RANGE with parameters within their ranges: the range is set, the ranges evaluated while the wall is valid, and the window
states handed on (R69, R71). -/
theorem setRange_eq {s : State} {tag : Byte} {n index profile lower upper : Nat}
    (asking : s.asking tag (.setRange index profile lower upper) n) (eight : s.scp.ranges.length = 8) (listed : index ≤ 7)
    (low : lower ≤ 1439) (high : upper ≤ 1439) (known : profile ≤ 3 ∨ profile = 255) :
    let changed := { s.scp with ranges := s.scp.withRange index profile lower upper }
    let p := if s.tmb.wallValid then changed.evaluate s.tmb.minute else changed
    setRange index profile lower upper s = { s.replied tag (.setRange index profile lower upper) .ok [] with
      scp := p, inFlight := s.inFlight ++ [.windowStates p.windows] } := by
  intro changed p
  rw [setRange_of_taken eight listed low high known,
    reply_eq { s with scp := { s.scp with ranges := s.scp.withRange index profile lower upper } } .ok asking.2]
  rcases wall : s.tmb.wallValid with _ | _
  · rw [show p = changed from if_neg (by simp [wall])]
    exact evaluateRanges_of_invalid wall
  · rw [show p = changed.evaluate s.tmb.minute from if_pos wall]
    exact evaluateRanges_of_valid wall

/-- Settles O36: the request is a change of one range and an evaluation, and HOURS is the active profile's window state negated. -/
theorem rangesAreSetEvaluatedAndReachTheHoursSource : Obligations.RangesAreSetEvaluatedAndReachTheHoursSource := by
  refine ⟨fun s tag n index profile lower upper h eight => ?_, fun s windows ho => ?_⟩
  · have run : exec .setRange s = .next (setRange index profile lower upper s) := by
      simp only [exec, execSetRange, whenRunning_of_running h.1, asked_eq s h.2]
    rw [run]
    refine ⟨fun refused => by rw [setRange_of_refused eight refused, reply_eq _ _ h.2], fun listed low high known => ⟨_, rfl, ?_⟩⟩
    rw [setRange_eq h eight listed low high known]
    rcases wall : s.tmb.wallValid with _ | _
    · rw [if_neg (by simp)]
      refine ⟨by simp [Scp.withRange, eight], fun k r r' old new => ?_, fun _ => ⟨rfl, rfl⟩, fun no => absurd no (by simp), rfl⟩
      obtain rfl := Option.some.inj ((withRange_getElem? old).symm.trans new)
      refine ⟨fun other => by rw [if_neg other], fun same => by rw [if_pos same], fun _ => ?_, fun no => absurd no (by simp)⟩
      split <;> rfl
    · rw [if_pos rfl]
      refine ⟨by simp [Scp.withRange, eight, Scp.evaluate, flagged], fun k r r' old new => ?_, fun no => absurd no (by simp),
        fun _ => ⟨rfl, by simp [Scp.evaluate, windowsOf], fun p hp => ?_⟩, rfl⟩
      · change (List.map _ _)[k]? = some r' at new
        rw [List.getElem?_map, withRange_getElem? old] at new
        obtain rfl := Option.some.inj new
        refine ⟨fun other => by rw [if_neg other], fun same => by rw [if_pos same], fun no => absurd no (by simp), fun _ => ?_⟩
        rw [← covers_iff]
        simp [Option.isSome_iff_ne_none]
        exact fun _ => rfl
      · change (windowsOf _)[p]? = some true ↔ _
        rw [windowsOf, List.getElem?_map, List.getElem?_range hp, Option.map_some, Option.some_inj, windowOpen_eq]
        simp
        rfl
  · have front := offered_next ho
    have run : exec .windowStatesHandover s = .next (pluEvent (fun u => evalHours { u with plu := { u.plu with windows } })
        { s with inFlight := s.others (.windowStates windows) }) := by
      simp only [exec, execWindowStatesHandover, whenRunning_of_running ho.1, show s.nextIn .windowsToPlu = _ from front]
      rfl
    have closed : (!windows.getD s.plu.active true) = (windows[s.plu.active]? == some false) := by
      rw [Bool.eq_iff_iff, windowClosed_iff, beq_iff_eq]
    refine ⟨_, run, ?_⟩
    rw [pluEvent_eq, ← closed]
    exact ⟨rfl, rfl, rfl⟩

end Sys2Proof.Machine
end

section
/-! The firing pass and the reminder requests: what a table holds once some of its entries have been dealt with (R58 to R64). -/

namespace Sys2Proof.Machine

/-! ### The key of an entry -/

/-- What tells the entries of a table apart: a reminder's id, or a device kind (R56). -/
def Entry.key (e : Entry) : Nat ⊕ DeviceKind :=
  match e.kind with
  | .reminder id _ _ => .inl id
  | .device k => .inr k

theorem Entry.reminderId_eq_some_iff (e : Entry) (id : Nat) : e.reminderId = some id ↔ e.key = .inl id := by
  rcases kind : e.kind with ⟨i, period, held⟩ | k <;> simp [Entry.reminderId, Entry.key, kind]

theorem Entry.isDevice_iff (e : Entry) (k : DeviceKind) : e.isDevice k = true ↔ e.key = .inr k := by
  rcases kind : e.kind with ⟨i, period, held⟩ | j <;> simp [Entry.isDevice, Entry.key, kind]

theorem Entry.key_of_reminder {e : Entry} {id period : Nat} {held : Bool} (kind : e.kind = .reminder id period held) :
    e.key = .inl id := by rw [Entry.key, kind]

theorem Entry.key_of_device {e : Entry} {k : DeviceKind} (kind : e.kind = .device k) : e.key = .inr k := by
  rw [Entry.key, kind]

theorem TableOk.keys_nodup {table : List Entry} (h : TableOk table) : (table.map Entry.key).Nodup := by
  induction table with
  | nil => exact List.nodup_nil
  | cons e rest ih =>
    refine List.nodup_cons.mpr ⟨fun again => ?_, ih (h.sublist (List.sublist_cons_self e rest))⟩
    obtain ⟨x, hx, same⟩ := List.mem_map.mp again
    obtain ⟨-, ids, devices⟩ := h
    rcases kind : e.kind with ⟨id, period, held⟩ | k
    · rw [Entry.key_of_reminder kind, ← Entry.reminderId_eq_some_iff] at same
      have first : e.reminderId = some id := (e.reminderId_eq_some_iff id).mpr (Entry.key_of_reminder kind)
      rw [reminderIds, List.filterMap_cons_some first, List.nodup_cons] at ids
      exact ids.1 (reminderId_mem hx id same)
    · rw [Entry.key_of_device kind, ← Entry.isDevice_iff] at same
      have counted := devices k
      rw [List.countP_cons_of_pos ((e.isDevice_iff k).mpr (Entry.key_of_device kind))] at counted
      have one : 0 < rest.countP (Entry.isDevice k) := List.countP_pos_iff.mpr ⟨x, hx, same⟩
      omega

/-- An entry that a table holds, and no other of its key. -/
def HeldAlone (table : List Entry) (e : Entry) : Prop := e ∈ table ∧ ∀ x ∈ table, x.key = e.key → x = e

theorem TableOk.heldAlone {table : List Entry} (h : TableOk table) {e : Entry} (he : e ∈ table) : HeldAlone table e :=
  ⟨he, fun _ hx same => List.inj_on_of_nodup_map h.keys_nodup hx he same⟩

/-! ### Entries dealt with in turn -/

/-- Dealing with an entry puts what comes next of it, if anything, in its place, and leaves the entries of other keys. -/
def DealtWith (deal : List Entry → Entry → List Entry) (next : Entry → Option Entry) (e : Entry) : Prop :=
  (∀ x, next e = some x → x.key = e.key)
    ∧ ∀ table, HeldAlone table e → ∀ x, x ∈ deal table e ↔ (x ∈ table ∧ x.key ≠ e.key) ∨ next e = some x

/-- What a table holds after several of its entries, of distinct keys, have been dealt with. -/
theorem mem_foldl_deal {deal : List Entry → Entry → List Entry} {next : Entry → Option Entry} {es : List Entry}
    (dealt : ∀ e ∈ es, DealtWith deal next e) (distinct : (es.map Entry.key).Nodup) {table : List Entry}
    (alone : ∀ e ∈ es, HeldAlone table e) (x : Entry) :
    x ∈ es.foldl deal table ↔ (x ∈ table ∧ ∀ e ∈ es, x.key ≠ e.key) ∨ ∃ e ∈ es, next e = some x := by
  induction es generalizing table with
  | nil => simp
  | cons e rest ih =>
    obtain ⟨own, spec⟩ := dealt e List.mem_cons_self
    have first := spec table (alone e List.mem_cons_self)
    obtain ⟨others, distinct⟩ := List.nodup_cons.mp distinct
    have other (y : Entry) (hy : y ∈ rest) : y.key ≠ e.key := fun same => others (List.mem_map.mpr ⟨y, hy, same⟩)
    have after : ∀ y ∈ rest, HeldAlone (deal table e) y := fun y hy => by
      obtain ⟨held, only⟩ := alone y (List.mem_cons_of_mem _ hy)
      refine ⟨(first y).mpr (.inl ⟨held, other y hy⟩), fun z hz same => ?_⟩
      rcases (first z).mp hz with ⟨old, -⟩ | new
      · exact only z old same
      · exact absurd (same.symm.trans (own z new)) (other y hy)
    rw [List.foldl_cons, ih (fun y hy => dealt y (List.mem_cons_of_mem _ hy)) distinct after, first]
    simp only [List.forall_mem_cons, List.exists_mem_cons_iff]
    constructor
    · rintro (⟨⟨old, notFirst⟩ | new, notRest⟩ | later)
      · exact .inl ⟨old, notFirst, notRest⟩
      · exact .inr (.inl new)
      · exact .inr (.inr later)
    · rintro (⟨old, notFirst, notRest⟩ | new | later)
      · exact .inl ⟨.inl ⟨old, notFirst⟩, notRest⟩
      · exact .inl ⟨.inr new, fun y hy same => other y hy (same.symm.trans (own x new))⟩
      · exact .inr later

/-! ### A reminder fired or marked (R60, R63) -/

/-- What comes of a reminder that fires at W: the same at its next due point, or nothing (R63). -/
def Entry.movedTo (e : Entry) (id period w : Nat) : Option Entry :=
  if period = 0 ∨ wallMax < nextDue e.due period w then none
  else some { e with kind := .reminder id period false, due := nextDue e.due period w }

theorem movedTo_eq_some_iff (e : Entry) (id period w : Nat) (x : Entry) : e.movedTo id period w = some x ↔
    period ≠ 0 ∧ nextDue e.due period w ≤ wallMax
      ∧ x = { e with kind := .reminder id period false, due := nextDue e.due period w } := by
  rw [Entry.movedTo]
  split
  · rename_i gone
    exact ⟨fun no => by simp at no, fun ⟨repeating, inRange, _⟩ => by omega⟩
  · rename_i stays
    rw [Option.some_inj]
    exact ⟨fun same => ⟨by omega, by omega, same.symm⟩, fun ⟨_, _, same⟩ => same.symm⟩

theorem mem_rescheduled (e : Entry) (id period w : Nat) (table : List Entry) (x : Entry) :
    x ∈ rescheduled e id period w table ↔ (x ∈ table ∧ x.key ≠ .inl id) ∨ e.movedTo id period w = some x := by
  have removed : x ∈ removeReminder id table ↔ x ∈ table ∧ x.key ≠ .inl id := by
    rw [removeReminder, List.mem_filter, bne_iff_ne, ne_eq, Entry.reminderId_eq_some_iff]
  rw [rescheduled, Entry.movedTo]
  simp only [Bool.or_eq_true, decide_eq_true_eq]
  split
  · simp [removed]
  · rw [mem_insertEntry, removed, Option.some_inj, or_comm, eq_comm]

theorem mem_markHeld {e : Entry} {id period : Nat} {held : Bool} (kind : e.kind = .reminder id period held) {table : List Entry}
    (alone : HeldAlone table e) (x : Entry) : x ∈ markHeld id table ↔
      (x ∈ table ∧ x.key ≠ .inl id) ∨ { e with kind := .reminder id period true } = x := by
  have marked : e.marked id = { e with kind := .reminder id period true } := by simp [Entry.marked, kind]
  have others {y : Entry} (other : y.key ≠ .inl id) : y.marked id = y := by
    rcases k : y.kind with ⟨i, p, h⟩ | d
    · have ne : i ≠ id := fun same => other (by rw [Entry.key_of_reminder k, same])
      simp [Entry.marked, k, ne]
    · simp [Entry.marked, k]
  rw [markHeld_eq, List.mem_map]
  constructor
  · rintro ⟨y, hy, rfl⟩
    by_cases same : y.key = .inl id
    · obtain rfl := alone.2 y hy (same.trans (Entry.key_of_reminder kind).symm)
      exact .inr marked.symm
    · rw [others same]
      exact .inl ⟨hy, same⟩
  · rintro (⟨hx, other⟩ | rfl)
    · exact ⟨x, hx, others other⟩
    · exact ⟨e, alone.1, marked⟩

/-! ### What a visit does (R62, R64, R65) -/

/-- The entry that DAY_ROLL is keyed as while the wall is valid (R57, R65). -/
def Tmb.rollNext (t : Tmb) : Option Entry := if t.wallValid then some t.dayRollEntry else none

/-- What comes of an entry that a pass to Wn visits: marked while the hold is set, and moved or gone otherwise; of the device
entries, DAY_ROLL alone comes again (R60, R63, R65). -/
def Entry.visitNext (hold : Bool) (t : Tmb) (wn : Nat) (e : Entry) : Option Entry :=
  match e.kind with
  | .reminder id period _ => if hold then some { e with kind := .reminder id period true } else e.movedTo id period wn
  | .device k => if k = .dayRoll then t.rollNext else none

/-- The table after a visit. -/
def visitTable (hold : Bool) (t : Tmb) (wn : Nat) (table : List Entry) (e : Entry) : List Entry :=
  match e.kind with
  | .reminder id period _ => if hold then markHeld id table else rescheduled e id period wn table
  | .device k =>
      let rest := removeDevice k table
      if k = .dayRoll then if t.wallValid then deviceAt .dayRoll t.midnight none none rest else rest else rest

/-- The event record of a visit: a reminder's while the hold is clear (R63). -/
def visitEvent (hold : Bool) (wn : Nat) (e : Entry) : Option Event :=
  match e.kind with
  | .reminder id period _ =>
      if hold then none else some (.reminderDue id e.due (periodsCovered e.due period wn) wn e.service e.event)
  | .device _ => none

/-- The firing of a visit: a device entry's (R64). -/
def visitFiring (e : Entry) : Option Handover :=
  match e.kind with
  | .device k => some (.firing k e.due e.service e.event)
  | .reminder .. => none

theorem visit_eq (wn : Nat) (s : State) (e : Entry) : visit wn s e =
    { s with
      scp := { s.scp with target := visitTable s.scp.hold s.tmb wn s.scp.target e }
      rpq := (emitAll (visitEvent s.scp.hold wn e).toList s).rpq
      inFlight := s.inFlight ++ (visitFiring e).toList } := by
  rcases kind : e.kind with ⟨id, period, held⟩ | k
  · rw [visit, visitTable, visitEvent, visitFiring, kind]
    dsimp only
    rcases hold : s.scp.hold with _ | _
    · simp [fireReminder, emitAll, emit_eq, hold]
    · simp [emitAll]
  · rw [visit, visitTable, visitEvent, visitFiring, kind]
    dsimp only
    rw [fireDevice]
    split
    · simp [keepDayRoll, keyEntry_eq, send, emitAll]
    · rfl

theorem removeDevice_mem (k : DeviceKind) (table : List Entry) (x : Entry) :
    x ∈ removeDevice k table ↔ x ∈ table ∧ x.key ≠ .inr k := by
  rw [removeDevice, List.mem_filter, ne_eq, ← Entry.isDevice_iff]
  simp

/-- A visit deals with its entry alone. -/
theorem visit_dealtWith (hold : Bool) (t : Tmb) (wn : Nat) (e : Entry) :
    DealtWith (visitTable hold t wn) (Entry.visitNext hold t wn) e := by
  rcases kind : e.kind with ⟨id, period, held⟩ | k
  · have key := Entry.key_of_reminder kind
    simp only [DealtWith, Entry.visitNext, visitTable, kind, key]
    rcases hold with _ | _
    · refine ⟨fun x next => ?_, fun table _ x => mem_rescheduled e id period wn table x⟩
      obtain ⟨-, -, rfl⟩ := (movedTo_eq_some_iff e id period wn x).mp next
      rfl
    · refine ⟨fun x next => ?_, fun table alone x => by simpa using mem_markHeld kind alone x⟩
      obtain rfl := Option.some.inj next
      rfl
  · have key := Entry.key_of_device kind
    simp only [DealtWith, Entry.visitNext, visitTable, kind, key]
    by_cases roll : k = .dayRoll
    · subst roll
      simp only [if_true, Tmb.rollNext]
      rcases t.wallValid with _ | _
      · exact ⟨fun _ no => by simp at no, fun table _ x => by simp [removeDevice_mem]⟩
      · refine ⟨fun x next => ?_, fun table _ x => ?_⟩
        · obtain rfl := Option.some.inj next
          rfl
        · simp only [if_true, deviceAt, mem_insertEntry, removeDevice_mem, Option.some_inj]
          rw [and_assoc, and_self, or_comm, eq_comm (a := x)]
          rfl
    · simp only [if_neg roll]
      exact ⟨fun _ no => by simp at no, fun table _ x => by simp [removeDevice_mem]⟩

/-- Several entries visited in turn: the table, the event records and the firings are those of each in its place. -/
theorem foldl_visit (wn : Nat) (es : List Entry) (s : State) : es.foldl (visit wn) s =
    { s with
      scp := { s.scp with target := es.foldl (visitTable s.scp.hold s.tmb wn) s.scp.target }
      rpq := (emitAll (es.filterMap (visitEvent s.scp.hold wn)) s).rpq
      inFlight := s.inFlight ++ es.filterMap visitFiring } := by
  induction es generalizing s with
  | nil => simp [emitAll]
  | cons e rest ih =>
    rw [List.foldl_cons, ih, visit_eq]
    have firings : (visitFiring e).toList ++ rest.filterMap visitFiring = (e :: rest).filterMap visitFiring := by
      cases one : visitFiring e <;> simp [one]
    have events : (visitEvent s.scp.hold wn e).toList ++ rest.filterMap (visitEvent s.scp.hold wn)
        = (e :: rest).filterMap (visitEvent s.scp.hold wn) := by
      cases one : visitEvent s.scp.hold wn e <;> simp [one]
    rw [← firings, ← events, emitAll_append]
    simp only [emitAll_eq, List.append_assoc, List.foldl_cons]

/-! ### The pass and the evaluation after it (R62, R71) -/

/-- The table after a pass to Wn. -/
def State.passTable (s : State) (wn : Nat) : List Entry :=
  (visited wn s.scp.target).foldl (visitTable s.scp.hold s.tmb wn) s.scp.target

/-- The state after a pass to Wn, its ranges not yet evaluated. -/
def State.passed (s : State) (wn : Nat) : State :=
  { s with
    scp := { s.scp with target := s.passTable wn, lastPass := some wn }
    rpq := (emitAll ((visited wn s.scp.target).filterMap (visitEvent s.scp.hold wn)) s).rpq
    inFlight := s.inFlight ++ (visited wn s.scp.target).filterMap visitFiring }

theorem advanceTo_eq (wn : Nat) (s : State) : advanceTo wn s =
    if repeatsPass wn s.scp then s.passed wn else evaluateIfMoved (s.passed wn) := by
  rw [advanceTo, firingPass, foldl_visit]
  rfl

/-- Whether an advance to Wn evaluates the ranges: the wall is valid, the minute has moved, and W is not repeated at its limit. -/
def State.evaluatesAt (s : State) (wn : Nat) : Prop :=
  s.tmb.wallValid = true ∧ s.scp.lastMinute ≠ some s.tmb.minute ∧ ¬ (wn = 4294967295 ∧ s.scp.lastPass = some 4294967295)

theorem repeatsPass_iff (wn : Nat) (p : Scp) : repeatsPass wn p = true ↔ wn = 4294967295 ∧ p.lastPass = some 4294967295 := by
  rw [repeatsPass, Bool.and_eq_true, beq_iff_eq, beq_iff_eq]
  rfl

theorem advanceTo_of_evaluates {s : State} {wn : Nat} (evaluates : s.evaluatesAt wn) :
    advanceTo wn s = { s.passed wn with
      scp := (s.passed wn).scp.evaluate s.tmb.minute
      inFlight := (s.passed wn).inFlight ++ [.windowStates ((s.passed wn).scp.evaluate s.tmb.minute).windows] } := by
  obtain ⟨wall, moved, fresh⟩ := evaluates
  rw [advanceTo_eq, if_neg (fun again => fresh ((repeatsPass_iff wn s.scp).mp again))]
  exact (evaluateIfMoved_of_moved (s := s.passed wn) wall moved).trans (evaluateRanges_of_valid (s := s.passed wn) wall)

theorem advanceTo_of_not_evaluates {s : State} {wn : Nat} (stands : ¬ s.evaluatesAt wn) : advanceTo wn s = s.passed wn := by
  rw [advanceTo_eq]
  split
  · rfl
  · rename_i fresh
    rw [repeatsPass_iff] at fresh
    exact evaluateIfMoved_of_still (s := s.passed wn) fun ⟨wall, moved⟩ => stands ⟨wall, moved, fresh⟩

theorem mem_visited {wn : Nat} {table : List Entry} {e : Entry} : e ∈ visited wn table ↔
    e ∈ table ∧ e.due ≤ wn ∧ e.isHeld = false := by
  rw [visited, List.mem_filter]
  simp

/-- What the table holds after a pass: what was not visited, and what comes of each entry visited (R62 to R65). -/
theorem mem_passTable {s : State} (h : s.ScheduleOk) (wn : Nat) (x : Entry) : x ∈ s.passTable wn ↔
    (x ∈ s.scp.target ∧ ∀ e ∈ visited wn s.scp.target, x.key ≠ e.key)
      ∨ ∃ e ∈ visited wn s.scp.target, e.visitNext s.scp.hold s.tmb wn = some x := by
  have ok := ((scheduleOk_iff s).mp h).1
  exact mem_foldl_deal (fun e _ => visit_dealtWith _ _ _ e) (ok.sublist List.filter_sublist).keys_nodup
    (fun e he => ok.heldAlone (List.mem_of_mem_filter he)) x

/-- What is not due, or is marked due-held, stays where a pass goes by (R62). -/
theorem passTable_stays {s : State} (h : s.ScheduleOk) {wn : Nat} {e : Entry} (he : e ∈ s.scp.target)
    (out : wn < e.due ∨ e.isHeld = true) : e ∈ s.passTable wn := by
  refine (mem_passTable h wn e).mpr (.inl ⟨he, fun x hx same => ?_⟩)
  obtain ⟨hx, due, unheld⟩ := mem_visited.mp hx
  obtain rfl := (((scheduleOk_iff s).mp h).1.heldAlone hx).2 e he same
  rcases out with later | held
  · exact absurd due (by omega)
  · simp [held] at unheld

/-- An entry of a visited entry's key is what comes of it. -/
theorem visitNext_of_key {s : State} (h : s.ScheduleOk) {wn : Nat} {e x : Entry} (he : e ∈ visited wn s.scp.target)
    (hx : x ∈ s.passTable wn) (same : x.key = e.key) : e.visitNext s.scp.hold s.tmb wn = some x := by
  rcases (mem_passTable h wn x).mp hx with ⟨-, others⟩ | ⟨y, hy, next⟩
  · exact absurd same (others e he)
  · have keys := ((visit_dealtWith s.scp.hold s.tmb wn y).1 x next).symm.trans same
    obtain rfl := (((scheduleOk_iff s).mp h).1.heldAlone (mem_visited.mp he).1).2 y (mem_visited.mp hy).1 keys
    exact next

theorem passTable_next {s : State} (h : s.ScheduleOk) {wn : Nat} {e x : Entry} (he : e ∈ visited wn s.scp.target)
    (next : e.visitNext s.scp.hold s.tmb wn = some x) : x ∈ s.passTable wn := (mem_passTable h wn x).mpr (.inr ⟨e, he, next⟩)

/-- What comes of an entry visited: a reminder marked where it stands, a reminder at a due point after Wn, or DAY_ROLL at the next
local midnight (R60, R63, R65). -/
theorem visitNext_cases {hold : Bool} {t : Tmb} {wn : Nat} {e x : Entry} (next : e.visitNext hold t wn = some x) :
    (∃ id period held, e.kind = .reminder id period held ∧ hold = true ∧ x = { e with kind := .reminder id period true })
    ∨ (∃ id period held, e.kind = .reminder id period held ∧ hold = false ∧ e.movedTo id period wn = some x)
    ∨ (e.kind = .device .dayRoll ∧ t.wallValid = true ∧ x = t.dayRollEntry) := by
  rw [Entry.visitNext] at next
  rcases kind : e.kind with ⟨id, period, held⟩ | k
  · rw [kind] at next
    dsimp only at next
    rcases hold with _ | _
    · exact .inr (.inl ⟨id, period, held, rfl, rfl, next⟩)
    · exact .inl ⟨id, period, held, rfl, rfl, (Option.some.inj next).symm⟩
  · rw [kind, Tmb.rollNext] at next
    dsimp only at next
    split at next
    · rename_i roll
      split at next
      · rename_i wall
        exact .inr (.inr ⟨by rw [roll], wall, (Option.some.inj next).symm⟩)
      · simp at next
    · simp at next

theorem periodsCovered_of_due {due period w : Nat} (reached : due ≤ w) :
    periodsCovered due period w = if period = 0 then 1 else (w - due) / period + 1 := by
  rw [periodsCovered, if_neg (by omega : ¬ w < due)]

/-- A repeating reminder that is due at or before W moves past W (R63). -/
theorem lt_nextDue {due period w : Nat} (reached : due ≤ w) (repeating : period ≠ 0) : w < nextDue due period w := by
  rw [nextDue, periodsCovered_of_due reached, if_neg repeating, Nat.add_mul, Nat.one_mul]
  have division := Nat.lt_div_mul_add (a := w - due) (Nat.pos_of_ne_zero repeating)
  omega

/-- Settles O33: a pass deals with the entries visited one after another, each by its own key, and evaluates where the minute has
moved. -/
theorem aFiringPassFiresWhatIsDueAndLeavesTheRest : Obligations.AFiringPassFiresWhatIsDueAndLeavesTheRest := by
  intro s wn h ho due covered evaluates midnight
  have run : exec .firingPass s = .next (advanceTo wn { s with inFlight := s.others (.advance wn) }) := by
    simp only [exec, execFiringPass, whenRunning_of_running ho.1,
      show s.nextIn (.tmbTo .scp) = some (.advance wn) from offered_next ho]
    rfl
  have dueIs : due = visited wn s.scp.target := rfl
  clear_value due
  subst dueIs
  -- What each claim about the table comes to, whether the ranges are evaluated or not.
  have reached {e : Entry} (he : e ∈ visited wn s.scp.target) := (mem_visited.mp he).2.1
  have nothingDue : ∀ e ∈ s.passTable wn, e.due ≤ wn → e.isHeld = true ∨ e.isDevice .dayRoll = true := by
    intro x hx early
    rcases (mem_passTable h wn x).mp hx with ⟨old, others⟩ | ⟨e, he, next⟩
    · by_contra stays
      rw [not_or, Bool.not_eq_true] at stays
      exact others x (mem_visited.mpr ⟨old, early, stays.1⟩) rfl
    · rcases visitNext_cases next with ⟨id, period, held, -, -, rfl⟩ | ⟨id, period, held, -, -, moved⟩ | ⟨-, -, rfl⟩
      · exact .inl rfl
      · obtain ⟨repeating, -, rfl⟩ := (movedTo_eq_some_iff e id period wn x).mp moved
        exact absurd early (Nat.not_le.mpr (lt_nextDue (reached he) repeating))
      · exact .inr rfl
  have devices : ∀ e ∈ visited wn s.scp.target, ∀ kind, e.kind = .device kind → ∀ x ∈ s.passTable wn, x.isDevice kind = true →
      kind = .dayRoll ∧ s.tmb.wallValid = true ∧ x = midnight := by
    intro e he kind device x hx isKind
    have next := visitNext_of_key h he hx (((x.isDevice_iff kind).mp isKind).trans (Entry.key_of_device device).symm)
    rcases visitNext_cases next with ⟨_, _, _, no, -⟩ | ⟨_, _, _, no, -⟩ | ⟨roll, wall, new⟩
    · simp [device] at no
    · simp [device] at no
    · exact ⟨EntryKind.device.inj (device.symm.trans roll), wall, new⟩
  have rolls : ∀ e ∈ visited wn s.scp.target, e.kind = .device .dayRoll → s.tmb.wallValid = true → midnight ∈ s.passTable wn := by
    intro e he roll wall
    exact passTable_next h he (by simp only [Entry.visitNext, roll, if_true, Tmb.rollNext, wall]; rfl)
  have origins : ∀ x ∈ s.passTable wn, x ∈ s.scp.target ∨ x = midnight ∨ ∃ e ∈ visited wn s.scp.target,
      x.reminderId = e.reminderId ∧ x.reminderId ≠ none := by
    intro x hx
    rcases (mem_passTable h wn x).mp hx with ⟨old, -⟩ | ⟨e, he, next⟩
    · exact .inl old
    · have key := (visit_dealtWith s.scp.hold s.tmb wn e).1 x next
      have ids {id period held} (kind : e.kind = .reminder id period held) : x.reminderId = e.reminderId ∧ x.reminderId ≠ none := by
        have mine := (e.reminderId_eq_some_iff id).mpr (Entry.key_of_reminder kind)
        have same := (x.reminderId_eq_some_iff id).mpr (key.trans (Entry.key_of_reminder kind))
        exact ⟨same.trans mine.symm, by simp [same]⟩
      rcases visitNext_cases next with ⟨_, _, _, kind, -⟩ | ⟨_, _, _, kind, -⟩ | ⟨-, -, new⟩
      · exact .inr (.inr ⟨e, he, ids kind⟩)
      · exact .inr (.inr ⟨e, he, ids kind⟩)
      · exact .inr (.inl new)
  have reminders : ∀ e ∈ visited wn s.scp.target, ∀ id period, e.kind = .reminder id period false →
      (s.scp.hold = true → { e with kind := .reminder id period true } ∈ s.passTable wn)
      ∧ (s.scp.hold = false →
        let point := e.due + covered e period * period
        (period ≠ 0 → point ≤ 4294967295 → { e with due := point } ∈ s.passTable wn)
        ∧ ((period = 0 ∨ 4294967295 < point) → ∀ x ∈ s.passTable wn, x.reminderId ≠ some id)) := by
    intro e he id period kind
    have next : e.visitNext s.scp.hold s.tmb wn
        = if s.scp.hold then some { e with kind := .reminder id period true } else e.movedTo id period wn := by
      rw [Entry.visitNext, kind]
    refine ⟨fun hold => passTable_next h he (by rw [next, if_pos hold]), fun hold => ?_⟩
    intro point
    have at_ : point = nextDue e.due period wn := by rw [nextDue, periodsCovered_of_due (reached he)]
    rw [if_neg (by simp [hold])] at next
    refine ⟨fun repeating inRange => passTable_next h he ?_, fun gone x hx same => ?_⟩
    · rw [next, movedTo_eq_some_iff, ← at_]
      refine ⟨repeating, inRange, ?_⟩
      rw [← kind]
    · have new := visitNext_of_key h he hx (((x.reminderId_eq_some_iff id).mp same).trans (Entry.key_of_reminder kind).symm)
      rw [next, movedTo_eq_some_iff, ← at_] at new
      rcases gone with single | beyond
      · exact new.1 single
      · exact absurd new.2.1 (Nat.not_le.mpr beyond)
  have quiet (hold : s.scp.hold = true) : (visited wn s.scp.target).filterMap (visitEvent s.scp.hold wn) = [] := by
    rw [List.filterMap_eq_nil_iff]
    intro e _
    rw [visitEvent, hold]
    split <;> rfl
  have reported (hold : s.scp.hold = false) : (visited wn s.scp.target).filterMap (visitEvent s.scp.hold wn)
      = (visited wn s.scp.target).filterMap fun e => match e.kind with
          | .reminder id period _ => some (.reminderDue id e.due (covered e period) wn e.service e.event)
          | .device _ => none := by
    refine List.filterMap_congr fun e he => ?_
    rw [visitEvent, hold]
    rcases e.kind with ⟨id, period, held⟩ | k
    · dsimp only
      rw [if_neg (by simp), periodsCovered_of_due (reached he)]
    · rfl
  refine ⟨_, run, ?_⟩
  have stays : ∀ e ∈ s.scp.target, (wn < e.due ∨ e.isHeld = true) → e ∈ s.passTable wn := fun e he out => passTable_stays h he out
  have queue (hold : s.scp.hold = true) :
      (emitAll ((visited wn s.scp.target).filterMap (visitEvent s.scp.hold wn)) s).rpq = s.rpq := by
    rw [quiet hold]
    rfl
  have events : (emitAll ((visited wn s.scp.target).filterMap (visitEvent s.scp.hold wn))
        { s with inFlight := s.others (.advance wn) }).rpq
      = (emitAll ((visited wn s.scp.target).filterMap (visitEvent s.scp.hold wn)) s).rpq := by
    simp only [emitAll_eq]
  by_cases evaluated : evaluates
  · rw [advanceTo_of_evaluates (s := { s with inFlight := s.others (.advance wn) }) evaluated]
    refine ⟨nothingDue, rfl, rfl, fun hold => events.trans (queue hold), devices, rolls, origins,
      fun _ => ⟨rfl, rfl, ?_⟩, fun stands => absurd evaluated stands, stays, reminders,
      fun hold => events.trans (congrArg (fun es => (emitAll es s).rpq) (reported hold)), ?_, rfl⟩
    · rw [evaluate_eq]
      rfl
    · rw [if_neg (by
        obtain ⟨wall, moved, fresh⟩ := evaluated
        rintro (no | no | no)
        · simp [wall] at no
        · exact moved no
        · exact fresh no)]
      rfl
  · rw [advanceTo_of_not_evaluates (s := { s with inFlight := s.others (.advance wn) }) evaluated]
    refine ⟨nothingDue, rfl, rfl, fun hold => events.trans (queue hold), devices, rolls, origins,
      fun runs => absurd runs evaluated, fun _ => rfl, stays, reminders,
      fun hold => events.trans (congrArg (fun es => (emitAll es s).rpq) (reported hold)), ?_, rfl⟩
    rw [if_pos (by
      by_contra none_
      simp only [not_or, Bool.not_eq_false] at none_
      exact evaluated none_), List.append_nil]
    rfl

end Sys2Proof.Machine
end

section
/-! The reminder requests (R58 to R61, R63). -/

namespace Sys2Proof.Machine

/-! ### Releasing (R61, R63) -/

/-- The reminders marked due-held, in table order (R60). -/
def State.heldBackReminders (s : State) : List Entry := s.scp.target.filter Entry.isHeld

theorem releaseEntry_eq_visit {s : State} (open_ : s.scp.hold = false) {e : Entry} (held : e.isHeld = true) :
    releaseEntry s e = visit s.tmb.w s e := by
  rcases kind : e.kind with ⟨id, period, mark⟩ | k
  · rw [releaseEntry, visit, kind]
    simp [open_]
  · simp [Entry.isHeld, kind] at held

/-- Reminders released in turn are visited as by a pass to the current W with the hold clear (R61). -/
theorem foldl_releaseEntry {s : State} (open_ : s.scp.hold = false) {es : List Entry} (held : ∀ e ∈ es, e.isHeld = true) :
    es.foldl releaseEntry s = es.foldl (visit s.tmb.w) s := by
  induction es generalizing s with
  | nil => rfl
  | cons e rest ih =>
    have first := releaseEntry_eq_visit open_ (held e List.mem_cons_self)
    rw [List.foldl_cons, List.foldl_cons, first]
    have later := visit_eq s.tmb.w s e
    rw [ih (by rw [later]; exact open_) fun x hx => held x (List.mem_cons_of_mem _ hx)]
    simp

theorem admittedAll_queue (es : List Event) (q : Rpq) (reserved : Nat) :
    ∃ more, (admittedAll es q reserved).queue = q.queue ++ more := by
  induction es generalizing q with
  | nil => exact ⟨[], (List.append_nil _).symm⟩
  | cons e rest ih =>
    obtain ⟨more, later⟩ := ih (admitted e q reserved)
    have first : ∃ one, (admitted e q reserved).queue = q.queue ++ one := by
      rw [admitted]
      split
      · exact ⟨[], (List.append_nil _).symm⟩
      split
      · exact ⟨_, rfl⟩
      · exact ⟨[], (List.append_nil _).symm⟩
    obtain ⟨one, first⟩ := first
    exact ⟨one ++ more, by rw [← List.append_assoc, ← first]; exact later⟩

/-- RELEASE_REMINDERS with the hold set: the reply, and after it each due-held reminder's record and its place in the table. -/
theorem releaseReminders_eq {s : State} {tag : Byte} {n : Nat} (asking : s.asking tag .releaseReminders n)
    (held : s.scp.hold = true) : releaseReminders s = { s.replied tag .releaseReminders .ok [] with
      scp := { s.scp with
        hold := false
        target := s.heldBackReminders.foldl (visitTable false s.tmb s.tmb.w) s.scp.target }
      rpq := (emitAll (s.heldBackReminders.filterMap (visitEvent false s.tmb.w)) (s.replied tag .releaseReminders .ok [])).rpq } := by
  have marked : ∀ e ∈ s.heldBackReminders, e.isHeld = true := fun e he => (List.mem_filter.mp he).2
  have silent : s.heldBackReminders.filterMap visitFiring = [] := by
    rw [List.filterMap_eq_nil_iff]
    intro e he
    have mark := marked e he
    rcases kind : e.kind with ⟨id, period, h⟩ | k
    · simp [visitFiring, kind]
    · simp [Entry.isHeld, kind] at mark
  rw [releaseReminders, if_pos held, reply_eq { s with scp := { s.scp with hold := false } } .ok asking.2]
  refine (foldl_releaseEntry (s := State.replied { s with scp := { s.scp with hold := false } } tag .releaseReminders .ok []) rfl
    marked).trans ?_
  rw [foldl_visit]
  simp only [State.heldBackReminders] at silent
  simp [emitAll_eq, State.replied, State.heldBackReminders, silent]

theorem releaseReminders_of_open {s : State} {tag : Byte} {n : Nat} (asking : s.asking tag .releaseReminders n)
    (open_ : s.scp.hold = false) : releaseReminders s = s.replied tag .releaseReminders .ok [] := by
  rw [releaseReminders, if_neg (by simp [open_]), reply_eq { s with scp := { s.scp with hold := false } } .ok asking.2, ← open_]

theorem isHeld_iff (e : Entry) : e.isHeld = true ↔ ∃ id period, e.kind = .reminder id period true := by
  rcases kind : e.kind with ⟨id, period, held⟩ | k
  · simp [Entry.isHeld, kind]
  · simp [Entry.isHeld, kind]

/-- The table after a release: what was not due-held, and what comes of each that was (R61, R63). -/
theorem mem_released {s : State} (h : s.ScheduleOk) (x : Entry) :
    x ∈ s.heldBackReminders.foldl (visitTable false s.tmb s.tmb.w) s.scp.target ↔
      (x ∈ s.scp.target ∧ x.isHeld = false) ∨ ∃ e ∈ s.heldBackReminders, e.visitNext false s.tmb s.tmb.w = some x := by
  have ok := ((scheduleOk_iff s).mp h).1
  have kept := ok.sublist (part := s.heldBackReminders) List.filter_sublist
  rw [mem_foldl_deal (fun e _ => visit_dealtWith _ _ _ e) kept.keys_nodup
    (fun e he => ok.heldAlone (List.mem_of_mem_filter he)) x]
  refine or_congr_left (and_congr_right fun hx => ⟨fun others => ?_, fun free e he same => ?_⟩)
  · by_contra held
    exact others x (List.mem_filter.mpr ⟨hx, by simpa using held⟩) rfl
  · obtain ⟨old, held⟩ := List.mem_filter.mp he
    obtain rfl := (ok.heldAlone old).2 x hx same
    simp [free] at held

/-! ### Adding and dropping (R58, R59) -/

theorem periodOk_iff (period : Nat) : periodOk period = true ↔ period = 0 ∨ 60 ≤ period ∧ period ≤ 604800 := by
  simp [periodOk]

theorem any_reminderId_iff (table : List Entry) (id : Nat) :
    table.any (fun e => e.reminderId == some id) = true ↔ ∃ e ∈ table, e.reminderId = some id := by
  simp

/-- The parameters that ADD_REMINDER takes (R58). -/
def reminderAllowed (id period service presence : Nat) : Prop := 1 ≤ id ∧ (period = 0 ∨ 60 ≤ period ∧ period ≤ 604800)
  ∧ (presence = 0 ∨ (presence = 1 ∨ presence = 3) ∧ 1 ≤ service ∧ service ≤ 9999)

/-- The entry of a reminder as it is added (R58). -/
def addedReminder (id due period service event presence : Nat) : Entry :=
  { kind := .reminder id period false, due
    service := if presence = 0 then none else some service
    event := if presence = 3 then some event else none }

/-- The test of the parameters, in the model's coding of the presence byte. -/
theorem reminderAllowed_iff (id period service event presence : Nat) : reminderAllowed id period service presence ↔
    ¬ (decide (id = 0) || !periodOk period || decide (presence > 3)
      || (if presence % 2 = 1 then some service else none).any (fun n => n == 0 || decide (9999 < n))
      || ((if presence / 2 = 1 then some event else none).isSome && (if presence % 2 = 1 then some service else none).isNone))
        = true := by
  rw [reminderAllowed, ← periodOk_iff]
  rcases periodOk period with _ | _
  · simp
  · rcases Nat.lt_or_ge 3 presence with far | near
    · simp [far]
      omega
    · interval_cases presence <;> simp <;> omega

/-- ADD_REMINDER, its tests in order (R58). -/
theorem addReminder_eq (id due period service event presence : Nat) (s : State) :
    (¬ reminderAllowed id period service presence → addReminder id due period service event presence s = reply .badParam s)
    ∧ (reminderAllowed id period service presence → addReminder id due period service event presence s =
      if !s.tmb.wallValid then reply .noTime s
      else if due ≤ s.tmb.w then reply .timePast s
      else if s.scp.target.any (fun e => e.reminderId == some id) then reply .duplicate s
      else if s.scp.reminders.length ≥ 35 then reply .full s
      else reply .ok { s with scp := { s.scp with
        target := insertEntry (addedReminder id due period service event presence) s.scp.target } }) := by
  constructor
  · intro refused
    rw [reminderAllowed_iff id period service event presence, not_not] at refused
    exact if_pos refused
  · intro allowed
    refine (if_neg ((reminderAllowed_iff id period service event presence).mp allowed)).trans ?_
    have entry : ({ kind := .reminder id period false, due, service := if presence % 2 = 1 then some service else none
                    event := if presence / 2 = 1 then some event else none } : Entry)
        = addedReminder id due period service event presence := by
      rw [addedReminder]
      obtain ⟨-, -, rfl | ⟨rfl | rfl, -⟩⟩ := allowed <;> rfl
    rw [entry]

/-- Settles O35: the requests refuse in the order of their tests, and a release is a pass over the due-held reminders. -/
theorem remindersAreAddedDroppedHeldAndReleased : Obligations.RemindersAreAddedDroppedHeldAndReleased := by
  intro s tag n
  refine ⟨fun id due period service event presence h => ?_, fun id h => ?_, fun h => ?_, fun h open_ => ?_, fun ok h held => ?_⟩
  · intro r allowed held
    obtain ⟨bad, good⟩ := addReminder_eq id due period service event presence s
    have run : exec .addReminder s = .next (addReminder id due period service event presence s) := by
      simp only [exec, execAddReminder, whenRunning_of_running h.1, asked_eq s h.2]
    rw [run]
    have answered (result : Result) : reply result s = r result [] := reply_eq s result h.2
    refine ⟨fun refused => by rw [bad refused, answered], fun ok wall => ?_, fun ok wall past => ?_, fun ok wall ahead dup => ?_,
      fun ok wall ahead fresh full => ?_, fun ok wall ahead fresh room => ?_⟩
    · rw [good ok, if_pos (by simp [wall]), answered]
    · rw [good ok, if_neg (by simp [wall]), if_pos past, answered]
    · rw [good ok, if_neg (by simp [wall]), if_neg (by omega), if_pos ((any_reminderId_iff _ _).mpr dup), answered]
    · rw [good ok, if_neg (by simp [wall]), if_neg (by omega), if_neg (fun dup => fresh ((any_reminderId_iff _ _).mp dup)),
        if_pos full, answered]
    · rw [good ok, if_neg (by simp [wall]), if_neg (by omega), if_neg (fun dup => fresh ((any_reminderId_iff _ _).mp dup)),
        if_neg (by omega), reply_eq { s with scp := { s.scp with target := insertEntry _ s.scp.target } } .ok h.2]
      exact ⟨_, rfl, insertEntry_split (addedReminder id due period service event presence) s.scp.target, rfl⟩
  · have run : exec .dropReminder s = .next (dropReminder id s) := by
      simp only [exec, execDropReminder, whenRunning_of_running h.1, asked_eq s h.2]
    rw [run, dropReminder]
    refine ⟨fun found => ?_, fun absent => ?_⟩
    · rw [if_pos ((any_reminderId_iff _ _).mpr found),
        reply_eq { s with scp := { s.scp with target := removeReminder id s.scp.target } } .ok h.2]
      rfl
    · rw [if_neg (fun found => by
        obtain ⟨e, he, same⟩ := (any_reminderId_iff _ _).mp found
        exact absent e he same), reply_eq s .notFound h.2]
  · simp only [exec, execHoldReminders, whenRunning_of_running h.1, asked_eq s h.2]
    rw [reply_eq { s with scp := { s.scp with hold := true } } .ok h.2]
    rfl
  · simp only [exec, execReleaseReminders, whenRunning_of_running h.1, asked_eq s h.2]
    rw [releaseReminders_of_open h open_]
  · intro marked covered moves
    have run : exec .releaseReminders s = .next (releaseReminders s) := by
      simp only [exec, execReleaseReminders, whenRunning_of_running h.1, asked_eq s h.2]
    have ordered := (releaseReminders_schedule ok).1
    rw [releaseReminders_eq h held] at run ordered
    have next (e x : Entry) (he : e ∈ marked) : e.visitNext false s.tmb s.tmb.w = some x ↔ moves e x := by
      obtain ⟨id, period, kind⟩ := (isHeld_iff e).mp (List.mem_filter.mp he).2
      rw [Entry.visitNext, kind]
      dsimp only
      rw [if_neg (by simp), movedTo_eq_some_iff]
      simp only [moves, kind, EntryKind.reminder.injEq, and_true]
      refine ⟨fun ⟨repeating, inRange, new⟩ => ⟨id, period, ⟨rfl, rfl⟩, repeating, inRange, new⟩, ?_⟩
      rintro ⟨_, _, ⟨rfl, rfl⟩, repeating, inRange, new⟩
      exact ⟨repeating, inRange, new⟩
    have members (x : Entry) : x ∈ s.heldBackReminders.foldl (visitTable false s.tmb s.tmb.w) s.scp.target ↔
        (x ∈ s.scp.target ∧ x.isHeld = false) ∨ ∃ e ∈ marked, moves e x := by
      rw [mem_released ok x]
      exact or_congr_right (exists_congr fun e => and_congr_right fun he => next e x he)
    have reported : s.heldBackReminders.filterMap (visitEvent false s.tmb.w)
        = marked.filterMap fun e => match e.kind with
          | .reminder id period _ => some (.reminderDue id e.due (covered e period) s.tmb.w e.service e.event)
          | .device _ => none := by
      refine List.filterMap_congr fun e _ => ?_
      rw [visitEvent]
      rcases e.kind with ⟨id, period, mark⟩ | k <;> rfl
    refine ⟨_, run, rfl, fun e he => ?_, ?_, members, ordered, ?_, rfl⟩
    · rcases (members e).mp he with ⟨-, free⟩ | ⟨y, -, -, -, -, -, -, rfl⟩
      · exact free
      · rfl
    · obtain ⟨more, queue⟩ := admittedAll_queue (s.heldBackReminders.filterMap (visitEvent false s.tmb.w))
        (s.replied tag .releaseReminders .ok []).rpq (s.replied tag .releaseReminders .ok []).rqh.reserved
      exact ⟨more, by
        simp only [emitAll_eq]
        rw [queue]
        simp [State.replied, Request.code]⟩
    · exact congrArg (fun es => (emitAll es (s.replied tag .releaseReminders .ok [])).rpq) reported

end Sys2Proof.Machine
end

section
/-! The host's routes (R13, R14) and the placing of the guide window (R168, R170). -/

namespace Sys2Proof.Machine

/-! ### Host routes -/

theorem portOfCode_carrier_iff (code : Nat) (port : Port) :
    (portOfCode code).filter (· != .l) = some port ↔ code = 1 ∧ port = .a ∨ code = 2 ∧ port = .b := by
  unfold portOfCode
  split <;> cases port <;> simp_all

theorem portOfCode_carrier_none {code : Nat} (other : code ≠ 1 ∧ code ≠ 2) : (portOfCode code).filter (· != .l) = none := by
  rw [Option.eq_none_iff_forall_ne_some]
  intro port named
  rcases (portOfCode_carrier_iff code port).mp named with ⟨is, -⟩ | ⟨is, -⟩
  · exact other.1 is
  · exact other.2 is

/-- Whether a stream may be added: an id in range that is not reserved (R13). -/
theorem streamRefused_iff (stream : Nat) : (stream > 4095 || reservedStreams.contains stream) = true ↔
    4095 < stream ∨ stream ∈ [4064, 4065, 4066, 4067, 4068, 4080, 4081, 4095] := by
  rw [Bool.or_eq_true, decide_eq_true_iff, List.contains_iff_mem]
  rfl

theorem RouteTable.find_isSome_iff (t : RouteTable) (p : Route → Bool) :
    (t.find p).isSome = true ↔ ∃ r, some r ∈ t ∧ p r = true := by
  rw [Option.isSome_iff_ne_none, ne_eq, RouteTable.find_eq_none]
  simp only [not_forall, Bool.not_eq_false]
  exact ⟨fun ⟨r, hr, holds⟩ => ⟨r, hr, holds⟩, fun ⟨r, hr, holds⟩ => ⟨r, hr, holds⟩⟩

theorem RouteTable.lowestFree_of_first {t : RouteTable} {k : Nat} (free : t[k]? = some none)
    (taken : ∀ j < k, t[j]? ≠ some none) : t.lowestFree = some k := by
  obtain ⟨inside, entry⟩ := List.getElem?_eq_some_iff.mp free
  refine List.findIdx?_eq_some_iff_getElem.mpr ⟨inside, by rw [entry]; rfl, fun j hj => ?_⟩
  have bound : j < t.length := hj.trans inside
  have busy := taken j hj
  rw [List.getElem?_eq_getElem bound, ne_eq, Option.some_inj] at busy
  simpa [Option.isNone_iff_eq_none] using busy

/-- The requests of ADD_ROUTE that are answered (R13). -/
theorem addRoute_of_carrier {code stream : Nat} {port : Port} (s : State)
    (named : code = 1 ∧ port = .a ∨ code = 2 ∧ port = .b) (inRange : stream ≤ 4095)
    (free : stream ∉ [4064, 4065, 4066, 4067, 4068, 4080, 4081, 4095]) : addRoute code stream s =
      if (RouteTable.find s.routes (Route.isAt port stream .live)).isSome then reply .duplicate s
      else if RouteTable.owned s.routes .host ≥ 8 then reply .full s
      else
        match RouteTable.lowestFree s.routes with
        | none => reply .full s
        | some k => answer .ok (beBytes 1 k)
            { s with routes := setAt s.routes k (some (.fresh port stream .pass .live .host .none)) } := by
  rw [addRoute, (portOfCode_carrier_iff code port).mpr named]
  dsimp only
  exact if_neg fun refused => ((streamRefused_iff stream).mp refused).elim (fun far => by omega) free

/-- Whether a route is the host's of a port code and a stream (R14). -/
def isHostsRoute (code stream : Nat) (r : Route) : Bool :=
  r.owner == .host && some r.port == portOfCode code && r.stream == stream

theorem isHostsRoute_iff (code stream : Nat) (r : Route) : isHostsRoute code stream r = true ↔
    r.owner = .host ∧ r.stream = stream ∧ (r.port = .a ∧ code = 1 ∨ r.port = .b ∧ code = 2 ∨ r.port = .l ∧ code = 3) := by
  have port : some r.port = portOfCode code ↔ (r.port = .a ∧ code = 1 ∨ r.port = .b ∧ code = 2 ∨ r.port = .l ∧ code = 3) := by
    unfold portOfCode
    split <;> cases r.port <;> simp_all
  rw [isHostsRoute, Bool.and_eq_true, Bool.and_eq_true, beq_iff_eq, beq_iff_eq, beq_iff_eq, port]
  constructor
  · rintro ⟨⟨owner, at_⟩, carried⟩
    exact ⟨owner, carried, at_⟩
  · rintro ⟨owner, carried, at_⟩
    exact ⟨⟨owner, at_⟩, carried⟩

/-- An entry of a table from which the routes of a test are freed. -/
theorem free_getElem? (t : RouteTable) (p : Route → Bool) {k : Nat} {entry : Option Route} (held : t[k]? = some entry) :
    (t.free p)[k]? = some (entry.filter fun r => !p r) := by
  rw [RouteTable.free, List.getElem?_map, held, Option.map_some]

/-- Settles O45: the table's lookup decides the refusals, and freeing touches the entries of the test alone. -/
theorem hostRoutesAreAddedAndDropped : Obligations.HostRoutesAreAddedAndDropped := by
  intro s tag n code stream
  refine ⟨fun h => ?_, fun h => ?_⟩
  · intro r
    have run : exec .addRoute s = .next (addRoute code stream s) := by
      simp only [exec, execAddRoute, whenRunning_of_running h.1, asked_eq s h.2]
    rw [run]
    refine ⟨fun refused => ?_, fun port named inRange free => ?_⟩
    · have bad : addRoute code stream s = reply .badParam s := by
        rw [addRoute]
        split
        · rfl
        · rename_i port named
          rcases refused with other | out
          · rw [portOfCode_carrier_none other] at named
            simp at named
          · exact if_pos ((streamRefused_iff stream).mpr out)
      rw [bad, reply_eq s .badParam h.2]
    · rw [addRoute_of_carrier s named inRange free]
      refine ⟨fun ⟨x, hx, same⟩ => ?_, fun fresh => ⟨fun full => ?_, fun k few small entry lowest => ?_⟩⟩
      · rw [if_pos ((RouteTable.find_isSome_iff _ _).mpr ⟨x, hx, (isAt_iff _ _ _ _).mpr same⟩), reply_eq s .duplicate h.2]
      · have absent : ¬ (RouteTable.find s.routes (Route.isAt port stream .live)).isSome = true := fun found => by
          obtain ⟨x, hx, at_⟩ := (RouteTable.find_isSome_iff _ _).mp found
          exact fresh x hx ((isAt_iff _ _ _ _).mp at_)
        rw [if_neg absent, if_pos (show RouteTable.owned s.routes .host ≥ 8 from full), reply_eq s .full h.2]
      · have absent : ¬ (RouteTable.find s.routes (Route.isAt port stream .live)).isSome = true := fun found => by
          obtain ⟨x, hx, at_⟩ := (RouteTable.find_isSome_iff _ _).mp found
          exact fresh x hx ((isAt_iff _ _ _ _).mp at_)
        rw [if_neg absent, if_neg (show ¬ RouteTable.owned s.routes .host ≥ 8 from Nat.not_le.mpr few),
          RouteTable.lowestFree_of_first entry lowest]
        dsimp only
        rw [answer_eq { s with routes := setAt s.routes k (some (.fresh port stream .pass .live .host .none)) } .ok (beBytes 1 k) h.2]
        rfl
  · intro r named
    have run : exec .dropRoute s = .next (dropRoute code stream s) := by
      simp only [exec, execDropRoute, whenRunning_of_running h.1, asked_eq s h.2]
    have dropped : dropRoute code stream s = if (RouteTable.find s.routes (isHostsRoute code stream)).isSome then
        reply .ok { s with routes := RouteTable.free s.routes (isHostsRoute code stream) } else reply .notFound s := rfl
    rw [run, dropped]
    have test (x : Route) : isHostsRoute code stream x = true ↔ named x := isHostsRoute_iff code stream x
    refine ⟨fun ⟨x, hx, is⟩ => ⟨_, rfl, ?_⟩, fun absent => ?_⟩
    · rw [if_pos ((RouteTable.find_isSome_iff _ _).mpr ⟨x, hx, (test x).mpr is⟩), 
        reply_eq { s with routes := RouteTable.free s.routes (isHostsRoute code stream) } .ok h.2]
      refine ⟨fun k y held => ⟨fun yes => ?_, fun no => ?_⟩, fun k empty => free_getElem? _ _ empty, List.length_map _, rfl⟩
      · exact (free_getElem? _ _ held).trans (by simp [(test y).mpr yes])
      · exact (free_getElem? _ _ held).trans (by
          simp only [Option.filter_some, show isHostsRoute code stream y = false by
            rw [← Bool.not_eq_true, test]
            exact no, Bool.not_false, if_true])
    · rw [if_neg (fun found => by
        obtain ⟨x, hx, is⟩ := (RouteTable.find_isSome_iff _ _).mp found
        exact absent x hx ((test x).mp is)), reply_eq s .notFound h.2]

/-! ### The guide window (R168, R170) -/

theorem noGrid_iff (s : State) : s.noGrid = true ↔ s.tmb.wallValid = false ∨ s.gwn.start = none := by
  simp [State.noGrid]

/-- The service at a place of the ring, as a reply's field gives it. -/
theorem encOptNat_service (x : Option Service) : encOptNat 2 (x.map Service.number) =
    match x with
    | some y => 1#8 :: beBytes 2 y.number
    | none => [0#8, 0#8, 0#8] := by
  cases x <;> rfl

/-- The index that GRID_SET takes for a top service: the first at or above it, 0 where there is none (R170). -/
theorem topFor_spec (ring : List Service) (number : Nat) :
    ((∀ x ∈ ring, x.number < number) → topFor ring number = 0)
    ∧ ((∃ x ∈ ring, number ≤ x.number) → (∃ x, ring[topFor ring number]? = some x ∧ number ≤ x.number)
        ∧ ∀ k x, k < topFor ring number → ring[k]? = some x → x.number < number) := by
  rw [topFor, indexOf]
  constructor
  · intro low
    rw [List.findIdx?_eq_none_iff.mpr fun x hx => by simpa using low x hx]
    rfl
  · rintro ⟨y, hy, high⟩
    have found : (ring.findIdx? fun r => decide (number ≤ r.number)).isSome = true := by
      rw [List.findIdx?_isSome, List.any_eq_true]
      exact ⟨y, hy, by simpa using high⟩
    obtain ⟨k, at_⟩ := Option.isSome_iff_exists.mp found
    rw [at_, Option.getD_some]
    obtain ⟨inside, test, before⟩ := List.findIdx?_eq_some_iff_getElem.mp at_
    refine ⟨⟨ring[k], List.getElem?_eq_getElem inside, by simpa using test⟩, fun j x hj held => ?_⟩
    obtain ⟨bound, rfl⟩ := List.getElem?_eq_some_iff.mp held
    simpa using before j hj

/-- The start and the cursor time that GRID_SET leaves lie within their limits (R168, R170). -/
theorem place_start (w start : Nat) : let early := w / 1800 * 1800
    let start' := within (earliestStart w) (latestStart w) (start / 1800 * 1800)
    start' % 1800 = 0 ∧ early ≤ start' ∧ start' ≤ early + 1209600
      ∧ (early ≤ start → start < early + 1209600 + 1800 → start' ≤ start ∧ start < start' + 1800)
      ∧ (start < early → start' = early) ∧ (early + 1209600 ≤ start → start' = early + 1209600) := by
  simp only [within, earliestStart, latestStart]
  omega

/-- Settles O59: the record is placed by its limits, and the reply is the record as it then stands. -/
theorem theWindowIsPlacedWithinItsLimits : Obligations.TheWindowIsPlacedWithinItsLimits := by
  refine ⟨fun s ho => ?_, fun s tag n top rows columns start h => ?_⟩
  · intro s0
    have run : exec .gwnWallSet s = .next (if s0.gwn.start.isNone
        then { s0 with gwn := { s0.gwn with start := some (earliestStart s0.tmb.w), cursorTime := some s0.tmb.w } } else s0) := by
      simp only [exec, execGwnWallSet, whenRunning_of_running ho.1,
        show s.nextIn (.tmbTo .gwn) = some (.wallSet .gwn) from offered_next ho]
      rfl
    rw [run]
    refine ⟨fun unset => ?_, fun set => ?_⟩
    · rw [if_pos (Option.isNone_iff_eq_none.mpr unset)]
      rfl
    · rw [if_neg (fun no => set (Option.isNone_iff_eq_none.mp no))]
  · intro r ring early
    have run : exec .gridSet s = .next (gridSet top rows columns start s) := by
      simp only [exec, execGridSet, whenRunning_of_running h.1, asked_eq s h.2]
    rw [run]
    refine ⟨fun far => ?_, fun near unset => ?_, fun near wall set => ?_⟩
    · rw [gridSet, if_pos far, reply_eq s .badParam h.2]
    · rw [gridSet, if_neg (by omega), if_pos ((noGrid_iff s).mpr unset), reply_eq s .noTime h.2]
    · have ready : ¬ s.noGrid = true := by
        rw [noGrid_iff]
        rintro (no | no)
        · simp [wall] at no
        · exact set no
      obtain ⟨aligned, low, high, around, below, beyond⟩ := place_start s.tmb.w start
      rw [gridSet, if_neg (by omega), if_neg ready]
      dsimp only
      rw [answer_eq { s with gwn := s.gwn.place s.sdr.ring s.tmb.w top rows columns start } .ok _ h.2]
      refine ⟨_, _, _, rfl, rfl, aligned, low, high, around, below, beyond, fun inside inside' => if_pos ⟨inside, inside'⟩,
        fun outside => if_neg (by rintro ⟨inside, inside'⟩; exact outside.elim (fun o => by omega) (fun o => absurd inside' (Nat.not_lt.mpr o))),
        fun none_ => if_pos none_, fun some_ low => ?_, fun some_ found => ?_, ?_⟩
      · exact (if_neg (by omega)).trans ((topFor_spec ring top).1 low)
      · have at_ : (s.gwn.place s.sdr.ring s.tmb.w top rows columns start).top = topFor ring top := if_neg (by omega)
        exact at_ ▸ (topFor_spec ring top).2 found
      · rw [Gwn.setReply, encOptNat_service]
        rfl

end Sys2Proof.Machine
end

section
/-! The guide window's cursor (R171 to R173). -/

namespace Sys2Proof.Machine

/-! ### Directions -/

/-- The code of a direction (R190). -/
def Direction.code : Direction → Nat
  | .up => 0
  | .down => 1
  | .left => 2
  | .right => 3
  | .pageUp => 4
  | .pageDown => 5

theorem Direction.ofCode_code (d : Direction) : Direction.ofCode d.code = some d := by cases d <;> rfl

theorem Direction.exists_code {code : Nat} (named : code ≤ 5) : ∃ d : Direction, code = d.code := by
  interval_cases code
  · exact ⟨.up, rfl⟩
  · exact ⟨.down, rfl⟩
  · exact ⟨.left, rfl⟩
  · exact ⟨.right, rfl⟩
  · exact ⟨.pageUp, rfl⟩
  · exact ⟨.pageDown, rfl⟩

theorem Direction.ofCode_of_unlisted {code : Nat} (unlisted : 5 < code) : Direction.ofCode code = none := by
  unfold Direction.ofCode
  split <;> first
    | omega
    | rfl

theorem Direction.isVertical_iff (d : Direction) : d.isVertical = true ↔ d.code ≠ 2 ∧ d.code ≠ 3 := by
  cases d <;> decide

/-! ### The programmes about a cursor time (R172, R173) -/

/-- The event of a list that contains a wall second. -/
def eventAt (events : List GuideEvent) (c : Nat) : Option GuideEvent :=
  events.find? fun e => decide (e.start ≤ c ∧ c < e.start + e.duration)

theorem find_holds (events : List GuideEvent) (c : Nat) : events.find? (GuideEvent.holds c) = eventAt events c := by
  refine congrArg (events.find? ·) (funext fun e => ?_)
  exact (Bool.decide_and _ _).symm

/-- The next programme after a cursor time (R172). -/
def eventAfter (events : List GuideEvent) (c : Nat) : Option GuideEvent :=
  match eventAt events c with
  | some e => events.find? fun x => decide (e.start + e.duration ≤ x.start)
  | none => events.find? fun x => decide (c < x.start)

/-- The programme before a cursor time (R173). -/
def eventBefore (events : List GuideEvent) (c : Nat) : Option GuideEvent :=
  (events.filter fun x => decide (x.start < ((eventAt events c).map GuideEvent.start).getD c)).getLast?

theorem nextStart_eq (events : List GuideEvent) (c : Nat) : nextStart events c = (eventAfter events c).map GuideEvent.start := by
  rw [nextStart, eventAfter, find_holds]
  cases eventAt events c <;> rfl

theorem previousStart_eq (events : List GuideEvent) (c : Nat) :
    previousStart events c = (eventBefore events c).map GuideEvent.start := by
  rw [previousStart, eventBefore, find_holds]

theorem eventAt_contains {events : List GuideEvent} {c : Nat} {e : GuideEvent} (found : eventAt events c = some e) :
    e.start ≤ c ∧ c < e.start + e.duration := by simpa using List.find?_some found

theorem eventAfter_later {events : List GuideEvent} {c : Nat} {e : GuideEvent} (found : eventAfter events c = some e) :
    c < e.start := by
  rw [eventAfter] at found
  split at found
  · rename_i x running
    have after : x.start + x.duration ≤ e.start := by simpa using List.find?_some found
    have inside := (eventAt_contains running).2
    omega
  · simpa using List.find?_some found

theorem eventBefore_earlier {events : List GuideEvent} {c : Nat} {e : GuideEvent} (found : eventBefore events c = some e) :
    e.start < c := by
  have test := (List.mem_filter.mp (List.mem_of_getLast? found)).2
  rw [decide_eq_true_iff] at test
  rcases running : eventAt events c with _ | x
  · simpa [running] using test
  · have inside := (eventAt_contains running).1
    have before : e.start < x.start := by simpa [running] using test
    omega

theorem moveLeft_spec (events : List GuideEvent) (earliest c : Nat) :
    (eventBefore events c = none → moveLeft events earliest c = max earliest (c - 1800))
    ∧ (∀ e, eventBefore events c = some e → moveLeft events earliest c = max earliest e.start) := by
  rw [moveLeft, previousStart_eq]
  exact ⟨fun absent => by rw [absent]; rfl, fun e found => by rw [found]; rfl⟩

theorem moveRight_spec (events : List GuideEvent) (limit c : Nat) :
    (∀ e, eventAfter events c = some e → e.start ≤ limit → moveRight events limit c = e.start)
    ∧ ((∀ e, eventAfter events c = some e → limit < e.start) → moveRight events limit c = min limit (c + 1800)) := by
  rw [moveRight, nextStart_eq]
  refine ⟨fun e found near => by simp [found, Option.filter_some, near], fun far => ?_⟩
  rcases found : eventAfter events c with _ | e
  · rfl
  · have beyond : ¬ e.start ≤ limit := Nat.not_le.mpr (far e found)
    simp [Option.filter_some, beyond]

/-- The cursor time after a move (R172, R173). -/
def movedTime (events : List GuideEvent) (earliest limit : Nat) (d : Direction) (c : Nat) : Nat :=
  match d with
  | .left => moveLeft events earliest c
  | .right => moveRight events limit c
  | _ => c

theorem movedTime_within (events : List GuideEvent) {earliest limit c : Nat} (low : earliest ≤ c) (high : c ≤ limit)
    (d : Direction) : earliest ≤ movedTime events earliest limit d c ∧ movedTime events earliest limit d c ≤ limit := by
  cases d with
  | left =>
    obtain ⟨absent, found⟩ := moveLeft_spec events earliest c
    rcases before : eventBefore events c with _ | e
    · rw [movedTime, absent before]
      omega
    · have earlier := eventBefore_earlier before
      rw [movedTime, found e before]
      omega
  | right =>
    obtain ⟨near, far⟩ := moveRight_spec events limit c
    by_cases reached : ∃ e, eventAfter events c = some e ∧ e.start ≤ limit
    · obtain ⟨e, after, inRange⟩ := reached
      have later := eventAfter_later after
      rw [movedTime, near e after inRange]
      omega
    · rw [movedTime, far fun e after => Nat.lt_of_not_le fun inRange => reached ⟨e, after, inRange⟩]
      omega
  | up | down | pageUp | pageDown => exact ⟨low, high⟩

theorem move_cursorTime (g : Gwn) (ring : List Service) (events : List GuideEvent) (w : Nat) (d : Direction) :
    (g.move ring events w d).cursorTime
      = g.cursorTime.map (movedTime events (earliestStart w) (cursorLimit w g.columns) d) := by
  cases d <;> simp only [Gwn.move] <;> (try split) <;> cases g.cursorTime <;> rfl

/-! ### The scroll (R171) -/

/-- The scroll brings the cursor time into the window by the fewest half hours. -/
theorem scrolled_spec {w columns start c : Nat} (low : earliestStart w ≤ start) (high : start ≤ latestStart w)
    (aligned : start % 1800 = 0) (columned : 1 ≤ columns) (early : earliestStart w ≤ c) (late : c ≤ cursorLimit w columns) :
    let start' := scrolled w columns start c
    start' % 1800 = 0 ∧ earliestStart w ≤ start' ∧ start' ≤ latestStart w ∧ start' ≤ c ∧ c < start' + 1800 * columns
      ∧ (start ≤ start' → start' = start ∨ start' + 1800 * columns ≤ c + 1800)
      ∧ (start' ≤ start → start' = start ∨ c < start' + 1800) := by
  have hours : earliestStart w % 1800 = 0 := by
    rw [earliestStart]
    omega
  rw [cursorLimit] at late
  rw [latestStart] at *
  simp only [scrolled, halfHours, latestStart]
  generalize earliestStart w = e at *
  split
  · omega
  split
  · omega
  · omega

/-! ### The rows (R171) -/

/-- The top row and the cursor row after a move, of a window with `v` visible rows over a ring of `size` services. -/
def movedRows (size v top row : Nat) : Direction → Nat × Nat
  | .up => if 0 < row then (top, row - 1) else ((top + size - 1) % size, row)
  | .down => if row < v - 1 then (top, row + 1) else ((top + 1) % size, row)
  | .pageUp => ((top + size - v) % size, row)
  | .pageDown => ((top + v) % size, row)
  | .left | .right => (top, row)

theorem move_eq (g : Gwn) (ring : List Service) (events : List GuideEvent) (w : Nat) (d : Direction) :
    g.move ring events w d = { g with
      top := (movedRows ring.length (g.visible ring) g.top g.cursorRow d).1
      cursorRow := (movedRows ring.length (g.visible ring) g.top g.cursorRow d).2
      cursorTime := g.cursorTime.map (movedTime events (earliestStart w) (cursorLimit w g.columns) d) } := by
  rw [← move_cursorTime g ring events w d]
  cases d with
  | up =>
    simp only [Gwn.move, movedRows]
    split <;> rfl
  | down =>
    simp only [Gwn.move, movedRows]
    split <;> rfl
  | left | right | pageUp | pageDown => rfl

theorem movedRows_row_le {size v top row : Nat} (inside : row ≤ v - 1) (d : Direction) :
    (movedRows size v top row d).2 ≤ v - 1 := by
  cases d with
  | up =>
    rw [movedRows]
    split
    · exact (Nat.sub_le _ _).trans inside
    · exact inside
  | down =>
    rw [movedRows]
    split
    · rename_i below
      exact below
    · exact inside
  | left | right | pageUp | pageDown => exact inside

/-- The service that a window shows at its cursor. -/
theorem cursorService_eq (g : Gwn) (ring : List Service) (inside : ring ≠ [] → g.cursorRow ≤ min g.rows ring.length - 1) :
    g.cursorService ring = ring[(g.top + g.cursorRow) % ring.length]?.map Service.number := by
  rcases ring with _ | ⟨x, rest⟩
  · rfl
  · rw [Gwn.cursorService, Gwn.ringIndex, Gwn.effectiveRow, Gwn.visible, Nat.min_eq_left (inside (by simp)), Gwn.effectiveTop,
      Nat.mod_add_mod]

/-- The events of the cursor's service. -/
theorem cursorEvents_eq (g : Gds) (x : Option Service) : ((x.map Service.number).map g.eventsOf).getD []
    = g.events.filter fun e => some e.service == x.map Service.number := by
  rcases x with _ | x
  · simp
  · simp [Gds.eventsOf]

/-! ### CURSOR_MOVE -/

/-- The record after a move, in terms of the normalised values. -/
theorem moveCursor_eq {s : State} {tag : Byte} {n code : Nat} (asking : s.asking tag (.cursorMove code) n) {d : Direction}
    {start cursor : Nat} (started : s.gwn.start = some start) (timed : s.gwn.cursorTime = some cursor) :
    let ring := s.sdr.ring
    let w := s.tmb.w
    let v := min s.gwn.rows ring.length
    let top := if ring = [] then s.gwn.top else s.gwn.top % ring.length
    let row := if ring = [] then s.gwn.cursorRow else min s.gwn.cursorRow (v - 1)
    let from' := within (earliestStart w) (latestStart w) start
    let at' := within (earliestStart w) (cursorLimit w s.gwn.columns) cursor
    let own := s.gds.events.filter fun e => some e.service == (ring[(top + row) % ring.length]?).map Service.number
    let cursor' := movedTime own (earliestStart w) (cursorLimit w s.gwn.columns) d at'
    let start' := scrolled w s.gwn.columns from' cursor'
    let rows' := movedRows ring.length v top row d
    moveCursor d s = { s.replied tag (.cursorMove code) .ok (beBytes 1 rows'.1 ++ beBytes 1 rows'.2
        ++ encOptNat 2 (ring[(rows'.1 + rows'.2) % ring.length]?.map Service.number) ++ beBytes 5 cursor' ++ beBytes 5 start') with
      gwn := { s.gwn with top := rows'.1, cursorRow := rows'.2, start := some start', cursorTime := some cursor' } } := by
  intro ring w v top row from' at' own cursor' start' rows'
  have inside : ring ≠ [] → row ≤ v - 1 := fun some_ => by
    rw [show row = min s.gwn.cursorRow (v - 1) from if_neg some_]
    exact Nat.min_le_right _ _
  have normal : s.gwn.normalise ring w = { s.gwn with top := top, cursorRow := row, start := some from', cursorTime := some at' } := by
    rw [Gwn.normalise, started, timed]
    simp only [List.isEmpty_iff]
    rfl
  have service : (s.gwn.normalise ring w).cursorService ring = ring[(top + row) % ring.length]?.map Service.number := by
    rw [normal]
    exact cursorService_eq _ ring inside
  let left : Gwn := { s.gwn with top := rows'.1, cursorRow := rows'.2, start := some start', cursorTime := some cursor' }
  have moved : ((s.gwn.normalise ring w).move ring own w d).scroll w = left := by
    rw [move_eq, normal]
    rfl
  rw [moveCursor]
  dsimp only
  rw [show (s.gwn.normalise s.sdr.ring s.tmb.w).cursorService s.sdr.ring = _ from service, cursorEvents_eq,
    show ((s.gwn.normalise s.sdr.ring s.tmb.w).move s.sdr.ring _ s.tmb.w d).scroll s.tmb.w = _ from moved,
    answer_eq { s with gwn := left } .ok _ asking.2, Gwn.moveReply, cursorService_eq _ _ fun some_ => movedRows_row_le (inside some_) d]
  rfl

theorem exec_cursorMove {s : State} {tag : Byte} {n code : Nat} (asking : s.asking tag (.cursorMove code) n) :
    exec .cursorMove s = .next (cursorMove code s) := by
  simp only [exec, execCursorMove, whenRunning_of_running asking.1, asked_eq s asking.2]

/-- A move that passes its tests (R171). -/
theorem cursorMove_of_allowed {s : State} {d : Direction} (ready : ¬ s.noGrid = true)
    (rows : s.sdr.ring ≠ [] ∨ d.code = 2 ∨ d.code = 3) : cursorMove d.code s = moveCursor d s := by
  have allowed : ¬ (d.isVertical && s.sdr.ring.isEmpty) = true := by
    rw [Bool.and_eq_true, Direction.isVertical_iff, List.isEmpty_iff]
    rintro ⟨⟨notLeft, notRight⟩, empty⟩
    rcases rows with some_ | left | right
    · exact some_ empty
    · exact notLeft left
    · exact notRight right
  rw [cursorMove, Direction.ofCode_code]
  dsimp only
  rw [if_neg ready, if_neg allowed]

end Sys2Proof.Machine
end

section
/-! The guide window as it is read (R174 to R176). -/

namespace Sys2Proof.Machine

/-! ### Reading the attributes of a span (R176, R191) -/

theorem getLsbD_bitMap (bits : List Bool) (few : bits.length ≤ 8) (k : Nat) :
    (BitVec.ofNat 8 (bitMap bits)).getLsbD k = bits.getD k false := by
  have test (bits : List Bool) (k : Nat) : (bitMap bits).testBit k = bits.getD k false := by
    induction bits generalizing k with
    | nil => simp [bitMap]
    | cons b rest ih =>
      cases k with
      | zero => cases b <;> simp [bitMap, Nat.testBit_zero]
      | succ k => 
        rw [Nat.testBit_succ, List.getD_cons_succ, ← ih k]
        congr 1
        rw [bitMap]
        split <;> omega
  rw [BitVec.getLsbD_ofNat, test]
  by_cases inside : k < 8
  · simp [inside]
  · rw [List.getD_eq_default _ _ (by omega)]
    simp [inside]

/-- The tier test while the wall is valid (R128). -/
theorem tierEntitled_iff {s : State} (wall : s.tmb.wallValid = true) (tier : Nat) : s.tierEntitled tier = true ↔
    ∃ y ∈ s.enu.table, y.tier = tier ∧ (y.expiry = 4294967295 ∨ s.tmb.w < y.expiry) := by
  simp only [State.tierEntitled, List.any_eq_true, Bool.and_eq_true, beq_iff_eq, Tmb.expired, wall, Bool.true_and,
    Bool.not_eq_true', Bool.and_eq_false_iff, bne_eq_false_iff_eq, decide_eq_false_iff_not, Nat.not_le]
  rfl

/-- The grant test while the wall is valid (R128). -/
theorem grantTest_iff {s : State} (wall : s.tmb.wallValid = true) (service event : Nat) : s.grantTest service event = true ↔
    ∃ g ∈ s.enu.grants, g.service = service ∧ g.event = event ∧ (g.expiry = 4294967295 ∨ s.tmb.w < g.expiry) := by
  simp only [State.grantTest, State.hasCurrentGrant, Grant.isFor, List.any_eq_true, Bool.and_eq_true, beq_iff_eq, Tmb.expired, wall,
    Bool.true_and, Bool.not_eq_true', Bool.and_eq_false_iff, bne_eq_false_iff_eq, decide_eq_false_iff_not, Nat.not_le, and_assoc]
  rfl

theorem holds_iff (e : GuideEvent) (second : Nat) : e.holds second = true ↔ e.start ≤ second ∧ second < e.start + e.duration := by
  rw [GuideEvent.holds, Bool.and_eq_true, decide_eq_true_iff, decide_eq_true_iff]
  rfl

/-- Whether a reminder names an event (R176). -/
theorem reminded_iff (s : State) (e : GuideEvent) :
    (s.scp.reminders.any fun r => r.service == some e.service && r.event == some e.id) = true ↔
      ∃ y ∈ s.scp.target, y.reminderId ≠ none ∧ y.service = some e.service ∧ y.event = some e.id := by
  simp only [Scp.reminders, List.any_filter, List.any_eq_true, Bool.and_eq_true, beq_iff_eq, Option.isSome_iff_ne_none]

theorem tierless_iff {s : State} (wall : s.tmb.wallValid = true) (x : Service) :
    (!x.tiers.isEmpty && !x.tiers.any s.tierEntitled) = true ↔ x.tiers ≠ [] ∧ ∀ tier ∈ x.tiers, ∀ y ∈ s.enu.table,
      y.tier = tier → y.expiry ≠ 4294967295 ∧ y.expiry ≤ s.tmb.w := by
  rw [Bool.and_eq_true, Bool.not_eq_true', List.isEmpty_eq_false_iff, Bool.not_eq_true', List.any_eq_false]
  refine and_congr_right fun _ => forall₂_congr fun tier _ => ?_
  rw [tierEntitled_iff wall]
  constructor
  · intro none_ y hy same
    by_contra current
    exact none_ ⟨y, hy, same, by omega⟩
  · rintro past ⟨y, hy, same, current⟩
    have expired := past y hy same
    omega

theorem fails_iff (s : State) (x : Service) (e : GuideEvent) :
    (s.plu.ratingFails e.age e.flags || s.plu.lockHolds x.number) = true ↔
      s.plu.ratingFails e.age e.flags = true ∨ x.number ∈ s.plu.activeProfile.locked := by
  rw [Bool.or_eq_true, Plu.lockHolds, List.contains_iff_mem]

/-- The eight attributes of a span (R176). -/
theorem attributes_iff {s : State} (wall : s.tmb.wallValid = true) {onCursorRow : Bool} {row : Prop} (cursorRow : onCursorRow = true ↔ row)
    (x : Service) (s0 s1 : Nat) (e : GuideEvent) :
    let bit (b : Nat) : Bool := (attributesOf s onCursorRow x s0 s1 e).getD b false
    let contains (second : Nat) : Prop := e.start ≤ second ∧ second < e.start + e.duration
    (bit 0 = true ↔ row ∧ ∃ second, s.gwn.cursorTime = some second ∧ contains second)
    ∧ (bit 1 = true ↔ contains s.tmb.w)
    ∧ (bit 2 = true ↔ ∃ y ∈ s.scp.target, y.reminderId ≠ none ∧ y.service = some e.service ∧ y.event = some e.id)
    ∧ (bit 3 = true ↔ s.plu.ratingFails e.age e.flags = true ∨ x.number ∈ s.plu.activeProfile.locked)
    ∧ (bit 4 = true ↔ x.tiers ≠ [] ∧ ∀ tier ∈ x.tiers, ∀ y ∈ s.enu.table,
        y.tier = tier → y.expiry ≠ 4294967295 ∧ y.expiry ≤ s.tmb.w)
    ∧ (bit 5 = true ↔ ∃ g ∈ s.enu.grants, g.service = e.service ∧ g.event = e.id
        ∧ (g.expiry = 4294967295 ∨ s.tmb.w < g.expiry))
    ∧ (bit 6 = true ↔ e.start < s0) ∧ (bit 7 = true ↔ s1 < e.start + e.duration) := by
  refine ⟨?_, holds_iff e _, reminded_iff s e, fails_iff s x e, tierless_iff wall x, grantTest_iff wall _ _, decide_eq_true_iff,
    decide_eq_true_iff⟩
  refine Bool.and_eq_true_iff.trans (and_congr cursorRow ?_)
  rw [Option.any_eq_true]
  simp only [holds_iff]

/-! ### The row records (R174, R175) -/

theorem ring_getElem? {s : State} (some_ : s.sdr.ring ≠ []) (row : Nat) :
    ∃ x, s.sdr.ring[(s.gwn.top + row) % s.sdr.ring.length]? = some x :=
  ⟨_, List.getElem?_eq_getElem (Nat.mod_lt _ (List.length_pos_iff.mpr some_))⟩

theorem ringIndex_eq (g : Gwn) (ring : List Service) (row : Nat) : g.ringIndex ring row = (g.top + row) % ring.length := by
  rw [Gwn.ringIndex, Gwn.effectiveTop, Nat.mod_add_mod]

/-- The events of a service that a window shows (R175). -/
theorem visibleEvents_eventsOf (g : Gds) (service s0 s1 : Nat) : visibleEvents (g.eventsOf service) s0 s1
    = g.events.filter fun e => decide (e.service = service ∧ s0 < e.start + e.duration ∧ e.start < s1) := by
  rw [visibleEvents, Gds.eventsOf, List.filter_filter]
  refine List.filter_congr fun e _ => ?_
  rw [Bool.eq_iff_iff]
  simp only [Bool.and_eq_true, decide_eq_true_eq, beq_iff_eq]
  exact ⟨fun ⟨⟨ends, starts⟩, own⟩ => ⟨own, ends, starts⟩, fun ⟨own, ends, starts⟩ => ⟨⟨ends, starts⟩, own⟩⟩

theorem byteOfNat_eq (v : Nat) : beBytes 1 v = [BitVec.ofNat 8 v] := rfl

/-- A visible row's record, its service at hand. -/
theorem rowRecord_eq {s : State} {s0 row : Nat} {x : Service}
    (shows : s.sdr.ring[(s.gwn.top + row) % s.sdr.ring.length]? = some x) :
    let s1 := s0 + 1800 * s.gwn.columns
    let onCursorRow := row == s.gwn.effectiveRow s.sdr.ring
    let shown := visibleEvents (s.gds.eventsOf x.number) s0 s1
    rowRecord s s0 row = beBytes 1 row ++ beBytes 1 ((s.gwn.top + row) % s.sdr.ring.length) ++ beBytes 2 x.number
      ++ encText x.name ++ encFlag onCursorRow ++ encFlag (!s.gds.hasService x.number) ++ beBytes 5 s0 ++ beBytes 1 s.gwn.columns
      ++ beBytes 1 (shown.take 12).length ++ encFlag (decide (12 < shown.length))
      ++ encList (encSpan s onCursorRow x s0 s1) (shown.take 12) := by
  rw [rowRecord]
  dsimp only
  rw [ringIndex_eq]
  split
  · rename_i absent
    rw [shows] at absent
    simp at absent
  · rename_i y held
    obtain rfl := Option.some.inj (shows.symm.trans held)
    rfl

theorem gridRead_of_unset {s : State} (unset : s.tmb.wallValid = false ∨ s.gwn.start = none) : gridRead s = reply .noTime s := by
  rw [gridRead]
  split
  · rfl
  · rename_i s0 started
    rcases unset with wall | none_
    · exact if_neg (by simp [wall])
    · simp [none_] at started

theorem gridRead_of_set {s : State} {s0 : Nat} (wall : s.tmb.wallValid = true) (started : s.gwn.start = some s0) :
    gridRead s = answerRecords .ok false (gridRecords s s0) s := by
  rw [gridRead, started]
  dsimp only
  rw [if_pos wall]

/-- Several reply records to a request (R177). -/
theorem answerRecords_eq {s : State} {tag : Byte} {request : Request} {n : Nat} (asking : s.asking tag request n)
    (datas : List (List Byte)) : answerRecords .ok false datas s = { s with
      rqh := { s.rqh with inProgress := none }
      rpq := { s.rpq with
        queue := s.rpq.queue ++ datas.zipIdx.map fun (data, k) =>
          Record.reply (BitVec.ofNat 8 request.code) tag .ok (decide (k < datas.length - 1)) false data } } := by
  rw [answerRecords, asking.2]

theorem Direction.code_injective {d d' : Direction} (same : d.code = d'.code) : d = d' := by
  have named := Direction.ofCode_code d
  rw [same, Direction.ofCode_code] at named
  exact (Option.some.inj named).symm

/-- A start on a half hour stays on one where it is brought within its limits (R168, R171). -/
theorem within_start (w start : Nat) (aligned : start % 1800 = 0) : let from' := within (earliestStart w) (latestStart w) start
    from' % 1800 = 0 ∧ earliestStart w ≤ from' ∧ from' ≤ latestStart w := by
  simp only [within, earliestStart, latestStart]
  omega

theorem within_cursor (w columns cursor : Nat) (columned : 1 ≤ columns) :
    let at' := within (earliestStart w) (cursorLimit w columns) cursor
    earliestStart w ≤ at' ∧ at' ≤ cursorLimit w columns := by
  simp only [within, cursorLimit, latestStart]
  omega

/-- Settles O60: a move is a move of the normalised record followed by the scroll, and a row's record is laid out by its service. -/
theorem cursorMovesKeepTheCursorInTheWindowAndGridReadShowsTheRows :
    Obligations.CursorMovesKeepTheCursorInTheWindowAndGridReadShowsTheRows := by
  refine ⟨fun s tag n code h => ?_, fun s tag n h => ?_⟩
  · intro r ring early
    rw [exec_cursorMove h]
    have ready (wall : s.tmb.wallValid = true) (set : s.gwn.start ≠ none) : ¬ s.noGrid = true := by
      rw [noGrid_iff]
      rintro (no | no)
      · simp [wall] at no
      · exact set no
    refine ⟨fun unlisted => ?_, fun named unset => ?_, fun named notLeft notRight wall set empty => ?_,
      fun start cursor named wall started aligned timed columned rowed rows => ?_⟩
    · rw [cursorMove, Direction.ofCode_of_unlisted unlisted]
      exact congrArg Host.Outcome.next (reply_eq s .badParam h.2)
    · obtain ⟨d, rfl⟩ := Direction.exists_code named
      rw [cursorMove, Direction.ofCode_code]
      dsimp only
      rw [if_pos ((noGrid_iff s).mpr unset), reply_eq s .noTime h.2]
    · obtain ⟨d, rfl⟩ := Direction.exists_code named
      have vertical : d.isVertical = true := d.isVertical_iff.mpr ⟨notLeft, notRight⟩
      rw [cursorMove, Direction.ofCode_code]
      dsimp only
      rw [if_neg (ready wall set), if_pos (by rw [vertical, show s.sdr.ring = [] from empty]; rfl), reply_eq s .notFound h.2]
    · obtain ⟨d, rfl⟩ := Direction.exists_code named
      intro v top row limit from' at' own running following previous
      have bounds := within_cursor s.tmb.w s.gwn.columns cursor columned
      have starts := within_start s.tmb.w start aligned
      obtain ⟨low, high⟩ := movedTime_within own bounds.1 bounds.2 d
      obtain ⟨aligned', low', high', left, right, forth, back⟩ :=
        scrolled_spec starts.2.1 starts.2.2 starts.1 columned low high
      obtain ⟨noneBefore, someBefore⟩ := moveLeft_spec own early at'
      obtain ⟨near, far⟩ := moveRight_spec own limit at'
      rw [cursorMove_of_allowed (ready wall (by simp [started])) rows, moveCursor_eq h started timed]
      refine ⟨_, _, _, rfl, rfl, aligned', low', high', left, right, forth, back, low, high, ?_, ?_, ?_, ?_, ?_, ?_, ?_, ?_, ?_⟩
      · intro notLeft notRight
        cases d with
        | left => exact absurd rfl notLeft
        | right => exact absurd rfl notRight
        | up | down | pageUp | pageDown => rfl
      · rintro (is | is)
        · obtain rfl := Direction.code_injective (d' := .left) is
          exact ⟨rfl, rfl⟩
        · obtain rfl := Direction.code_injective (d' := .right) is
          exact ⟨rfl, rfl⟩
      · intro is
        obtain rfl := Direction.code_injective (d' := .up) is
        refine ⟨fun below => ?_, fun first => ?_⟩
        · have moved : movedRows ring.length v top row .up = (top, row - 1) := if_pos below
          exact ⟨congrArg Prod.fst moved, congrArg Prod.snd moved⟩
        · have moved : movedRows ring.length v top row .up = ((top + ring.length - 1) % ring.length, row) := if_neg (by omega)
          exact ⟨congrArg Prod.fst moved, (congrArg Prod.snd moved).trans first⟩
      · intro is
        obtain rfl := Direction.code_injective (d' := .down) is
        refine ⟨fun above => ?_, fun last => ?_⟩
        · have moved : movedRows ring.length v top row .down = (top, row + 1) := if_pos above
          exact ⟨congrArg Prod.fst moved, congrArg Prod.snd moved⟩
        · have moved : movedRows ring.length v top row .down = ((top + 1) % ring.length, row) := if_neg (by omega)
          exact ⟨congrArg Prod.fst moved, (congrArg Prod.snd moved).trans last⟩
      · intro is
        obtain rfl := Direction.code_injective (d' := .pageUp) is
        exact ⟨rfl, rfl⟩
      · intro is
        obtain rfl := Direction.code_injective (d' := .pageDown) is
        exact ⟨rfl, rfl⟩
      · intro is
        obtain rfl := Direction.code_injective (d' := .left) is
        exact ⟨noneBefore, someBefore⟩
      · intro is
        obtain rfl := Direction.code_injective (d' := .right) is
        exact ⟨near, far⟩
      · rw [encOptNat_service]
        rfl
  · intro ring v
    have run : exec .gridRead s = .next (gridRead s) := by
      simp only [exec, execGridRead, whenRunning_of_running h.1, asked_eq s h.2]
    rw [run]
    refine ⟨fun unset => by rw [gridRead_of_unset unset, reply_eq s .noTime h.2], fun s0 wall started => ⟨fun empty => ?_, fun some_ rowed => ?_⟩⟩
    · rw [gridRead_of_set wall started, gridRecords, if_pos (by rw [show s.sdr.ring = [] from empty]; rfl)]
      exact congrArg Host.Outcome.next (answer_eq s .ok [] h.2)
    · have nonempty : ¬ s.sdr.ring.isEmpty = true := by
        rw [List.isEmpty_iff]
        exact some_
      have count : (gridRecords s s0).length = v := by
        rw [gridRecords, if_neg nonempty, List.length_map, List.length_range]
        rfl
      rw [gridRead_of_set wall started, answerRecords_eq h]
      refine ⟨_, _, rfl, by rw [List.length_map, List.length_zipIdx, count], fun k hk => ?_, rfl⟩
      obtain ⟨x, shows⟩ := ring_getElem? (s := s) some_ k
      have record : (gridRecords s s0)[k]? = some (rowRecord s s0 k) := by
        rw [gridRecords, if_neg nonempty, List.getElem?_map, List.getElem?_range (show k < s.gwn.visible s.sdr.ring from hk),
          Option.map_some]
      refine ⟨rowRecord s s0 k, x, ?_, shows, ?_⟩
      · rw [List.getElem?_map, List.getElem?_zipIdx, record, count]
        have more : decide (k + 1 < v) = decide (k < v - 1) := decide_eq_decide.mpr (by omega)
        rw [more]
        simp [Request.code]
      · intro s1 shown from' to' contains
        have visible : visibleEvents (s.gds.eventsOf x.number) s0 s1 = shown := visibleEvents_eventsOf s.gds x.number s0 s1
        let onCursorRow := k == s.gwn.effectiveRow s.sdr.ring
        have cursorRow : onCursorRow = true ↔ k = min s.gwn.cursorRow (v - 1) := beq_iff_eq
        refine ⟨fun e => BitVec.ofNat 8 (bitMap (attributesOf s onCursorRow x s0 s1 e)), ?_, fun e => ?_⟩
        · rw [rowRecord_eq shows, show visibleEvents (s.gds.eventsOf x.number) s0 (s0 + 1800 * s.gwn.columns) = shown from visible,
            List.length_take]
          have mark : encFlag onCursorRow = [if k = min s.gwn.cursorRow (v - 1) then 1#8 else 0#8] := by
            rw [encFlag]
            simp only [cursorRow]
          have stored : encFlag (!s.gds.hasService x.number)
              = [if s.gds.services.any fun g => g.number == x.number then 0#8 else 1#8] := by
            rw [encFlag, Gds.hasService]
            cases s.gds.services.any fun g => g.number == x.number <;> rfl
          have truncated : encFlag (decide (12 < shown.length)) = [if 12 < shown.length then 1#8 else 0#8] := by
            rw [encFlag]
            simp only [decide_eq_true_eq]
          have spans : encList (encSpan s onCursorRow x s0 s1) (shown.take 12) = BitVec.ofNat 8 (min 12 shown.length)
              :: (shown.take 12).flatMap fun e => beBytes 2 e.id ++ [BitVec.ofNat 8 (from' e), BitVec.ofNat 8 (to' e - from' e),
                BitVec.ofNat 8 (bitMap (attributesOf s onCursorRow x s0 s1 e))] := by
            rw [encList, List.length_take]
            rfl
          rw [show (k == s.gwn.effectiveRow s.sdr.ring) = onCursorRow from rfl, mark, stored, truncated,
            show encList (encSpan s onCursorRow x s0 (s0 + 1800 * s.gwn.columns)) (shown.take 12) = _ from spans]
          simp only [List.append_assoc, List.cons_append, List.nil_append, encText, byteOfNat_eq]
          rfl
        · have bit (b : Nat) := getLsbD_bitMap (attributesOf s onCursorRow x s0 s1 e) (Nat.le_refl 8) b
          simp only [bit]
          exact attributes_iff wall cursorRow x s0 s1 e

end Sys2Proof.Machine
end

section
/-! DIRECTORY sections: the records that an entry leaves, and the section's fields at their offsets (R75, R76, R189). -/

namespace Sys2Proof.Machine

/-! ### One entry (R75, R76) -/

/-- The test of an entry, on its tier count and its record (R76). -/
theorem entryOk_iff (count : Nat) (r : Service) : entryOk count r = true ↔
    1 ≤ r.number ∧ r.number ≤ 9999 ∧ r.frequency ≠ 0
      ∧ r.mapStream ∉ [4064, 4065, 4066, 4067, 4068, 4080, 4081, 4095] ∧ count ≤ 4 ∧ r.tiers.Nodup
      ∧ ∀ tier ∈ r.tiers, 1 ≤ tier ∧ tier ≤ 4095 := by
  simp only [entryOk, Bool.and_eq_true, decide_eq_true_eq, bne_iff_ne, Bool.not_eq_true', List.contains_eq_mem,
    decide_eq_false_iff_not, List.all_eq_true, tierOk_iff, reservedStreams]
  constructor
  · rintro ⟨⟨⟨⟨⟨⟨least, most⟩, frequency⟩, stream⟩, counted⟩, tiers⟩, distinct⟩
    exact ⟨least, most, frequency, stream, counted, distinct, tiers⟩
  · rintro ⟨least, most, frequency, stream, counted, distinct, tiers⟩
    exact ⟨⟨⟨⟨⟨⟨least, most⟩, frequency⟩, stream⟩, counted⟩, tiers⟩, distinct⟩

/-- A record put in its place among others. -/
def putService (r : Service) (services : List Service) : List Service :=
  putOrdered (fun x => x.number == r.number) (fun x => decide (r.number < x.number)) r services

theorem putService_ordered (r : Service) {services : List Service} (ordered : services.Pairwise fun x y => x.number < y.number) :
    (putService r services).Pairwise fun x y => x.number < y.number := putOrdered_ordered (key := Service.number) rfl ordered

theorem mem_putService (r : Service) {services : List Service} (ordered : services.Pairwise fun x y => x.number < y.number)
    (x : Service) : x ∈ putService r services ↔ x = r ∨ (x ∈ services ∧ x.number ≠ r.number) := by
  induction services with
  | nil => simp [putService, putOrdered]
  | cons y ys ih =>
    obtain ⟨first, rest⟩ := List.pairwise_cons.mp ordered
    have later := ih rest
    rw [putService] at later
    rw [putService, putOrdered]
    split
    · rename_i same
      have same : y.number = r.number := by simpa using same
      have others : ∀ z ∈ ys, z.number ≠ r.number := fun z hz => by
        have above := first z hz
        omega
      simp only [List.mem_cons]
      refine or_congr_right ⟨fun hx => ⟨.inr hx, others x hx⟩, fun ⟨hx, other⟩ => hx.resolve_left fun is => other (is ▸ same)⟩
    rename_i other
    have other : y.number ≠ r.number := by simpa using other
    split
    · rename_i after
      have after : r.number < y.number := by simpa using after
      have others : ∀ z ∈ y :: ys, z.number ≠ r.number := List.forall_mem_cons.mpr ⟨other, fun z hz => by
        have above := first z hz
        omega⟩
      rw [List.mem_cons]
      exact or_congr_right ⟨fun hx => ⟨hx, others x hx⟩, And.left⟩
    · rw [List.mem_cons, later, List.mem_cons]
      constructor
      · rintro (rfl | rfl | ⟨hx, differs⟩)
        · exact .inr ⟨.inl rfl, other⟩
        · exact .inl rfl
        · exact .inr ⟨.inr hx, differs⟩
      · rintro (rfl | ⟨rfl | hx, differs⟩)
        · exact .inr (.inl rfl)
        · exact .inl rfl
        · exact .inr (.inr ⟨hx, differs⟩)

/-- What a lookup finds once a record has been put: the record under its number, and what it found before under the others. -/
theorem find_putService (r : Service) (services : List Service) (number : Nat) :
    (putService r services).find? (fun x => x.number == number)
      = if r.number = number then some r else services.find? fun x => x.number == number := by
  induction services with
  | nil => by_cases mine : r.number = number <;> simp [putService, putOrdered, mine]
  | cons y ys ih =>
    rw [putService] at ih
    rw [putService, putOrdered]
    split
    · rename_i same
      have same : y.number = r.number := by simpa using same
      by_cases mine : r.number = number <;> simp [mine, same]
    split
    · by_cases mine : r.number = number <;> simp [List.find?_cons, mine]
    · rename_i other _
      have other : y.number ≠ r.number := by simpa using other
      rw [List.find?_cons, ih, List.find?_cons]
      by_cases mine : r.number = number
      · have differs : (y.number == number) = false := by simpa [← mine] using other
        simp [mine, differs]
      · simp only [if_neg mine]

/-- The records and the count of dropped entries, as an entry that passes leaves them (R75). -/
def taken (e : Nat × Service) (a : List Service × Nat) : List Service × Nat :=
  if (a.1.find? fun r => r.number == e.2.number).isSome || decide (a.1.length < 256) then (putService e.2 a.1, a.2)
  else (a.1, satInc max32 a.2)

theorem takeEntry_of_passes {e : Nat × Service} (d : Sdr) (passes : entryOk e.1 e.2 = true) : takeEntry d e =
    { d with
      services := (taken e (d.services, d.entriesDropped)).1
      entriesDropped := (taken e (d.services, d.entriesDropped)).2 } := by
  rw [takeEntry, taken, passes]
  dsimp only
  rw [if_neg (by simp)]
  by_cases room : ((d.services.find? fun r => r.number == e.2.number).isSome || decide (d.services.length < 256)) = true
  · rw [if_pos room]
    exact if_pos room
  · rw [if_neg room]
    exact if_neg room

theorem takeEntry_of_fails {e : Nat × Service} (d : Sdr) (fails : entryOk e.1 e.2 = false) : takeEntry d e =
    { d with entriesRejected := satInc max32 d.entriesRejected } := by
  rw [takeEntry, fails]
  rfl

/-- The entries of a section that pass (R76). -/
def passing (entries : List (Nat × Service)) : List (Nat × Service) := entries.filter fun e => entryOk e.1 e.2

/-- All entries of a section: those that pass are taken in turn, and the others counted. -/
theorem foldl_takeEntry (entries : List (Nat × Service)) (d : Sdr) : entries.foldl takeEntry d =
    { d with
      services := ((passing entries).foldl (fun a e => taken e a) (d.services, d.entriesDropped)).1
      entriesDropped := ((passing entries).foldl (fun a e => taken e a) (d.services, d.entriesDropped)).2
      entriesRejected := (entries.length - (passing entries).length).repeat (satInc max32) d.entriesRejected } := by
  induction entries generalizing d with
  | nil => rfl
  | cons e rest ih =>
    have fewer : (passing rest).length ≤ rest.length := List.length_filter_le _ _
    rw [List.foldl_cons, ih]
    rcases passes : entryOk e.1 e.2 with _ | _
    · have same : passing (e :: rest) = passing rest := List.filter_cons_of_neg (by simp [passes])
      have more : (e :: rest).length - (passing rest).length = rest.length - (passing rest).length + 1 := by
        rw [List.length_cons]
        omega
      have count (n x : Nat) : (n + 1).repeat (satInc max32) x = n.repeat (satInc max32) (satInc max32 x) := by
        induction n with
        | zero => rfl
        | succ n step => rw [Nat.repeat, step]; rfl
      rw [takeEntry_of_fails d passes, same, more, count]
    · have one : passing (e :: rest) = e :: passing rest := List.filter_cons_of_pos (by simp [passes])
      rw [takeEntry_of_passes d passes, one, List.foldl_cons, List.length_cons, List.length_cons, Nat.add_sub_add_right]

/-! ### Several entries -/

/-- One entry taken into an ordered directory (R75). -/
theorem taken_spec (e : Nat × Service) {a : List Service × Nat} (ordered : a.1.Pairwise fun x y => x.number < y.number) :
    ((∃ r ∈ a.1, r.number = e.2.number) →
      (taken e a).2 = a.2 ∧ ∀ r, r ∈ (taken e a).1 ↔ r = e.2 ∨ (r ∈ a.1 ∧ r.number ≠ e.2.number))
    ∧ ((∀ r ∈ a.1, r.number ≠ e.2.number) →
      (a.1.length < 256 → (taken e a).2 = a.2 ∧ ∀ r, r ∈ (taken e a).1 ↔ r = e.2 ∨ r ∈ a.1)
      ∧ (256 ≤ a.1.length → taken e a = (a.1, satInc max32 a.2))) := by
  refine ⟨fun ⟨r, hr, same⟩ => ?_, fun absent => ⟨fun room => ?_, fun full => ?_⟩⟩
  · have held : (a.1.find? fun r => r.number == e.2.number).isSome = true := by
      rw [List.find?_isSome]
      exact ⟨r, hr, by simpa using same⟩
    rw [taken, if_pos (by rw [held]; rfl)]
    exact ⟨rfl, mem_putService e.2 ordered⟩
  · rw [taken, if_pos (by simp [room])]
    refine ⟨rfl, fun r => (mem_putService e.2 ordered r).trans (or_congr_right ⟨And.left, fun hr => ⟨hr, absent r hr⟩⟩)⟩
  · have none_ : (a.1.find? fun r => r.number == e.2.number) = none := by
      rw [List.find?_eq_none]
      exact fun r hr => by simpa using absent r hr
    rw [taken, if_neg (by simp [none_]; omega)]

theorem taken_ordered (e : Nat × Service) {a : List Service × Nat} (ordered : a.1.Pairwise fun x y => x.number < y.number) :
    (taken e a).1.Pairwise fun x y => x.number < y.number := by
  rw [taken]
  split
  · exact putService_ordered e.2 ordered
  · exact ordered

/-- The directory after the first `k` entries that pass. -/
def takenUpTo (passes : List (Nat × Service)) (a : List Service × Nat) (k : Nat) : List Service × Nat :=
  (passes.take k).foldl (fun a e => taken e a) a

theorem takenUpTo_succ {passes : List (Nat × Service)} {a : List Service × Nat} {k : Nat} {e : Nat × Service}
    (here : passes[k]? = some e) : takenUpTo passes a (k + 1) = taken e (takenUpTo passes a k) := by
  rw [takenUpTo, takenUpTo, List.take_add_one, here, List.foldl_append]
  rfl

theorem takenUpTo_ordered (passes : List (Nat × Service)) {a : List Service × Nat}
    (ordered : a.1.Pairwise fun x y => x.number < y.number) (k : Nat) :
    (takenUpTo passes a k).1.Pairwise fun x y => x.number < y.number :=
  List.foldlRecOn (motive := fun a : List Service × Nat => a.1.Pairwise fun x y => x.number < y.number) _ _ ordered
    fun _ held e _ => taken_ordered e held

/-- Entries for which the directory has room: none is dropped, and the last of each number stands (R75). -/
theorem foldl_taken_of_room (passes : List (Nat × Service)) (a : List Service × Nat) (room : a.1.length + passes.length ≤ 256) :
    (passes.foldl (fun a e => taken e a) a).2 = a.2
      ∧ ∀ number, (passes.foldl (fun a e => taken e a) a).1.find? (fun r => r.number == number)
          = (((passes.filter fun e => e.2.number == number).getLast?).map Prod.snd).or (a.1.find? fun r => r.number == number) := by
  induction passes generalizing a with
  | nil => exact ⟨rfl, fun number => by simp⟩
  | cons e rest ih =>
    rw [List.length_cons] at room
    have put : taken e a = (putService e.2 a.1, a.2) := if_pos (by simp; omega)
    have longer : (putService e.2 a.1).length ≤ a.1.length + 1 := length_putOrdered_le _ _
    obtain ⟨dropped, found⟩ := ih (taken e a) (by rw [put]; dsimp only; omega)
    refine ⟨dropped.trans (by rw [put]), fun number => ?_⟩
    rw [List.foldl_cons, found, put, find_putService]
    by_cases mine : e.2.number = number
    · rw [if_pos mine, List.filter_cons_of_pos (by simpa using mine), List.getLast?_cons]
      cases (rest.filter fun e => e.2.number == number).getLast? <;> simp
    · rw [if_neg mine, List.filter_cons_of_neg (by simpa using mine)]

/-! ### The section's fields (R189) -/

theorem fieldAt_cut (bytes : List Byte) {first length offset n : Nat} (within : offset + n ≤ length) :
    fieldAt ((bytes.drop first).take length) offset n = fieldAt bytes (first + offset) n := by
  have cut := fieldAt_take_drop (bytes := bytes.drop first) (stop := length) (start := 0) (offset := offset) (n := n) (by omega)
  rw [List.drop_zero, Nat.zero_add] at cut
  rw [cut, fieldAt_drop]

theorem byteAt_cut (bytes : List Byte) {first length offset : Nat} (within : offset < length) :
    byteAt ((bytes.drop first).take length) offset = byteAt bytes (first + offset) := by
  rw [byteAt, byteAt, List.getD_eq_getElem?_getD, List.getD_eq_getElem?_getD, List.getElem?_take_of_lt within, List.getElem?_drop]

/-- An entry of 30 bytes, read at its offsets in the body (R189). -/
theorem directoryEntry_cut (segment : Nat) (body : List Byte) (first : Nat) :
    directoryEntry segment ((body.drop first).take 30) = (fieldAt body (first + 9) 1,
      { number := fieldAt body first 2, frequency := fieldAt body (first + 2) 4
        modulation := fieldAt body (first + 6) 1 / 64, hidden := (byteAt body (first + 6)).getLsbD 5
        mapStream := fieldAt body (first + 7) 2 % 4096
        tiers := (List.range (min 4 (fieldAt body (first + 9) 1))).map fun j => fieldAt body (first + 10 + 2 * j) 2
        name := ((body.drop (first + 18)).take 12).takeWhile (· != 0#8), segment }) := by
  have tiers : ((List.range (min (fieldAt body (first + 9) 1) 4)).map fun k => fieldAt ((body.drop first).take 30) (10 + 2 * k) 2)
      = (List.range (min 4 (fieldAt body (first + 9) 1))).map fun j => fieldAt body (first + 10 + 2 * j) 2 := by
    rw [Nat.min_comm]
    refine List.map_congr_left fun k hk => ?_
    have below := List.mem_range.mp hk
    rw [fieldAt_cut body (by omega), ← Nat.add_assoc]
  have name : ((body.drop first).take 30).drop 18 = (body.drop (first + 18)).take 12 := by
    rw [List.drop_take, List.drop_drop]
  simp only [directoryEntry, streamField, toNat_byteAt]
  rw [fieldAt_cut body (by omega), fieldAt_cut body (by omega), fieldAt_cut body (by omega), fieldAt_cut body (by omega),
    byteAt_cut body (by omega), fieldAt_cut body (by omega), tiers, name, List.take_take]
  rfl

/-- Settles O37: the entries that pass are taken in turn, and each is read at its offset. -/
theorem directorySectionsReplaceTheRecordsOfTheirSegment : Obligations.DirectorySectionsReplaceTheRecordsOfTheirSegment := by
  refine ⟨fun segment body => ?_, fun s x rest running front versions => ?_⟩
  · intro count entry
    have counted : (byteAt body 0).toNat = count := toNat_byteAt body 0
    rw [directoryEntries]
    simp only [counted, directoryEntry_cut]
    have short : (decide (body.length < 1) || decide (count > 16) || decide (body.length < 1 + 30 * count)) = true ↔
        ¬ (count ≤ 16 ∧ 1 + 30 * count ≤ body.length) := by
      simp only [Bool.or_eq_true, decide_eq_true_eq]
      omega
    by_cases whole : count ≤ 16 ∧ 1 + 30 * count ≤ body.length
    · rw [if_pos whole, if_neg fun no => short.mp no whole]
    · rw [if_neg whole, if_pos (short.mpr whole)]
  · intro s0
    have run : exec .directorySection s = .next (applyDirectorySection x s0) := by
      refine (whenRunning_of_running running _).trans ?_
      rw [consume_cons (c := .directory) s applyDirectorySection front]
      rfl
    rw [run]
    refine ⟨fun refused => ?_, fun inside parsed repeated => ?_, fun entries inside parsed newer => ?_⟩
    · rw [applyDirectorySection]
      split
      · rename_i stored entries held parsed
        rcases refused with beyond | short
        · have bound := (List.getElem?_eq_some_iff.mp held).1
          have size : s0.sdr.versions.length = 16 := versions
          omega
        · rw [short] at parsed
          simp at parsed
      · rfl
    · obtain ⟨entries, parsed⟩ := Option.ne_none_iff_exists'.mp parsed
      rw [applyDirectorySection, show s0.sdr.versions[x.key]? = _ from repeated, parsed]
      dsimp only
      rw [if_pos rfl]
    · intro passes kept
      have passesIs : passes = passing entries := List.filter_congr fun e _ => by
        rw [Bool.eq_iff_iff, decide_eq_true_iff, entryOk_iff]
      obtain ⟨stored, held⟩ : ∃ stored, s.sdr.versions[x.key]? = some stored :=
        ⟨_, List.getElem?_eq_getElem (by omega)⟩
      have applied : applyDirectorySection x s0 = emit (.directoryChanged x.key x.version
          (passes.foldl (fun a e => taken e a) (kept, s.sdr.entriesDropped)).1.length) { s0 with sdr := { s.sdr with
            services := (passes.foldl (fun a e => taken e a) (kept, s.sdr.entriesDropped)).1
            entriesDropped := (passes.foldl (fun a e => taken e a) (kept, s.sdr.entriesDropped)).2
            entriesRejected := (entries.length - passes.length).repeat (satInc max32) s.sdr.entriesRejected
            versions := s.sdr.versions.set x.key (some x.version)
            applied := satInc max32 s.sdr.applied } } := by
        rw [applyDirectorySection, show s0.sdr.versions[x.key]? = _ from held, parsed]
        dsimp only
        rw [if_neg (by rintro rfl; exact newer held), foldl_takeEntry, passesIs]
        rfl
      have ok (h : s.DirectoryOk) := applyDirectorySection_ok (s := s0) x h
      rw [applied] at ok ⊢
      rw [emit_eq] at ok ⊢
      refine ⟨_, rfl, rfl, rfl, rfl, fun h => ⟨(ok h).1, takenUpTo passes (kept, s.sdr.entriesDropped), rfl, ?_, fun k e here => ?_⟩,
        fun room => foldl_taken_of_room passes (kept, s.sdr.entriesDropped) room, rfl, ?_, rfl⟩
      · rw [takenUpTo, List.take_length]
      · intro a a'
        have ordered := takenUpTo_ordered passes (a := (kept, s.sdr.entriesDropped)) (h.2.1.sublist List.filter_sublist)
        obtain ⟨replaced, inserted⟩ := taken_spec e (ordered k)
        rw [show a' = taken e a from takenUpTo_succ here]
        exact ⟨taken_ordered e (ordered k), replaced, inserted⟩
      · rw [emit_eq]

end Sys2Proof.Machine
end

section
/-! Channel changes without a splice: how they start, tune, end and resume (R81 to R86, R91 to R94, R97, R98). -/

namespace Sys2Proof.Machine

/-! ### Releasing, dropping and crossing -/

/-- A table without its ARMED routes (R15, R91). -/
def withoutArmed (t : List (Option Route)) : List (Option Route) := t.map fun entry => entry.filter fun r => r.state != .armed

theorem free_isArmed (t : RouteTable) : RouteTable.free t Route.isArmed = withoutArmed t := rfl

theorem free_liveChange (s : State) : RouteTable.free s.routes Route.liveChange = s.routesDropped := rfl

theorem releaseChange_eq (s : State) : releaseChange s =
    { s with routes := withoutArmed s.routes, dsc := { s.dsc with arming := none } } := rfl

/-- The descrambler's ACTIVE record freed (R100). -/
def Dsc.freed (d : Dsc) : Dsc :=
  { d with
    active := none
    noKey := if d.active.isSome then false else d.noKey
    notEntitled := if d.active.isSome then false else d.notEntitled }

theorem dropPresented_eq (cause : ContextCause) (s : State) : dropPresented cause s =
    { s with
      routes := s.routesDropped
      dsc := s.dsc.freed
      cce := { s.cce with presented := none, tuned := none }
      inFlight := s.inFlight ++ s.postsFreed ++ contextHandovers cause none none } := by
  rw [dropPresented, freeActive_eq]
  rfl

theorem startCross_eq (c : Change) (s : State) : startCross c s = s.crossed c := by
  rw [startCross, dropPresented_eq]
  rfl

/-- The change record that TUNE makes for a target, under the number by which it was found (R82). -/
def changeTo (service : Nat) (target : Service) (audio : Option Lang) (now : LocalTime) : Change :=
  { service, frequency := target.frequency, modulation := target.modulation, mapStream := target.mapStream, audio, phaseStart := now,
    tuningTarget := target.frequency, readyMark := false, lockMark := false, map := none, parity := none }

theorem changeStart_of_found {d : Sdr} {service : Nat} {target : Service} (found : d.find service = some target)
    (audio : Option Lang) (now : LocalTime) : Change.start target audio now = changeTo service target audio now := by
  obtain rfl : target.number = service := by simpa using List.find?_some found
  rfl

/-- A change started where the engine is not in TUNING (R82). -/
theorem startChange_of_settled {s : State} {service : Nat} {target : Service} (found : s.sdr.find service = some target)
    (audio : Option Lang) (settled : s.cce.engine ≠ .tuning) : startChange target audio s =
      if s.cce.tuned = some target.frequency then enterWaitMap (changeTo service target audio s.tmb.localTime) s
      else s.crossed (changeTo service target audio s.tmb.localTime) := by
  rw [startChange, changeStart_of_found found]
  split
  · rename_i tuning _
    exact absurd tuning settled
  · rw [startCross_eq]

/-- A change started while another one is tuning (R82). -/
theorem startChange_of_tuning {s : State} {service : Nat} {target : Service} {old : Change} (found : s.sdr.find service = some target)
    (audio : Option Lang) (tuning : s.cce.engine = .tuning) (running : s.cce.change = some old) : startChange target audio s =
      if target.frequency = old.tuningTarget then
        enter .tuning { changeTo service target audio s.tmb.localTime with
          phaseStart := old.phaseStart, tuningTarget := old.tuningTarget, readyMark := old.readyMark, lockMark := old.lockMark } s
      else s.crossed (changeTo service target audio s.tmb.localTime) := by
  rw [startChange, tuning, running, changeStart_of_found found]
  dsimp only
  rw [startCross_eq]

/-! ### TUNE (R81, R92, R93) -/

theorem exec_tune {s : State} {tag : Byte} {n service : Nat} {audio : Lang} (asking : s.asking tag (.tune service audio) n) :
    exec .tune s = .next (tune service (langOrNone audio) s) := by
  simp only [exec, execTune, whenRunning_of_running asking.1, asked_eq s asking.2]

/-- The state in which an accepted TUNE starts its change: answered, and the running change released (R92). -/
def State.accepting (s : State) (tag : Byte) (request : Request) : State :=
  { s.replied tag request .accepted [] with
    routes := if s.cce.engine = .idle then s.routes else withoutArmed s.routes
    dsc := { s.dsc with arming := if s.cce.engine = .idle then s.dsc.arming else none } }

theorem tune_of_found {s : State} {tag : Byte} {n service : Nat} {audio : Lang} (asking : s.asking tag (.tune service audio) n)
    (low : 1 ≤ service) (high : service ≤ 9999) (awake : s.cce.standby = false) {target : Service}
    (found : s.sdr.find service = some target) : tune service (langOrNone audio) s =
      if s.cce.engine = .waitSplice then
        { s.replied tag (.tune service audio) .accepted [] with cce := { s.cce with
          pendingTune := some (service, langOrNone audio)
          pendingReplaced := if s.cce.pendingTune.isSome then satInc max32 s.cce.pendingReplaced else s.cce.pendingReplaced } }
      else startChange target (langOrNone audio) (s.accepting tag (.tune service audio)) := by
  rw [tune, if_neg (by simp; omega), if_neg (by simp [awake]), found, reply_eq s .accepted asking.2]
  dsimp only
  rw [releaseChange_eq]
  rcases engine : s.cce.engine with _ | _ | _ | _ | _
  · rw [show (s.replied tag (.tune service audio) .accepted []).cce.engine = .idle from engine, State.accepting, engine]
    rfl
  · rw [show (s.replied tag (.tune service audio) .accepted []).cce.engine = .tuning from engine, State.accepting, engine]
    rfl
  · rw [show (s.replied tag (.tune service audio) .accepted []).cce.engine = .waitMap from engine, State.accepting, engine]
    rfl
  · rw [show (s.replied tag (.tune service audio) .accepted []).cce.engine = .waitKey from engine, State.accepting, engine]
    rfl
  · rw [show (s.replied tag (.tune service audio) .accepted []).cce.engine = .waitSplice from engine]
    rfl

/-- Settles O38: an accepted TUNE starts its change on the released part, by the carrier that the engine stands on. -/
theorem tuneStartsAChangeByTheCarrierOfItsTarget : Obligations.TuneStartsAChangeByTheCarrierOfItsTarget := by
  intro s tag n service audio h r preference
  rw [exec_tune h]
  refine ⟨fun out => ?_, fun low high => ⟨fun asleep => ?_, fun awake unknown => ?_, fun target awake found => ?_⟩⟩
  · rw [tune, if_pos (by simp; omega), reply_eq s .badParam h.2]
  · rw [tune, if_neg (by simp; omega), if_pos asleep, reply_eq s .standby h.2]
  · rw [tune, if_neg (by simp; omega), if_neg (by simp [awake]), unknown]
    exact congrArg Host.Outcome.next (reply_eq s .noService h.2)
  · intro released arming c
    rw [tune_of_found h low high awake found]
    have foundNow : (s.accepting tag (.tune service audio)).sdr.find service = some target := found
    refine ⟨fun splicing => ?_, fun notSplicing notTuning same => ?_, fun old tuning running same => ?_, fun crossing => ?_⟩
    · rw [if_pos splicing]
      rfl
    · rw [if_neg notSplicing, startChange_of_settled foundNow _ notTuning]
      exact congrArg Host.Outcome.next (if_pos same)
    · rw [if_neg (by simp [tuning]), startChange_of_tuning foundNow _ tuning running, if_pos same, ← same]
      simp only [enter, State.accepting, ← tuning]
      rfl
    · rcases crossing with ⟨notSplicing, notTuning, other⟩ | ⟨tuning, old, running, other⟩
      · rw [if_neg notSplicing, startChange_of_settled foundNow _ notTuning]
        exact congrArg Host.Outcome.next (if_neg other)
      · rw [if_neg (by simp [tuning]), startChange_of_tuning foundNow _ tuning running, if_neg other]
        rfl

/-! ### The tuning handshake (R83, R86) -/

theorem testHandshake_of_tuning {s : State} {c : Change} (tuning : s.cce.engine = .tuning) (running : s.cce.change = some c) :
    testHandshake s = if c.readyMark && c.lockMark then enterWaitMap c s else s := by
  rw [testHandshake, tuning, running]

theorem tuningTo_of_target {s : State} {c : Change} (tuning : s.cce.engine = .tuning) (running : s.cce.change = some c) :
    tuningTo c.tuningTarget s = some c := by
  rw [tuningTo, if_pos tuning, running]
  simp [Option.filter]

theorem tuningTo_of_other {s : State} {f : Nat} (other : s.cce.engine ≠ .tuning ∨ ∀ c, s.cce.change = some c → c.tuningTarget ≠ f) :
    tuningTo f s = none := by
  rw [tuningTo]
  split
  · rename_i tuning
    rw [Option.filter_eq_none_iff]
    intro c running
    simpa using other.resolve_left (fun no => no tuning) c running
  · rfl

theorem lockStands_iff (s : State) : s.lockStands = true ↔ s.cin.a.sync = .locked ∧ Handover.portAHunt ∉ s.inFlight := by
  rw [State.lockStands, Bool.and_eq_true, beq_iff_eq, Bool.not_eq_true', ← Bool.not_eq_true, List.contains_iff_mem]

/-- Settles O39: TUNER_READY and Port A's reports set their marks, and the handshake is tested on both. -/
theorem tuningEndsWhenTunerAndPortAAreBothReady : Obligations.TuningEndsWhenTunerAndPortAAreBothReady := by
  refine ⟨fun s tag n f h => ?_, fun s h ho => ?_⟩
  · intro r
    have run : exec .tunerReady s = .next (tunerReady f s) := by
      simp only [exec, execTunerReady, whenRunning_of_running h.1, asked_eq s h.2]
    rw [run]
    refine ⟨fun c tuning running same => ?_, fun other => ?_⟩
    · subst same
      intro s1
      have ready : tunerReady c.tuningTarget s = if c.lockMark && s.lockStands
          then enterWaitMap { c with readyMark := true, lockMark := true } { r .ok [] with cce := { s.cce with
            engine := .tuning, tuned := some c.tuningTarget
            change := some { c with readyMark := true, lockMark := true } } }
          else { r .ok [] with cce := { s.cce with
            engine := .tuning, tuned := some c.tuningTarget
            change := some { c with readyMark := true, lockMark := false } } } := by
        rw [tunerReady, tuningTo_of_target tuning running]
        dsimp only
        rw [reply_eq s .ok h.2]
        refine (testHandshake_of_tuning rfl rfl).trans ?_
        cases c.lockMark && s.lockStands <;> rfl
      rw [ready]
      refine ⟨fun unlocked => ?_, fun locked sync standing => ?_, fun locked lost => ?_⟩
      · rw [if_neg (by simp [unlocked]), ← tuning]
        have same : ({ c with readyMark := true, lockMark := false } : Change) = { c with readyMark := true } := by rw [← unlocked]
        rw [same]
      · rw [if_pos (by rw [locked, (lockStands_iff s).mpr ⟨sync, standing⟩]; rfl)]
        have same : ({ c with readyMark := true, lockMark := true } : Change) = { c with readyMark := true } := by rw [← locked]
        rw [same]
        rfl
      · rw [if_neg (by
          rw [locked, Bool.true_and, lockStands_iff]
          rintro ⟨sync, standing⟩
          exact lost.elim (fun no => no sync) standing), ← tuning]
    · rw [tunerReady, tuningTo_of_other other]
      exact congrArg Host.Outcome.next (reply_eq s .notWaiting h.2)
  · intro s0
    refine ⟨?_, ?_, ?_, ?_⟩
    · rintro rfl c tuning running
      have front : s.nextIn .cinToCce = some .portALock := offered_next ho
      have run : exec .portALockReport s = .next (testHandshake (enter .tuning { c with lockMark := true } s0)) := by
        simp only [exec, execPortALockReport, whenRunning_of_running ho.1, front]
        rw [show (s.taking .cinToCce).cce.engine = .tuning from tuning, show (s.taking .cinToCce).cce.change = some c from running]
        rfl
      rw [run, testHandshake_of_tuning rfl rfl]
      refine ⟨fun unready => ?_, fun ready => ?_⟩
      · rw [if_neg (by simp [unready]), enter, ← tuning]
      · rw [if_pos (by simp [ready])]
        rfl
    · rintro rfl elsewhere
      have front : s.nextIn .cinToCce = some .portALock := offered_next ho
      simp only [exec, execPortALockReport, whenRunning_of_running ho.1, front]
      split
      · rename_i tuning _
        exact absurd tuning elsewhere
      · rfl
    · rintro rfl c tuning running
      have front : s.nextIn .cinToCce = some .portAHunt := offered_next ho
      simp only [exec, execPortAHuntReport, whenRunning_of_running ho.1, front]
      rw [show (s.taking .cinToCce).cce.engine = .tuning from tuning, show (s.taking .cinToCce).cce.change = some c from running]
      dsimp only
      rw [enter, ← tuning]
      rfl
    · rintro rfl elsewhere
      have front : s.nextIn .cinToCce = some .portAHunt := offered_next ho
      simp only [exec, execPortAHuntReport, whenRunning_of_running ho.1, front]
      split
      · rename_i tuning _
        exact absurd tuning elsewhere
      · rfl

/-! ### Endings without a splice (R84, R86, R91, R94) -/

/-- A change ended: the release, CHANGE_DONE and IDLE, field by field (R91). -/
theorem changeEnded_eq (s : State) (service : Nat) (reason : DoneReason) : s.changeEnded service reason =
    { s with
      routes := withoutArmed s.routes
      dsc := { s.dsc with arming := none }
      cce := { s.cce with engine := .idle, change := none }
      rpq := (emit (.changeDone service reason) s).rpq } := by
  simp only [State.changeEnded, emit_eq]
  rfl

theorem endChange_eq {s : State} {c : Change} (reason : DoneReason) (running : s.cce.change = some c)
    (unasked : s.cce.pendingTune = none) : endChange reason s = s.changeEnded c.service reason := by
  rw [endChange, running]
  dsimp only
  rw [enterIdle, show (emit (.changeDone c.service reason) (releaseChange s)).cce.pendingTune = none by simp [releaseChange_eq, unasked]]
  simp only [emit_eq, releaseChange_eq, State.changeEnded, unasked]
  rfl

theorem phaseOver_iff {s : State} {c : Change} (e : Engine) (limit : Nat) (at_ : s.cce.engine = e) (running : s.cce.change = some c) :
    phaseOver e limit s = true ↔ limit ≤ (s.tmb.localTime - c.phaseStart).toNat := by
  rw [phaseOver, at_, running, beq_self_eq_true, Bool.true_and, Option.any_some]
  exact decide_eq_true_iff

/-- Settles O40: every ending is the same release, with its own reason. -/
theorem changesFailTimeOutOrAreCancelled : Obligations.ChangesFailTimeOutOrAreCancelled := by
  intro s running unasked
  refine ⟨fun tag n f c h tuning change same => ?_, fun tag n f h other => ?_, fun c tuning change => ?_, fun c waiting change => ?_,
    fun tag n h => ?_⟩
  · subst same
    simp only [exec, execTunerFail, whenRunning_of_running h.1, asked_eq s h.2]
    rw [tunerFail, tuningTo_of_target tuning change]
    dsimp only
    rw [reply_eq s .ok h.2, failTuning]
    exact congrArg Host.Outcome.next (endChange_eq .tuner change unasked)
  · simp only [exec, execTunerFail, whenRunning_of_running h.1, asked_eq s h.2]
    rw [tunerFail, tuningTo_of_other other]
    exact congrArg Host.Outcome.next (reply_eq s .notWaiting h.2)
  · simp only [exec, execTuneTimeout, whenRunning_of_running running]
    have elapsed := phaseOver_iff .tuning 1500 tuning change
    refine ⟨fun late => ?_, fun early => ?_⟩
    · rw [if_pos (elapsed.mpr late), failTuning]
      exact congrArg Host.Outcome.next (endChange_eq .tuneTimeout change unasked)
    · rw [if_neg (fun no => absurd (elapsed.mp no) (Nat.not_le.mpr early))]
  · simp only [exec, execNoMapTimeout, whenRunning_of_running running]
    have elapsed := phaseOver_iff .waitMap 800 waiting change
    refine ⟨fun late => ?_, fun early => ?_⟩
    · rw [if_pos (elapsed.mpr late), endChange_eq .noMap change unasked]
    · rw [if_neg (fun no => absurd (elapsed.mp no) (Nat.not_le.mpr early))]
  · simp only [exec, execCancel, whenRunning_of_running h.1, asked_eq s h.2]
    have ended {c : Change} (change : s.cce.change = some c) :
        endChange .cancelled (reply .ok s) = (s.replied tag .cancel .ok []).changeEnded c.service .cancelled := by
      rw [reply_eq s .ok h.2]
      exact endChange_eq .cancelled change unasked
    refine ⟨fun idle => ?_, fun splicing => ?_, fun c at_ change => ?_⟩
    · rw [cancel, idle]
      exact congrArg Host.Outcome.next (reply_eq s .notWaiting h.2)
    · rw [cancel, splicing]
      exact congrArg Host.Outcome.next (reply_eq s .tooLate h.2)
    · rw [← ended change, cancel]
      rcases at_ with at_ | at_ | at_ <;> rw [at_]

/-! ### STANDBY and WAKE (R97, R98) -/

/-- Settles O44: STANDBY ends the change and then drops what is presented, and WAKE starts a change from IDLE. -/
theorem standbyDropsThePresentationAndWakeResumesIt : Obligations.StandbyDropsThePresentationAndWakeResumesIt := by
  intro s tag n
  refine ⟨fun h => ?_, fun resume h => ?_⟩
  · intro r
    have run : exec .standby s = .next (enterStandby s) := by
      simp only [exec, execStandby, whenRunning_of_running h.1, asked_eq s h.2]
    rw [run, enterStandby, reply_eq s .ok h.2]
    refine ⟨fun asleep => by rw [if_pos asleep], fun awake => ⟨_, rfl, ?_⟩⟩
    rw [if_neg (by simp [awake])]
    dsimp only
    rcases change : s.cce.change with _ | c
    · have calm : endChange .cancelled { s.replied tag .standby .ok [] with cce := { s.cce with pendingTune := none } }
          = { s.replied tag .standby .ok [] with cce := { s.cce with pendingTune := none } } := by
        rw [endChange, show State.cce _ = _ from rfl]
        dsimp only
        rw [change]
      rw [show (s.replied tag .standby .ok []).cce = s.cce from rfl, calm, dropPresented_eq]
      exact ⟨by simp, fun _ => ⟨rfl, rfl, rfl, rfl⟩, by rw [← change], rfl, rfl, rfl, rfl⟩
    · rw [show (s.replied tag .standby .ok []).cce = s.cce from rfl,
        endChange_eq (s := { s.replied tag .standby .ok [] with cce := { s.cce with pendingTune := none } }) .cancelled change rfl,
        changeEnded_eq, dropPresented_eq]
      refine ⟨fun c' same => ?_, fun no => by simp at no, rfl, rfl, rfl, rfl, rfl⟩
      obtain rfl := Option.some.inj same
      refine ⟨by simp only [emit_eq]; rfl, rfl, rfl, ?_⟩
      refine (List.map_map ..).trans (List.map_congr_left fun entry _ => ?_)
      rcases entry with _ | x
      · rfl
      · rw [Function.comp_apply, Option.filter_some]
        cases armed : x.state != .armed <;> simp [Option.filter_some, armed]
  · intro r awake
    have run : exec .wake s = .next (wake resume s) := by
      simp only [exec, execWake, whenRunning_of_running h.1, asked_eq s h.2]
    rw [run, wake]
    refine ⟨fun far => ?_, fun near up => ?_, fun off asleep => ?_, fun on asleep unknown => ?_,
      fun number target on asleep idle untuned last found => ?_⟩
    · rw [if_pos far, reply_eq s .badParam h.2]
    · rw [if_neg (by omega), if_pos (by simp [up]), reply_eq s .notWaiting h.2]
    · rw [if_neg (by omega), if_neg (by simp [asleep]), if_pos off, reply_eq { s with cce := awake } .ok h.2]
      rfl
    · rw [if_neg (by omega), if_neg (by simp [asleep]), if_neg (by omega)]
      have none_ : s.cce.lastService.bind s.sdr.find = none := by
        rw [Option.bind_eq_none_iff]
        exact unknown
      dsimp only
      rw [show Option.bind _ _ = none from none_]
      exact congrArg Host.Outcome.next (reply_eq { s with cce := awake } .noService h.2)
    · rw [if_neg (by omega), if_neg (by simp [asleep]), if_neg (by omega)]
      have known : s.cce.lastService.bind s.sdr.find = some target := by rw [last, Option.bind_some, found]
      dsimp only
      rw [show Option.bind _ _ = some target from known]
      dsimp only
      rw [reply_eq { s with cce := awake } .accepted h.2, 
        startChange_of_settled (s := State.replied { s with cce := awake } tag (.wake resume) .accepted []) (service := number) found
          none (fun tuning => by simp [show s.cce.engine = .tuning from tuning] at idle)]
      exact congrArg Host.Outcome.next (if_neg fun same => by simp [show s.cce.tuned = _ from same] at untuned)

end Sys2Proof.Machine
end

section
/-! The splice, and the ways into it (R88 to R90, R93, R101). -/

namespace Sys2Proof.Machine

/-! ### The displaced host routes (R15) -/

/-- A host's route that stands under a route of owner CHANGE in a state (R15). -/
def isHostUnder (state : RouteState) (table : List (Option Route)) (h : Route) : Bool :=
  h.owner == .host && table.any fun entry => entry.any fun r =>
    r.owner == .change && r.state == state && r.port == h.port && r.stream == h.stream

theorem hostsUnder_eq (state : RouteState) (table : List (Option Route)) :
    hostsUnder state table = (table.filterMap id).filter (isHostUnder state table) := rfl

theorem isHostUnder_iff (state : RouteState) (table : List (Option Route)) (h : Route) : isHostUnder state table h = true ↔
    h.owner = .host ∧ ∃ r, some r ∈ table ∧ r.owner = .change ∧ r.state = state ∧ r.port = h.port ∧ r.stream = h.stream := by
  simp only [isHostUnder, Bool.and_eq_true, beq_iff_eq, List.any_eq_true, Option.any_eq_true, and_assoc]
  refine and_congr_right fun _ => ⟨?_, ?_⟩
  · rintro ⟨_, listed, r, rfl, rest⟩
    exact ⟨r, listed, rest⟩
  · rintro ⟨r, listed, rest⟩
    exact ⟨_, listed, r, rfl, rest⟩

theorem mem_hostsUnder (state : RouteState) (table : List (Option Route)) (h : Route) :
    h ∈ hostsUnder state table ↔ some h ∈ table ∧ isHostUnder state table h = true := by
  rw [hostsUnder_eq, List.mem_filter, List.mem_filterMap]
  simp

theorem displaced_eq (table : RouteTable) : RouteTable.displaced table = hostsUnder .live table := by
  rw [hostsUnder_eq, RouteTable.displaced]
  refine List.filter_congr fun h _ => ?_
  rw [Bool.eq_iff_iff, isHostUnder_iff]
  simp only [Bool.and_eq_true, beq_iff_eq, List.any_eq_true, List.mem_filter, List.mem_filterMap, id_eq, exists_eq_right,
    Route.liveChange]
  refine and_congr_right fun _ => exists_congr fun r => ?_
  constructor
  · rintro ⟨⟨listed, state, owner⟩, port, stream⟩
    exact ⟨listed, owner, state, port, stream⟩
  · rintro ⟨listed, owner, state, port, stream⟩
    exact ⟨⟨listed, state, owner⟩, port, stream⟩

/-- A host's route is under a LIVE route after the conversion exactly where it was under an ARMED one before it (R15). -/
theorem isHostUnder_convert (table : RouteTable) (h : Route) :
    isHostUnder .live (RouteTable.convert table) h = isHostUnder .armed table h := by
  rw [Bool.eq_iff_iff, isHostUnder_iff, isHostUnder_iff]
  refine and_congr_right fun _ => ?_
  simp only [RouteTable.convert, RouteTable.mapRoutes, RouteTable.free, List.mem_map]
  constructor
  · rintro ⟨_, ⟨entry, ⟨before, listed, rfl⟩, converted⟩, owner, state, port, stream⟩
    rcases before with _ | r
    · simp at converted
    rw [Option.filter_some] at converted
    split at converted
    · rename_i stays
      obtain rfl := Option.some.inj converted
      rw [Route.convert] at owner state port stream
      split at state
      · rename_i armed
        simp only [armed, if_true] at owner port stream
        exact ⟨r, listed, owner, armed, port, stream⟩
      · rename_i live
        simp only [live, if_false] at owner
        simp [Route.liveChange, state, owner] at stays
    · simp at converted
  · rintro ⟨r, listed, owner, state, port, stream⟩
    have stays : (!r.liveChange) = true := by simp [Route.liveChange, state]
    refine ⟨r.convert, ⟨some r, ⟨some r, listed, by simp [Option.filter_some, stays]⟩, rfl⟩, ?_⟩
    simp [Route.convert, state, owner, port, stream]

/-- A conversion keeps what makes a route a host's under another one. -/
theorem isHostUnder_of_convert (state : RouteState) (table : List (Option Route)) (h : Route) :
    isHostUnder state table h.convert = isHostUnder state table h := by
  rw [Route.convert]
  split <;> rfl

/-- The events of the host routes that the splice displaces are those of the host routes under an ARMED route. -/
theorem displaced_convert (table : RouteTable) (f : Route → Event) (same : ∀ r : Route, f r.convert = f r) :
    (RouteTable.displaced (RouteTable.convert table)).map f = (hostsUnder .armed table).map f := by
  rw [displaced_eq, hostsUnder_eq, hostsUnder_eq, show isHostUnder .live (RouteTable.convert table) = isHostUnder .armed table from
    funext (isHostUnder_convert table)]
  generalize test : isHostUnder .armed table = under
  have alike (r : Route) : under r.convert = under r := by rw [← test, isHostUnder_of_convert]
  have hosts (r : Route) (yes : under r = true) : r.owner = .host := by
    rw [← test, isHostUnder_iff] at yes
    exact yes.1
  rw [RouteTable.convert, RouteTable.mapRoutes, RouteTable.free, List.map_map]
  clear test
  induction table with
  | nil => rfl
  | cons entry rest ih =>
    rcases entry with _ | r
    · exact ih
    · by_cases dropped : r.liveChange = true
      · have owner : r.owner = .change := by
          simp only [Route.liveChange, Bool.and_eq_true, beq_iff_eq] at dropped
          exact dropped.2
        have out : ¬ under r = true := fun yes => by simp [hosts r yes] at owner
        simpa [Option.filter_some, dropped, List.filter_cons, out] using ih
      · by_cases yes : under r = true
        · simpa [Option.filter_some, dropped, List.filter_cons, alike, yes, same] using ih
        · simpa [Option.filter_some, dropped, List.filter_cons, alike, yes] using ih

/-! ### The splice (R90, R101) -/

/-- The table once the change's routes are LIVE and the displaced host routes freed (R15). -/
def State.splicedRoutes (s : State) : RouteTable :=
  RouteTable.free (RouteTable.convert s.routes) fun r => (RouteTable.displaced (RouteTable.convert s.routes)).contains r

/-- The key records after the swap, both sources as the new ACTIVE record has them (R101). -/
def Dsc.swapped (d : Dsc) (parity : Option Slot) : Dsc :=
  { d with
    active := d.arming.map fun r => { r with live := parity.orElse fun _ => r.live }
    arming := none
    noKey := d.arming.any fun r => parity.any fun k => (r.slot k).isNone
    notEntitled := d.arming.any fun r => r.verdict == .notEntitled }

/-- The part after a splice, no TUNE waiting (R90). -/
def State.splicedTo (s : State) (c : Change) (m : ProgMap) (reason : DoneReason) : State :=
  { s with
    routes := s.splicedRoutes
    dsc := s.dsc.swapped c.parity
    cce := { s.cce with
      engine := .idle, change := none, lastService := some c.service
      presented := some
        { service := c.service, frequency := s.cce.tuned.getD c.frequency, mapStream := c.mapStream, map := m
          live := liveStreams s.splicedRoutes, audio := c.audio, since := s.tmb.localTime, forced := reason == .forced } }
    inFlight := s.inFlight
      ++ (if s.dsc.noKey = (s.dsc.swapped c.parity).noKey ∧ s.dsc.notEntitled = (s.dsc.swapped c.parity).notEntitled then []
          else [.dscPosting (s.dsc.swapped c.parity).noKey (s.dsc.swapped c.parity).notEntitled])
      ++ contextHandovers .splice (some c.service) (some c.mapStream)
    rpq := (emit (.changeDone c.service reason)
      (emitAll ((hostsUnder .armed s.routes).map fun h => .routeDisplaced h.port h.stream) s)).rpq }

theorem swapRecords_eq (parity : Option Slot) (s : State) : swapRecords parity s =
    { s with
      dsc := s.dsc.swapped parity
      inFlight := s.inFlight
        ++ (if s.dsc.noKey = (s.dsc.swapped parity).noKey ∧ s.dsc.notEntitled = (s.dsc.swapped parity).notEntitled then []
            else [.dscPosting (s.dsc.swapped parity).noKey (s.dsc.swapped parity).notEntitled]) } := by
  rw [swapRecords]
  dsimp only
  rw [postDsc_eq]
  simp only [Dsc.swapped, Option.any_map]
  rfl

theorem displaceHosts_eq (s : State) : displaceHosts s =
    { s with
      routes := RouteTable.free s.routes fun r => (RouteTable.displaced s.routes).contains r
      rpq := (emitAll ((RouteTable.displaced s.routes).map fun h => .routeDisplaced h.port h.stream) s).rpq } := by
  simp only [displaceHosts, emitAll_eq]

/-- The engine entering IDLE from a state without its change: a pending TUNE starts (R93). -/
theorem enterIdle_eq (s : State) : enterIdle s =
    State.tuneStarted { s with cce := { s.cce with engine := .idle, change := none, pendingTune := none } } s.cce.pendingTune := by
  rw [enterIdle]
  rcases s.cce.pendingTune with _ | ⟨service, audio⟩
  · rfl
  · rw [State.tuneStarted]
    dsimp only
    rcases found : s.sdr.find service with _ | target
    · rfl
    · have number : target.number = service := by simpa using List.find?_some found
      exact startChange_of_settled (s := { s with cce := { s.cce with engine := .idle, change := none, pendingTune := none } })
        (by rw [number]; exact found) audio (by simp)

/-- The displaced host routes, freed and reported at the splice. -/
theorem displaceHosts_convert (s : State) : displaceHosts { s with routes := RouteTable.convert s.routes } =
    { s with
      routes := s.splicedRoutes
      rpq := (emitAll ((hostsUnder .armed s.routes).map fun h => .routeDisplaced h.port h.stream) s).rpq } := by
  have events : (RouteTable.displaced (RouteTable.convert s.routes)).map (fun h => Event.routeDisplaced h.port h.stream)
      = (hostsUnder .armed s.routes).map fun h => .routeDisplaced h.port h.stream :=
    displaced_convert s.routes _ fun r => by rw [Route.convert]; split <;> rfl
  rw [displaceHosts_eq]
  dsimp only
  rw [events]
  simp only [emitAll_eq]
  rfl

/-- The presentation that a splice begins (R90). -/
def Change.presentation (c : Change) (m : ProgMap) (reason : DoneReason) (s : State) : Presentation :=
  { service := c.service, frequency := s.cce.tuned.getD c.frequency, mapStream := c.mapStream, map := m
    live := liveStreams s.splicedRoutes, audio := c.audio, since := s.tmb.localTime, forced := reason == .forced }

theorem splice_eq {s : State} {c : Change} {m : ProgMap} (reason : DoneReason) (running : s.cce.change = some c)
    (mapped : c.map = some m) : splice reason s =
      (State.splicedTo { s with cce := { s.cce with pendingTune := none } } c m reason).tuneStarted s.cce.pendingTune := by
  rw [splice, running]
  dsimp only
  rw [displaceHosts_convert, mapped, Option.getD_some]
  generalize swapped : swapRecords c.parity _ = s2
  rw [swapRecords_eq] at swapped
  dsimp only at swapped
  rw [enterIdle_eq]
  simp only [emit_eq, emitAll_eq, handContext, sendAll] at swapped ⊢
  rw [← swapped]
  dsimp only
  rw [State.splicedTo]
  simp only [emit_eq, emitAll_eq]
  rfl

theorem splicedRoutes_getElem? (s : State) {k : Nat} {entry : Option Route} (held : s.routes[k]? = some entry) :
    s.splicedRoutes[k]? = some (((entry.filter fun r => !r.liveChange).map Route.convert).filter fun r =>
      !(RouteTable.displaced (RouteTable.convert s.routes)).contains r) := by
  refine free_getElem? _ _ ?_
  rw [RouteTable.convert, RouteTable.mapRoutes, List.getElem?_map, free_getElem? _ _ held, Option.map_some]

/-- A converted route is displaced where it is a host's under an ARMED route (R15). -/
theorem displaced_contains_convert {s : State} {k : Nat} {r : Route} (held : s.routes[k]? = some (some r)) (stays : r.liveChange = false) :
    (RouteTable.displaced (RouteTable.convert s.routes)).contains r.convert = isHostUnder .armed s.routes r := by
  have listed : some r.convert ∈ RouteTable.convert s.routes := by
    rw [RouteTable.convert, RouteTable.mapRoutes, List.mem_map]
    refine ⟨some r, List.mem_map.mpr ⟨some r, List.mem_of_getElem? held, ?_⟩, rfl⟩
    rw [Option.filter_some, stays]
    rfl
  rw [Bool.eq_iff_iff, List.contains_iff_mem, displaced_eq, mem_hostsUnder, isHostUnder_convert, isHostUnder_of_convert]
  exact and_iff_right listed

theorem splicedTo_spliced (s : State) (c : Change) (m : ProgMap) (reason : DoneReason) :
    s.Spliced c m reason (s.splicedTo c m reason) := by
  refine ⟨?_, fun k r held => ⟨fun live owner => ?_, fun under => ?_, fun owner armed => ?_, fun live owner clear => ?_⟩,
    fun k empty => splicedRoutes_getElem? s empty, ?_, ?_, ?_, rfl, rfl, ?_, rfl, rfl⟩
  · exact (List.length_map _).trans ((List.length_map _).trans (List.length_map _))
  · refine (splicedRoutes_getElem? s held).trans ?_
    simp [Option.filter_some, Route.liveChange, live, owner]
  · have host := (isHostUnder_iff _ _ _).mp ((mem_hostsUnder _ _ _).mp under).2
    have stays : r.liveChange = false := by simp [Route.liveChange, host.1]
    refine (splicedRoutes_getElem? s held).trans ?_
    rw [Option.filter_some, stays, Bool.not_false, if_pos rfl, Option.map_some, Option.filter_some,
      displaced_contains_convert held stays, ((mem_hostsUnder _ _ _).mp under).2]
    rfl
  · have stays : r.liveChange = false := by simp [Route.liveChange, armed]
    have alone : isHostUnder .armed s.routes r = false := by
      rw [← Bool.not_eq_true, isHostUnder_iff]
      exact fun ⟨host, _⟩ => by simp [host] at owner
    refine (splicedRoutes_getElem? s held).trans ?_
    rw [Option.filter_some, stays, Bool.not_false, if_pos rfl, Option.map_some, Option.filter_some,
      displaced_contains_convert held stays, alone, Bool.not_false, if_pos rfl, Route.convert, if_pos armed]
  · have stays : r.liveChange = false := by simp [Route.liveChange, owner]
    have alone : isHostUnder .armed s.routes r = false := by
      rw [← Bool.not_eq_true]
      exact fun yes => clear ((mem_hostsUnder _ _ _).mpr ⟨List.mem_of_getElem? held, yes⟩)
    refine (splicedRoutes_getElem? s held).trans ?_
    rw [Option.filter_some, stays, Bool.not_false, if_pos rfl, Option.map_some, Option.filter_some,
      displaced_contains_convert held stays, alone, Bool.not_false, if_pos rfl, Route.convert, if_neg (by simp [live])]
  · change s.dsc.arming.map _ = _
    refine congrArg (s.dsc.arming.map ·) (funext fun r => ?_)
    cases c.parity <;> rfl
  · change (s.dsc.arming.any fun r => r.verdict == .notEntitled) = true ↔ _
    rw [Option.any_eq_true]
    simp only [beq_iff_eq]
  · change (s.dsc.arming.any fun r => c.parity.any fun k => (r.slot k).isNone) = true ↔ _
    rw [Option.any_eq_true]
    refine exists_congr fun r => and_congr_right fun _ => ?_
    rcases c.parity with _ | _ | _ <;> simp [KeyRecord.slot]
  · refine congrArg (s.inFlight ++ · ++ _) ?_
    simp only [State.splicedTo, eq_comm (a := s.dsc.noKey), eq_comm (a := s.dsc.notEntitled)]

/-! ### The ways into the splice (R88, R89) -/

theorem armedVideo_iff (table : List (Option Route)) :
    (RouteTable.find table fun r => r.isArmed && r.use == .video).isSome = true
      ↔ ∃ r, some r ∈ table ∧ r.state = .armed ∧ r.use = .video := by
  rw [RouteTable.find_isSome_iff]
  simp only [Route.isArmed, Bool.and_eq_true, beq_iff_eq]

theorem enterWaitSplice_of_video {s : State} (c : Change) (video : ∃ r, some r ∈ s.routes ∧ r.state = .armed ∧ r.use = .video) :
    enterWaitSplice c s = enter .waitSplice { c with phaseStart := s.tmb.localTime } s :=
  if_pos ((armedVideo_iff s.routes).mpr video)

/-- WAIT_SPLICE entered without an ARMED VIDEO route: the splice at once (R89). -/
theorem enterWaitSplice_of_no_video {s : State} {c : Change} {m : ProgMap}
    (blank : ∀ r, some r ∈ s.routes → ¬ (r.state = .armed ∧ r.use = .video)) (mapped : c.map = some m) :
    enterWaitSplice c s = (State.splicedTo { s with cce := { s.cce with
        engine := .waitSplice, change := some { c with phaseStart := s.tmb.localTime }, pendingTune := none } }
      { c with phaseStart := s.tmb.localTime } m .ok).tuneStarted s.cce.pendingTune := by
  have absent : ¬ (RouteTable.find s.routes fun r => r.isArmed && r.use == .video).isSome = true := fun found => by
    obtain ⟨r, listed, video⟩ := (armedVideo_iff s.routes).mp found
    exact blank r listed video
  refine (if_neg absent).trans ?_
  exact splice_eq (s := enter .waitSplice { c with phaseStart := s.tmb.localTime } s) .ok rfl mapped

theorem keyUsable_iff (c : Change) (r : KeyRecord) : keyUsable c r = true ↔ r.verdict = .notEntitled ∨ (r.verdict = .entitled
    ∧ (c.parity = some .even ∧ r.even.isSome = true ∨ c.parity = some .odd ∧ r.odd.isSome = true)) := by
  rw [keyUsable, Bool.or_eq_true, Bool.and_eq_true, beq_iff_eq, beq_iff_eq]
  rcases c.parity with _ | _ | _ <;> simp [KeyRecord.slot]

theorem testWaitKey_of_waiting {s : State} {c : Change} {r : KeyRecord} (waiting : s.cce.engine = .waitKey)
    (running : s.cce.change = some c) (armed : s.dsc.arming = some r) :
    testWaitKey s = if keyUsable c r then enterWaitSplice c s else s := by
  rw [testWaitKey, waiting, running, armed]

theorem testWaitKey_of_elsewhere {s : State} (elsewhere : s.cce.engine ≠ .waitKey) : testWaitKey s = s := by
  rw [testWaitKey]
  split
  · rename_i waiting _ _
    exact absurd waiting elsewhere
  · rfl

theorem exec_armingReport {s : State} {v : Verdict} {e o : Bool} (ho : s.offered (.armingReport v e o)) :
    exec .armingReport s = .next (testWaitKey { s with inFlight := s.others (.armingReport v e o) }) := by
  simp only [exec, execArmingReport, whenRunning_of_running ho.1,
    show s.nextIn .dscToCce = some (.armingReport v e o) from offered_next ho]
  rfl

theorem tuneStarted_of_found {u : State} {service : Nat} {audio : Option Lang} {target : Service}
    (found : u.sdr.find service = some target) : u.tuneStarted (some (service, audio)) = u.changeStarted target audio := by
  rw [State.tuneStarted, found]

theorem tuneStarted_of_unknown {u : State} {service : Nat} {audio : Option Lang} (unknown : u.sdr.find service = none) :
    u.tuneStarted (some (service, audio)) = emit (.changeDone service .noService) u := by
  rw [State.tuneStarted, unknown]

/-- Settles O42: both ways out of WAIT_KEY enter WAIT_SPLICE, and the splice is one function of the state that it finds. -/
theorem waitKeyEndsAndForcedSplicesPresentTheService : Obligations.WaitKeyEndsAndForcedSplicesPresentTheService := by
  refine ⟨fun s v e o ho elsewhere => ?_, fun s c running change => ?_⟩
  · rw [exec_armingReport ho]
    exact congrArg Host.Outcome.next (testWaitKey_of_elsewhere elsewhere)
  · intro now
    have timed : exec .waitKeyTimeout s = .next (if phaseOver .waitKey 1200 s then enterWaitSplice c s else s) := by
      simp only [exec, execWaitKeyTimeout, whenRunning_of_running running, change]
    refine ⟨fun waiting video => ⟨fun r v e o armed ho => ?_, fun late => ?_, fun early => ?_⟩,
      fun m waiting blank mapped => ?_, fun splicing => ⟨fun early => ?_, fun m mapped late => ?_⟩⟩
    · intro s0 usable
      rw [exec_armingReport ho, testWaitKey_of_waiting (s := s0) waiting change armed]
      refine ⟨fun yes => ?_, fun no => ?_⟩
      · rw [if_pos ((keyUsable_iff c r).mpr yes), enterWaitSplice_of_video (s := s0) c video]
        rfl
      · rw [if_neg fun yes => no ((keyUsable_iff c r).mp yes)]
    · rw [timed, if_pos ((phaseOver_iff .waitKey 1200 waiting change).mpr late), enterWaitSplice_of_video c video]
      rfl
    · rw [timed, if_neg fun late => absurd ((phaseOver_iff .waitKey 1200 waiting change).mp late) (Nat.not_le.mpr early)]
    · intro splicing
      refine ⟨fun r v e o armed ho => ?_, fun late => ?_⟩
      · intro s0 usable
        rw [exec_armingReport ho, testWaitKey_of_waiting (s := s0) waiting change armed]
        refine ⟨fun yes => ⟨_, splicedTo_spliced (splicing s0) now m .ok, ?_⟩, fun no => ?_⟩
        · rw [if_pos ((keyUsable_iff c r).mpr yes), enterWaitSplice_of_no_video (s := s0) blank mapped]
        · rw [if_neg fun yes => no ((keyUsable_iff c r).mp yes)]
      · refine ⟨_, splicedTo_spliced (splicing s) now m .ok, ?_⟩
        rw [timed, if_pos ((phaseOver_iff .waitKey 1200 waiting change).mpr late), enterWaitSplice_of_no_video blank mapped]
    · simp only [exec, execForcedSplice, whenRunning_of_running running]
      rw [if_neg fun late => absurd ((phaseOver_iff .waitSplice 1000 splicing change).mp late) (Nat.not_le.mpr early)]
    · have run : exec .forcedSplice s = .next ((State.splicedTo { s with cce := { s.cce with
          pendingTune := none, forcedSplices := satInc max32 s.cce.forcedSplices } } c m .forced).tuneStarted s.cce.pendingTune) := by
        simp only [exec, execForcedSplice, whenRunning_of_running running]
        rw [if_pos ((phaseOver_iff .waitSplice 1000 splicing change).mpr late)]
        exact congrArg Host.Outcome.next
          (splice_eq (s := { s with cce := { s.cce with forcedSplices := satInc max32 s.cce.forcedSplices } }) .forced change mapped)
      refine ⟨_, splicedTo_spliced _ c m .forced, fun unasked => by rw [run, unasked]; rfl, fun service audio asked => ?_⟩
      rw [run, asked]
      refine ⟨fun target found => ?_, fun unknown => ?_⟩
      · exact congrArg Host.Outcome.next (tuneStarted_of_found found)
      · exact congrArg Host.Outcome.next (tuneStarted_of_unknown unknown)

end Sys2Proof.Machine
end

section
/-! SET_AUDIO, and routes put in the lowest free entries (R15, R95). -/

namespace Sys2Proof.Machine

/-! ### The lowest free entries (R9, R15) -/

theorem fillFree_cons (r : Route) (rs : List Route) (t : List (Option Route)) :
    fillFree (r :: rs) t = fillFree rs (fillFree [r] t) := by
  induction t with
  | nil => cases rs <;> simp [fillFree]
  | cons entry rest ih =>
    rcases entry with _ | x
    · rcases rs with _ | ⟨y, ys⟩ <;> simp [fillFree]
    · rcases rs with _ | ⟨y, ys⟩
      · simp [fillFree]
      · simp only [fillFree]
        rw [ih]

theorem fillFree_one {t : List (Option Route)} (r : Route) (room : none ∈ t) :
    RouteTable.place t r = some (fillFree [r] t) := by
  induction t with
  | nil => simp at room
  | cons entry rest ih =>
    rcases entry with _ | x
    · simp [RouteTable.place, RouteTable.lowestFree, indexOf, setAt, fillFree, List.findIdx?_cons]
    · have later := ih (by simpa using room)
      simp only [RouteTable.place, RouteTable.lowestFree, indexOf, setAt] at later ⊢
      rw [List.findIdx?_cons]
      rcases found : rest.findIdx? Option.isNone with _ | k
      · simp [found] at later
      · rw [found] at later
        simpa [fillFree] using later

/-- An ARMED route inserted on a stream without one, while the quota and the table have room (R15). -/
theorem insertArmed_of_room {t : RouteTable} {stream : Nat} {use : RouteUse} {binding : Binding}
    (fresh : ∀ r, some r ∈ t → ¬ (r.port = .a ∧ r.stream = stream ∧ r.state = .armed))
    (quota : RouteTable.owned t .change < 10) (room : none ∈ t) :
    t.insertArmed stream use binding = some (fillFree [.fresh .a stream use .armed .change binding] t) := by
  have absent : t.find (Route.isAt .a stream .armed) = none := by
    rw [RouteTable.find_eq_none]
    intro r listed
    rw [← Bool.not_eq_true, isAt_iff]
    exact fresh r listed
  unfold RouteTable.insertArmed
  rw [absent]
  dsimp only
  rw [if_neg (Nat.not_le.mpr quota), fillFree_one _ room]

/-! ### The audio component chosen (R87) -/

theorem audioFor_eq (m : ProgMap) (audio : Option Lang) : m.audioFor audio =
    ((m.components.find? fun c => c.kind == .audio && c.lang.any fun l => audio.any l.same).map Component.stream).or
      ((m.components.find? fun c => c.kind == .audio).map Component.stream) := by
  have preferred : (fun c : Component => c.kind == .audio && audio.any fun want => c.lang.any fun have_ => have_.same want)
      = fun c => c.kind == .audio && c.lang.any fun l => audio.any l.same := by
    funext c
    cases audio <;> cases c.lang <;> rfl
  rw [ProgMap.audioFor, preferred]
  cases m.components.find? fun c => c.kind == .audio && c.lang.any fun l => audio.any l.same <;> rfl

/-! ### The LIVE AUDIO route moved (R95, R96) -/

theorem rebindLanes_audio {before after : LaneStreams} {old new : Nat} (was : before.audio = some old) (is : after.audio = some new)
    (differs : old ≠ new) (video : after.video = before.video) (data : after.data = before.data) (t : List (Option Route)) :
    rebindLanes before after t = t.map (Option.map fun x => if x.state = .live ∧ x.owner = .change ∧ x.use = .audio
      then { x with stream := new, expected := none, discontinuities := 0, cells := 0 } else x) := by
  refine List.map_congr_left fun entry _ => ?_
  rcases entry with _ | x
  · rfl
  have lane : x.changesLane before after = true ↔ x.use = .audio := by
    rw [Route.changesLane]
    cases x.use <;> simp [presentUses, LaneStreams.of, was, is, video, data, differs]
  by_cases moves : x.state = .live ∧ x.owner = .change ∧ x.use = .audio
  · obtain ⟨live, owner, use⟩ := moves
    have yes : (x.liveChange && x.changesLane before after) = true := by simp [Route.liveChange, live, owner, lane.mpr use]
    simp only [Option.bind_some, Option.map_some]
    have stream : after.of x.use = some new := by
      rw [use]
      exact is
    rw [if_pos yes, if_pos ⟨live, owner, use⟩, stream]
    rfl
  · have no : ¬ (x.liveChange && x.changesLane before after) = true := by
      simp only [Route.liveChange, Bool.and_eq_true, beq_iff_eq, lane]
      exact fun ⟨⟨live, owner⟩, use⟩ => moves ⟨live, owner, use⟩
    simp only [Option.bind_some, Option.map_some]
    rw [if_neg no, if_neg moves]

/-- A choice that is what the lane carries moves nothing. -/
theorem moveAudio_of_same {p : Presentation} {audio : Option Lang} {t : RouteTable} (same : p.map.audioFor audio = p.live.audio) :
    moveAudio p audio t = some (t, p.live) := by
  rw [moveAudio]
  dsimp only
  rw [same]
  split
  · rename_i n n' was is
    rw [if_pos (Option.some.inj (was.symm.trans is))]
  · rfl

theorem moveAudio_of_new {p : Presentation} {audio : Option Lang} {t : RouteTable} {old new : Nat} (was : p.live.audio = some old)
    (is : p.map.audioFor audio = some new) (differs : old ≠ new) : moveAudio p audio t =
      if (t.find (Route.isAt .a new .live)).isSome then none
      else some (rebindLanes p.live { p.live with audio := some new } t, { p.live with audio := some new }) := by
  rw [moveAudio]
  dsimp only
  rw [was, is]
  exact if_neg differs

/-! ### The ARMED AUDIO route chosen again (R95) -/

theorem rearmAudio_of_none {m : ProgMap} {audio : Option Lang} (t : RouteTable) (silent : m.audioFor audio = none) :
    rearmAudio m audio t = some t := by
  rw [rearmAudio, silent]
  split
  · rename_i no
    simp at no
  · rfl

theorem rearmAudio_of_found {m : ProgMap} {audio : Option Lang} {t : RouteTable} {k new : Nat} {x : Route}
    (found : t.find (fun r => r.isArmed && r.use == .audio) = some k) (held : t[k]? = some (some x)) (is : m.audioFor audio = some new) :
    rearmAudio m audio t = if new = x.stream then some t
      else if (t.find (Route.isAt .a new .armed)).isSome then none
      else (t.free fun x => x.isArmed && x.use == .audio).insertArmed new .audio x.binding := by
  have route : (some k).bind t.route = some x := by
    rw [Option.bind_some, RouteTable.route, held]
    rfl
  rw [rearmAudio, found, route, is]

/-- The table in which a new ARMED AUDIO route takes the place of the old one (R95). -/
theorem rearmed_table {t : RouteTable} {k new : Nat} {x : Route} (found : t.find (fun r => r.isArmed && r.use == .audio) = some k)
    (held : t[k]? = some (some x)) (owner : x.owner = .change) (quota : RouteTable.owned t .change ≤ 10)
    (fresh : ∀ y, some y ∈ t → ¬ (y.port = .a ∧ y.stream = new ∧ y.state = .armed)) :
    (t.free fun x => x.isArmed && x.use == .audio).insertArmed new .audio x.binding
      = some (fillFree [.fresh .a new .audio .armed .change x.binding] (t.free fun x => x.isArmed && x.use == .audio)) := by
  obtain ⟨y, there, test⟩ := RouteTable.find_eq_some found
  obtain rfl : x = y := Option.some.inj (Option.some.inj (held.symm.trans there))
  have freed : (t.free fun x => x.isArmed && x.use == .audio)[k]? = some none := by
    rw [free_getElem? _ _ held, Option.filter_some, test]
    rfl
  refine insertArmed_of_room (fun y listed => ?_) ?_ (List.mem_of_getElem? freed)
  · exact fresh y (RouteTable.mem_free listed).1
  · refine Nat.lt_of_lt_of_le ?_ quota
    have split_ : t = t.take k ++ some x :: t.drop (k + 1) := by
      obtain ⟨inside, is⟩ := List.getElem?_eq_some_iff.mp held
      rw [← is, List.cons_getElem_drop_succ, List.take_append_drop]
    have fewer (part : List (Option Route)) : (RouteTable.free part fun x => x.isArmed && x.use == .audio).countP
        (fun e => e.any (·.owner == .change)) ≤ part.countP fun e => e.any (·.owner == .change) := by
      rw [RouteTable.free, List.countP_map]
      refine List.countP_mono_left fun e _ owned => ?_
      rcases e with _ | r
      · simp at owned
      · rw [Function.comp_apply, Option.filter_some] at owned
        split at owned
        · exact owned
        · simp at owned
    have low := fewer (t.take k)
    have high := fewer (t.drop (k + 1))
    rw [split_, RouteTable.owned, RouteTable.owned, RouteTable.free, List.map_append, List.map_cons, List.countP_append,
      List.countP_append, List.countP_cons, List.countP_cons, Option.filter_some, test]
    rw [RouteTable.free] at low high
    rw [if_neg (by simp), if_pos (by simp [owner])]
    omega

/-! ### SET_AUDIO -/

/-- SET_AUDIO with a preference that is taken (R95). -/
theorem exec_setAudio {s : State} {tag : Byte} {n : Nat} {lang : Lang} (asking : s.asking tag (.setAudio lang) n)
    (good : lang.letters = true ∨ lang = ⟨0#8, 0#8, 0#8⟩) : exec .setAudio s = .next (setAudio (langOrNone lang) s) := by
  simp only [exec, execSetAudio, whenRunning_of_running asking.1, asked_eq s asking.2]
  rw [if_pos]
  rw [Bool.or_eq_true, decide_eq_true_iff]
  exact good

/-- SET_AUDIO in WAIT_KEY and WAIT_SPLICE with the change's map at hand (R95). -/
theorem setAudio_of_armed {s : State} {tag : Byte} {n : Nat} {lang : Lang} (asking : s.asking tag (.setAudio lang) n)
    (audio : Option Lang) {c : Change} {m : ProgMap} (armed : s.cce.engine = .waitKey ∨ s.cce.engine = .waitSplice)
    (running : s.cce.change = some c) (mapped : c.map = some m) : setAudio audio s =
      match rearmAudio m audio s.routes with
      | none => s.replied tag (.setAudio lang) .noRoute []
      | some routes => { s.replied tag (.setAudio lang) .ok [] with
          routes, cce := { s.cce with change := some { c with audio } } } := by
  have refused : reply .noRoute s = s.replied tag (.setAudio lang) .noRoute [] := reply_eq s .noRoute asking.2
  have taken (routes : RouteTable) : reply .ok (enter s.cce.engine { c with audio } { s with routes })
      = { s.replied tag (.setAudio lang) .ok [] with routes, cce := { s.cce with change := some { c with audio } } } :=
    reply_eq (enter s.cce.engine { c with audio } { s with routes }) .ok asking.2
  have table : (c.map.elim (some s.routes) fun m => rearmAudio m audio s.routes) = rearmAudio m audio s.routes := by
    rw [mapped]
    rfl
  rcases armed with engine | engine
  · rw [setAudio, running, engine]
    dsimp only
    rw [table, ← engine]
    rcases rearmAudio m audio s.routes with _ | routes
    · exact refused
    · exact taken routes
  · rw [setAudio, running, engine]
    dsimp only
    rw [table, ← engine]
    rcases rearmAudio m audio s.routes with _ | routes
    · exact refused
    · exact taken routes

/-- Settles O43: SET_AUDIO by the engine's state, the LIVE route moved in IDLE and the ARMED one chosen again after arming. -/
theorem setAudioReplacesThePreferenceAndMovesTheAudioRoute : Obligations.SetAudioReplacesThePreferenceAndMovesTheAudioRoute := by
  intro s tag n lang h r audio chosen
  have choice (m : ProgMap) : m.audioFor audio = chosen m := audioFor_eq m audio
  refine ⟨fun unlettered other => ?_, fun good => ⟨fun idle blank => ?_, fun c engine running => ?_, fun p idle presented => ?_,
    fun c m engine running mapped silent => ?_, fun c m k x new engine running mapped found held is => ?_⟩⟩
  · simp only [exec, execSetAudio, whenRunning_of_running h.1, asked_eq s h.2]
    rw [if_neg (by
      rw [Bool.or_eq_true, decide_eq_true_iff]
      rintro (no | no)
      · simp [unlettered] at no
      · exact other no)]
    exact congrArg Host.Outcome.next (reply_eq s .badParam h.2)
  · rw [exec_setAudio h good, setAudio, idle, blank]
    exact congrArg Host.Outcome.next (reply_eq s .notWaiting h.2)
  · rw [exec_setAudio h good]
    refine congrArg Host.Outcome.next ?_
    rcases engine with engine | engine
    · rw [setAudio, engine, running]
      refine (reply_eq (enter .tuning { c with audio } s) .ok h.2).trans ?_
      rw [enter, ← engine]
      rfl
    · rw [setAudio, engine, running]
      refine (reply_eq (enter .waitMap { c with audio } s) .ok h.2).trans ?_
      rw [enter, ← engine]
      rfl
  · have stuck (no : moveAudio p audio s.routes = none) : setAudio audio s = r .noRoute [] := by
      rw [setAudio, idle, presented]
      dsimp only
      rw [no]
      exact reply_eq s .noRoute h.2
    have moved {routes : RouteTable} {live : LaneStreams} (yes : moveAudio p audio s.routes = some (routes, live)) :
        setAudio audio s = { r .ok [] with
          routes, cce := { s.cce with presented := some { p with audio, live } } } := by
      rw [setAudio, idle, presented]
      dsimp only
      rw [yes]
      exact reply_eq { s with routes, cce := { s.cce with presented := some { p with audio, live } } } .ok h.2
    have run : exec .setAudio s = .next (setAudio audio s) := exec_setAudio h good
    rw [run]
    refine ⟨fun same => ?_, fun old new was is differs => ?_⟩
    · rw [moved (moveAudio_of_same ((choice p.map).trans same))]
      rfl
    · have choose := moveAudio_of_new (t := s.routes) was ((choice p.map).trans is) differs
      refine ⟨fun ⟨x, listed, at_⟩ => ?_, fun fresh => ?_⟩
      · rw [if_pos ((RouteTable.find_isSome_iff _ _).mpr ⟨x, listed, (isAt_iff _ _ _ _).mpr at_⟩)] at choose
        rw [stuck choose]
      · rw [if_neg fun there => by
            obtain ⟨x, listed, at_⟩ := (RouteTable.find_isSome_iff _ _).mp there
            exact fresh x listed ((isAt_iff _ _ _ _).mp at_),
          rebindLanes_audio (before := p.live) (after := { p.live with audio := some new }) was rfl differs rfl rfl] at choose
        rw [moved choose]
  · have run : exec .setAudio s = .next (setAudio audio s) := exec_setAudio h good
    rw [run, setAudio_of_armed h audio engine running mapped, rearmAudio_of_none _ ((choice m).trans silent)]
    rfl
  · have run : exec .setAudio s = .next (setAudio audio s) := exec_setAudio h good
    rw [run, setAudio_of_armed h audio engine running mapped, rearmAudio_of_found found held ((choice m).trans is)]
    refine ⟨fun same => ?_, fun differs ⟨y, listed, at_⟩ => ?_, fun differs fresh owner quota => ?_⟩
    · rw [if_pos same.symm]
      rfl
    · rw [if_neg (Ne.symm differs), if_pos ((RouteTable.find_isSome_iff _ _).mpr ⟨y, listed, (isAt_iff _ _ _ _).mpr at_⟩)]
    · rw [if_neg (Ne.symm differs), if_neg fun there => by
          obtain ⟨y, listed, at_⟩ := (RouteTable.find_isSome_iff _ _).mp there
          exact fresh y listed ((isAt_iff _ _ _ _).mp at_),
        rearmed_table found held owner quota fresh]
      rfl

end Sys2Proof.Machine
end

section
/-! Programme maps: their bodies, and the table that an arming leaves (R15, R85, R87, R189). -/

namespace Sys2Proof.Machine

/-! ### The body of a map (R85, R189) -/

theorem mapM_of_some {f : α → Option β} {g : α → β} {l : List α} (all : ∀ x ∈ l, f x = some (g x)) : l.mapM f = some (l.map g) := by
  induction l with
  | nil => rfl
  | cons x rest ih =>
    obtain ⟨first, later⟩ := List.forall_mem_cons.mp all
    rw [List.mapM_cons, first, ih later]
    rfl

theorem mapM_of_none {f : α → Option β} {l : List α} (some_ : ∃ x ∈ l, f x = none) : l.mapM f = none := by
  induction l with
  | nil => simp at some_
  | cons x rest ih =>
    rw [List.mapM_cons]
    rcases first : f x with _ | y
    · rfl
    · obtain ⟨z, hz, gone⟩ := some_
      have later : z ∈ rest := (List.mem_cons.mp hz).resolve_left fun same => by simp [← same, gone] at first
      rw [ih ⟨z, later, gone⟩]
      rfl

/-- The key-stream field's flag is the high bit of its first byte (R189). -/
theorem keyFlag_iff {body : List Byte} (long : 3 ≤ body.length) : (byteAt body 1).getLsbD 7 = true ↔ 32768 ≤ fieldAt body 1 2 := by
  obtain ⟨b0, b1, b2, rest, rfl⟩ : ∃ b0 b1 b2 rest, body = b0 :: b1 :: b2 :: rest := by
    rcases body with _ | ⟨b0, _ | ⟨b1, _ | ⟨b2, rest⟩⟩⟩
    · simp at long
    · simp at long
    · simp at long
    · exact ⟨b0, b1, b2, rest, rfl⟩
  have value : fieldAt (b0 :: b1 :: b2 :: rest) 1 2 = b1.toNat * 256 + b2.toNat := by
    simp [fieldAt, beNat]
  have first := b1.isLt
  have second := b2.isLt
  have bit : b1.getLsbD 7 = true ↔ 128 ≤ b1.toNat := by
    rw [BitVec.getLsbD, Nat.testBit_eq_decide_div_mod_eq, decide_eq_true_iff]
    omega
  rw [value, show byteAt (b0 :: b1 :: b2 :: rest) 1 = b1 from rfl, bit]
  omega

/-- A component read at its offset in the body (R189). -/
def componentOf (body : List Byte) (k : Nat) : Component :=
  { stream := fieldAt body (3 + 6 * k) 2 % 4096
    kind := if fieldAt body (5 + 6 * k) 1 = 1 then .video else if fieldAt body (5 + 6 * k) 1 = 2 then .audio else .data
    lang := if fieldAt body (5 + 6 * k) 1 = 2
        ∧ (⟨byteAt body (6 + 6 * k), byteAt body (7 + 6 * k), byteAt body (8 + 6 * k)⟩ : Lang).letters = true
      then some ⟨byteAt body (6 + 6 * k), byteAt body (7 + 6 * k), byteAt body (8 + 6 * k)⟩ else none }

theorem componentAt_cut (body : List Byte) (k : Nat) : componentAt ((body.drop (3 + 6 * k)).take 6) =
    if 1 ≤ fieldAt body (5 + 6 * k) 1 ∧ fieldAt body (5 + 6 * k) 1 ≤ 3
      ∧ fieldAt body (3 + 6 * k) 2 % 4096 ∉ [4064, 4065, 4066, 4067, 4068, 4080, 4081, 4095] then some (componentOf body k) else none := by
  have stream : streamField ((body.drop (3 + 6 * k)).take 6) 0 = fieldAt body (3 + 6 * k) 2 % 4096 := by
    rw [streamField, fieldAt_cut body (by omega), Nat.add_zero]
  have kind : (byteAt ((body.drop (3 + 6 * k)).take 6) 2).toNat = fieldAt body (5 + 6 * k) 1 := by
    rw [byteAt_cut body (by omega), toNat_byteAt, show 3 + 6 * k + 2 = 5 + 6 * k by omega]
  have lang : langAt ((body.drop (3 + 6 * k)).take 6) 3
      = ⟨byteAt body (6 + 6 * k), byteAt body (7 + 6 * k), byteAt body (8 + 6 * k)⟩ := by
    rw [langAt, byteAt_cut body (by omega), byteAt_cut body (by omega), byteAt_cut body (by omega),
      show 3 + 6 * k + 3 = 6 + 6 * k by omega, show 3 + 6 * k + (3 + 1) = 7 + 6 * k by omega,
      show 3 + 6 * k + (3 + 2) = 8 + 6 * k by omega]
  rw [componentAt, kind, stream, lang, componentOf]
  generalize fieldAt body (5 + 6 * k) 1 = code
  generalize fieldAt body (3 + 6 * k) 2 % 4096 = n
  generalize (⟨byteAt body (6 + 6 * k), byteAt body (7 + 6 * k), byteAt body (8 + 6 * k)⟩ : Lang) = l
  by_cases listed : 1 ≤ code ∧ code ≤ 3
  · obtain ⟨low, high⟩ := listed
    by_cases held : n ∈ [4064, 4065, 4066, 4067, 4068, 4080, 4081, 4095]
    · have taken : n ∈ reservedStreams := held
      rw [if_neg fun good => good.2.2 held]
      interval_cases code <;> simp [ComponentKind.ofCode, taken]
    · have free : n ∉ reservedStreams := held
      rw [if_pos ⟨low, high, held⟩]
      interval_cases code <;> simp [ComponentKind.ofCode, free, langOrNone]
  · rw [if_neg fun good => listed ⟨good.1, good.2.1⟩]
    have unlisted : ComponentKind.ofCode code = none := by
      rw [ComponentKind.ofCode, if_neg (by omega), if_neg (by omega), if_neg (by omega)]
    rw [unlisted]

/-- The key stream of a map's body (R189). -/
def keyOf (body : List Byte) : Option Nat := if 32768 ≤ fieldAt body 1 2 then some (fieldAt body 1 2 % 4096) else none

/-- What makes a map's body good (R85). -/
def goodMap (body : List Byte) : Prop := 3 + 6 * fieldAt body 0 1 ≤ body.length ∧ fieldAt body 0 1 ≤ 8
  ∧ (∀ n, keyOf body = some n → n ∉ [4064, 4065, 4066, 4067, 4068, 4080, 4081, 4095])
  ∧ ∀ k < fieldAt body 0 1, 1 ≤ fieldAt body (5 + 6 * k) 1 ∧ fieldAt body (5 + 6 * k) 1 ≤ 3
    ∧ fieldAt body (3 + 6 * k) 2 % 4096 ∉ [4064, 4065, 4066, 4067, 4068, 4080, 4081, 4095]

theorem mapBody_spec (version : Nat) (body : List Byte) : (¬ goodMap body → mapBody version body = none)
    ∧ (goodMap body → mapBody version body = some { version, keyStream := keyOf body
                                                    components := (List.range (fieldAt body 0 1)).map (componentOf body) }) := by
  have count : (byteAt body 0).toNat = fieldAt body 0 1 := toNat_byteAt body 0
  have refusing (b c d : Bool) : (b || c || d) = true ↔ b = true ∨ c = true ∨ d = true := by
    rw [Bool.or_eq_true, Bool.or_eq_true, or_assoc]
  rcases Nat.lt_or_ge body.length (3 + 6 * fieldAt body 0 1) with short | long
  · refine ⟨fun _ => ?_, fun good => absurd good.1 (by omega)⟩
    rw [mapBody]
    simp only [count]
    exact if_pos (by simp [short])
  have key : (if (byteAt body 1).getLsbD 7 then some (streamField body 1) else none) = keyOf body := by
    rw [keyOf]
    simp only [keyFlag_iff (show 3 ≤ body.length by omega)]
    rfl
  have unfolded : mapBody version body = if 8 < fieldAt body 0 1 ∨ (keyOf body).any reservedStreams.contains = true then none
      else ((List.range (fieldAt body 0 1)).mapM fun k => componentAt ((body.drop (3 + 6 * k)).take 6)).map
        fun components => { version, components, keyStream := keyOf body } := by
    rw [mapBody]
    simp only [count, key]
    refine if_congr ?_ rfl rfl
    simp only [Bool.or_eq_true, decide_eq_true_eq]
    constructor
    · rintro (((no | many) | no) | reserved)
      · omega
      · exact .inl many
      · omega
      · exact .inr reserved
    · rintro (many | reserved)
      · exact .inl (.inl (.inr many))
      · exact .inr reserved
  have reservedKey : (keyOf body).any reservedStreams.contains = true ↔
      ∃ n, keyOf body = some n ∧ n ∈ [4064, 4065, 4066, 4067, 4068, 4080, 4081, 4095] := by
    rw [Option.any_eq_true]
    simp only [List.contains_iff_mem]
    rfl
  rw [unfolded]
  constructor
  · intro bad
    by_cases refused : 8 < fieldAt body 0 1 ∨ (keyOf body).any reservedStreams.contains = true
    · rw [if_pos refused]
    · rw [if_neg refused, Option.map_eq_none_iff]
      rw [not_or, reservedKey] at refused
      obtain ⟨few, key⟩ := refused
      refine mapM_of_none ?_
      by_contra none_
      refine bad ⟨long, by omega, fun n is held => key ⟨n, is, held⟩, fun k hk => ?_⟩
      by_contra wrong
      exact none_ ⟨k, List.mem_range.mpr hk, by rw [componentAt_cut, if_neg wrong]⟩
  · rintro ⟨-, few, key, components⟩
    rw [if_neg (by
      rw [reservedKey]
      rintro (many | ⟨n, is, held⟩)
      · omega
      · exact key n is held)]
    rw [mapM_of_some (g := componentOf body) fun k hk => by rw [componentAt_cut, if_pos (components k (List.mem_range.mp hk))]]
    rfl

/-! ### Routes filled in (R9, R15) -/

/-- Whether an ARMED route stands on a stream of Port A. -/
def ArmedAt (t : List (Option Route)) (stream : Nat) : Prop :=
  ∃ r, some r ∈ t ∧ r.port = .a ∧ r.stream = stream ∧ r.state = .armed

theorem find_armedAt_iff (t : RouteTable) (stream : Nat) : (t.find (Route.isAt .a stream .armed)).isSome = true ↔ ArmedAt t stream := by
  rw [RouteTable.find_isSome_iff]
  simp only [isAt_iff]
  rfl

theorem countP_fillFree_one {t : List (Option Route)} (room : none ∈ t) (r : Route) {p : Option Route → Bool} :
    (fillFree [r] t).countP p + (if p none then 1 else 0) = t.countP p + if p (some r) then 1 else 0 := by
  induction t with
  | nil => simp at room
  | cons entry rest ih =>
    rcases entry with _ | x
    · rw [fillFree, List.countP_cons, List.countP_cons, show fillFree [] rest = rest by rw [fillFree]]
      omega
    · have later := ih (by simpa using room)
      rw [fillFree, List.countP_cons, List.countP_cons]
      · omega
      · simp

theorem mem_fillFree_one {t : List (Option Route)} (room : none ∈ t) (r x : Route) :
    some x ∈ fillFree [r] t ↔ x = r ∨ some x ∈ t := by
  induction t with
  | nil => simp at room
  | cons entry rest ih =>
    rcases entry with _ | y
    · rw [fillFree, show fillFree [] rest = rest by rw [fillFree]]
      simp
    · have later := ih (by simpa using room)
      rw [fillFree]
      · simp only [List.mem_cons, later]
        constructor
        · rintro (same | same | old)
          · exact .inr (.inl same)
          · exact .inl same
          · exact .inr (.inr old)
        · rintro (same | same | old)
          · exact .inr (.inl same)
          · exact .inl same
          · exact .inr (.inr old)
      · simp

theorem fillFree_nil (t : List (Option Route)) : fillFree [] t = t := by rw [fillFree]

theorem fillFree_append (rs us : List Route) (t : List (Option Route)) : fillFree (rs ++ us) t = fillFree us (fillFree rs t) := by
  induction rs generalizing t with
  | nil => rw [List.nil_append, fillFree_nil]
  | cons r rest ih => rw [List.cons_append, fillFree_cons, ih, ← fillFree_cons]

theorem none_mem_iff (t : List (Option Route)) : none ∈ t ↔ 1 ≤ t.countP Option.isNone := by
  rw [Nat.one_le_iff_ne_zero, ne_eq, List.countP_eq_zero]
  simp

/-- Whether a table has room for some more routes of owner CHANGE: entries and quota (R9). -/
def HasRoom (t : List (Option Route)) (n : Nat) : Prop :=
  t.countP (fun e => e.any fun r => r.owner == .change) + n ≤ 10 ∧ n ≤ t.countP Option.isNone

theorem HasRoom.fill {t : List (Option Route)} {n : Nat} (h : HasRoom t (n + 1)) (r : Route) : HasRoom (fillFree [r] t) n := by
  obtain ⟨quota, entries⟩ := h
  have room : none ∈ t := (none_mem_iff t).mpr (by omega)
  have owned := countP_fillFree_one room r (p := fun e => e.any fun r => r.owner == .change)
  have free := countP_fillFree_one room r (p := Option.isNone)
  refine ⟨?_, ?_⟩
  · simp only [Option.any_none, Bool.false_eq_true, if_false] at owned
    split at owned <;> omega
  · simp only [Option.isNone_none, Option.isNone_some, if_true, Bool.false_eq_true, if_false] at free
    omega

theorem HasRoom.fillAll {t : List (Option Route)} {n : Nat} (rs : List Route) (h : HasRoom t (rs.length + n)) :
    HasRoom (fillFree rs t) n := by
  induction rs generalizing t with
  | nil => rwa [fillFree_nil, ← Nat.zero_add n]
  | cons r rest ih =>
    rw [fillFree_cons]
    refine ih (HasRoom.fill ?_ r)
    rwa [show rest.length + n + 1 = (r :: rest).length + n by rw [List.length_cons]; omega]

theorem HasRoom.room {t : List (Option Route)} {n : Nat} (h : HasRoom t (n + 1)) : none ∈ t :=
  (none_mem_iff t).mpr (by have := h.2; omega)

theorem mem_fillFree {t : List (Option Route)} (rs : List Route) (h : HasRoom t rs.length) (x : Route) :
    some x ∈ fillFree rs t ↔ x ∈ rs ∨ some x ∈ t := by
  induction rs generalizing t with
  | nil => simp [fillFree_nil]
  | cons r rest ih =>
    rw [fillFree_cons, ih (h.fill r), mem_fillFree_one h.room, List.mem_cons]
    tauto

/-- Routes that a change leaves as they are may be filled in before it or after it. -/
theorem fillFree_map {rs : List Route} {g : Route → Route} (fixed : ∀ r ∈ rs, g r = r) (t : List (Option Route)) :
    fillFree rs (t.map (Option.map g)) = (fillFree rs t).map (Option.map g) := by
  induction t generalizing rs with
  | nil => cases rs <;> simp [fillFree]
  | cons entry rest ih =>
    rcases rs with _ | ⟨r, rs⟩
    · rw [fillFree_nil, fillFree_nil]
    obtain ⟨first, others⟩ := List.forall_mem_cons.mp fixed
    rcases entry with _ | x
    · simp [fillFree, ih others, first]
    · simp [fillFree, ih fixed]

/-! ### Arming (R87) -/

/-- A route as an arming inserts it. -/
def armedRoute (binding : Binding) (x : RouteUse × Nat) : Route := .fresh .a x.2 x.1 .armed .change binding

/-- Insertions of present routes, one after another. -/
def insertAll (binding : Binding) : List (RouteUse × Nat) → RouteTable → Option RouteTable
  | [], t => some t
  | x :: rest, t => (t.insertArmed x.2 x.1 binding).bind (insertAll binding rest)

/-- The present routes that a choice asks for, in the order of R87. -/
def LaneStreams.present (x : LaneStreams) : List (RouteUse × Nat) :=
  (x.video.map fun n => (RouteUse.video, n)).toList ++ (x.audio.map fun n => (RouteUse.audio, n)).toList
    ++ (x.data.map fun n => (RouteUse.data, n)).toList

theorem insertAll_append (binding : Binding) (xs ys : List (RouteUse × Nat)) (t : RouteTable) :
    insertAll binding (xs ++ ys) t = (insertAll binding xs t).bind (insertAll binding ys) := by
  induction xs generalizing t with
  | nil => rfl
  | cons x rest ih =>
    rw [List.cons_append, insertAll, insertAll, Option.bind_assoc]
    exact congrArg _ (funext ih)

theorem insertChosen_eq (use : RouteUse) (binding : Binding) (stream : Option Nat) (t : RouteTable) :
    insertChosen use binding stream t = insertAll binding (stream.map fun n => (use, n)).toList t := by
  cases stream with
  | none => rfl
  | some n => exact (Option.bind_fun_some _).symm

theorem armedTable_eq (m : ProgMap) (streams : LaneStreams) (t : RouteTable) : armedTable m streams t =
    (insertAll (if m.keyStream.isSome then .arming else .none) streams.present t).bind
      (insertChosen (.sections [.key]) .none m.keyStream) := by
  rw [armedTable, LaneStreams.present]
  simp only [insertAll_append, Option.bind_assoc, insertChosen_eq .video, insertChosen_eq .audio, insertChosen_eq .data]

/-- An insertion of a present route on a stream with an ARMED route is refused (R15). -/
theorem insertArmed_of_taken {t : RouteTable} {stream : Nat} {use : RouteUse} {binding : Binding} (taken : ArmedAt t stream)
    (lane : ∀ classes, use ≠ .sections classes) : t.insertArmed stream use binding = none := by
  obtain ⟨k, found⟩ := Option.isSome_iff_exists.mp ((find_armedAt_iff t stream).mpr taken)
  unfold RouteTable.insertArmed
  rw [found]
  split
  · exact absurd rfl (lane _)
  · rfl
  · rename_i no
    simp at no

theorem insertArmed_of_free {t : RouteTable} {stream : Nat} (use : RouteUse) (binding : Binding) {n : Nat} (free : ¬ ArmedAt t stream)
    (room : HasRoom t (n + 1)) : t.insertArmed stream use binding = some (fillFree [armedRoute binding (use, stream)] t) := by
  refine insertArmed_of_room (fun r listed at_ => free ⟨r, listed, at_⟩) ?_ room.room
  have quota := room.1
  rw [RouteTable.owned]
  omega

theorem armedAt_fill {t : List (Option Route)} {n : Nat} (room : HasRoom t (n + 1)) (binding : Binding) (x : RouteUse × Nat)
    (stream : Nat) : ArmedAt (fillFree [armedRoute binding x] t) stream ↔ stream = x.2 ∨ ArmedAt t stream := by
  constructor
  · rintro ⟨r, listed, port, rfl, state⟩
    rcases (mem_fillFree_one room.room _ _).mp listed with rfl | old
    · exact .inl rfl
    · exact .inr ⟨r, old, port, rfl, state⟩
  · rintro (rfl | ⟨r, old, at_⟩)
    · exact ⟨_, (mem_fillFree_one room.room _ _).mpr (.inl rfl), rfl, rfl, rfl⟩
    · exact ⟨r, (mem_fillFree_one room.room _ _).mpr (.inr old), at_⟩

/-- Present routes are inserted where no stream of theirs is taken, by another of them or by an ARMED route (R15). -/
theorem insertAll_spec (binding : Binding) (xs : List (RouteUse × Nat)) (lanes : ∀ x ∈ xs, ∀ classes, x.1 ≠ .sections classes)
    {t : RouteTable} (room : HasRoom t xs.length) :
    ((xs.map Prod.snd).Nodup ∧ (∀ x ∈ xs, ¬ ArmedAt t x.2) →
      insertAll binding xs t = some (fillFree (xs.map (armedRoute binding)) t))
    ∧ (¬ ((xs.map Prod.snd).Nodup ∧ ∀ x ∈ xs, ¬ ArmedAt t x.2) → insertAll binding xs t = none) := by
  induction xs generalizing t with
  | nil => exact ⟨fun _ => by rw [insertAll, List.map_nil, fillFree_nil], fun no => absurd ⟨List.nodup_nil, by simp⟩ no⟩
  | cons x rest ih =>
    obtain ⟨lane, lanes⟩ := List.forall_mem_cons.mp lanes
    rw [List.map_cons, List.nodup_cons, List.forall_mem_cons, insertAll]
    by_cases taken : ArmedAt t x.2
    · rw [insertArmed_of_taken taken lane]
      exact ⟨fun ⟨_, free, _⟩ => absurd taken free, fun _ => rfl⟩
    · rw [insertArmed_of_free x.1 binding taken room, Option.bind_some]
      obtain ⟨good, bad⟩ := ih lanes (room.fill (armedRoute binding x))
      have same : ((rest.map Prod.snd).Nodup ∧ ∀ y ∈ rest, ¬ ArmedAt (fillFree [armedRoute binding x] t) y.2) ↔
          ((x.2 ∉ rest.map Prod.snd ∧ (rest.map Prod.snd).Nodup) ∧ ¬ ArmedAt t x.2 ∧ ∀ y ∈ rest, ¬ ArmedAt t y.2) := by
        simp only [armedAt_fill room, not_or, List.mem_map, not_exists, not_and]
        constructor
        · rintro ⟨distinct, others⟩
          exact ⟨⟨fun y hy same => (others y hy).1 same, distinct⟩, taken, fun y hy => (others y hy).2⟩
        · rintro ⟨⟨apart, distinct⟩, -, others⟩
          exact ⟨distinct, fun y hy => ⟨apart y hy, others y hy⟩⟩
      refine ⟨fun yes => ?_, fun no => bad fun yes => no (same.mp yes)⟩
      refine (good (same.mpr yes)).trans ?_
      rw [← fillFree_cons, List.map_cons]

/-! ### The table of an arming, its map route alone ARMED (R15, R87) -/

/-- Setting the entry of the one route that a test finds is changing every route of the test. -/
theorem setAt_eq_map {t : RouteTable} {p : Route → Bool} (one : t.countP (fun e => e.any p) ≤ 1) {k : Nat} (found : t.find p = some k)
    (f : Route → Route) : setAt t k ((t.route k).map f) = t.map (Option.map fun r => if p r = true then f r else r) := by
  induction t generalizing k with
  | nil => simp [RouteTable.find, indexOf] at found
  | cons entry rest ih =>
    rw [List.countP_cons] at one
    rw [RouteTable.find, indexOf, List.findIdx?_cons] at found
    by_cases here : entry.any p = true
    · rw [if_pos here] at found one
      obtain rfl := Option.some.inj found
      obtain ⟨r, rfl, holds⟩ := (Option.any_eq_true _ _).mp here
      have others : ∀ e ∈ rest, (Option.map fun r => if p r = true then f r else r) e = e := by
        have zero : rest.countP (fun e => e.any p) = 0 := by omega
        intro e he
        have no := List.countP_eq_zero.mp zero e he
        rcases e with _ | x
        · rfl
        · rw [Option.any_some] at no
          rw [Option.map_some, if_neg no]
      rw [List.map_cons, Option.map_some, if_pos holds, List.map_congr_left others, List.map_id']
      rfl
    · rw [if_neg here] at found one
      obtain ⟨j, later, rfl⟩ := Option.map_eq_some_iff.mp found
      have moved := ih one later
      have kept : (Option.map fun r => if p r = true then f r else r) entry = entry := by
        rcases entry with _ | x
        · rfl
        · rw [Option.any_some] at here
          rw [Option.map_some, if_neg here]
      rw [List.map_cons, kept, ← moved]
      rfl

theorem present_lanes (x : LaneStreams) : ∀ y ∈ x.present, ∀ classes, y.1 ≠ .sections classes := by
  intro y hy classes
  simp only [LaneStreams.present, List.mem_append, Option.mem_toList, Option.map_eq_some_iff] at hy
  rcases hy with (⟨_, _, rfl⟩ | ⟨_, _, rfl⟩) | ⟨_, _, rfl⟩ <;> simp

theorem length_present (x : LaneStreams) : x.present.length ≤ 3 := by
  rcases x with ⟨video, audio, data⟩
  cases video <;> cases audio <;> cases data <;> simp [LaneStreams.present]

/-- A table in which the change's map route alone is ARMED (R86). -/
structure MapRouteAlone (t : RouteTable) (stream : Nat) : Prop where
  one : t.countP (fun e => e.any fun r => r.state == .armed) = 1
  only : ∀ r, some r ∈ t → r.state = .armed → r.port = .a ∧ r.stream = stream ∧ r.owner = .change
    ∧ r.binding = .none ∧ r.use = .sections [.map, .rating]

namespace MapRouteAlone

variable {t : RouteTable} {stream : Nat}

theorem armedAt_iff (h : MapRouteAlone t stream) (n : Nat) : ArmedAt t n ↔ n = stream := by
  constructor
  · rintro ⟨r, listed, -, rfl, armed⟩
    exact (h.only r listed armed).2.1
  · rintro rfl
    obtain ⟨e, listed, armed⟩ := List.countP_pos_iff.mp (show 0 < t.countP _ from h.one ▸ Nat.one_pos)
    obtain ⟨r, rfl, armed⟩ := (Option.any_eq_true _ _).mp armed
    obtain ⟨port, at_, -⟩ := h.only r listed (by simpa using armed)
    exact ⟨r, listed, port, at_, by simpa using armed⟩

/-- The present routes' insertions (R87). -/
theorem insertAll_present (h : MapRouteAlone t stream) (room : HasRoom t 4) (x : LaneStreams) (binding : Binding) :
    ((x.present.map Prod.snd).Nodup ∧ stream ∉ x.present.map Prod.snd →
      insertAll binding x.present t = some (fillFree (x.present.map (armedRoute binding)) t))
    ∧ (¬ ((x.present.map Prod.snd).Nodup ∧ stream ∉ x.present.map Prod.snd) → insertAll binding x.present t = none) := by
  have few := length_present x
  have enough : HasRoom t x.present.length := ⟨by have := room.1; omega, by have := room.2; omega⟩
  have same : (∀ y ∈ x.present, ¬ ArmedAt t y.2) ↔ stream ∉ x.present.map Prod.snd := by
    simp only [h.armedAt_iff, List.mem_map, not_exists, not_and]
  rw [← same]
  exact insertAll_spec binding x.present (present_lanes x) enough

/-- The ARMED routes of the table with the present routes in it. -/
theorem armedAt_filled (h : MapRouteAlone t stream) {xs : List (RouteUse × Nat)} (room : HasRoom t xs.length) (binding : Binding)
    (n : Nat) : ArmedAt (fillFree (xs.map (armedRoute binding)) t) n ↔ n ∈ xs.map Prod.snd ∨ n = stream := by
  have room : HasRoom t (xs.map (armedRoute binding)).length := by rwa [List.length_map]
  rw [← h.armedAt_iff]
  constructor
  · rintro ⟨r, listed, port, rfl, armed⟩
    rcases (mem_fillFree _ room r).mp listed with new | old
    · obtain ⟨x, hx, rfl⟩ := List.mem_map.mp new
      exact .inl (List.mem_map.mpr ⟨x, hx, rfl⟩)
    · exact .inr ⟨r, old, port, rfl, armed⟩
  · rintro (new | ⟨r, old, at_⟩)
    · obtain ⟨x, hx, rfl⟩ := List.mem_map.mp new
      exact ⟨_, (mem_fillFree _ room _).mpr (.inl (List.mem_map.mpr ⟨x, hx, rfl⟩)), rfl, rfl, rfl⟩
    · exact ⟨r, (mem_fillFree _ room r).mpr (.inr old), at_⟩

/-- A key stream that a present route holds is refused (R15). -/
theorem insertKey_of_present (h : MapRouteAlone t stream) {xs : List (RouteUse × Nat)} (room : HasRoom t xs.length)
    (lanes : ∀ x ∈ xs, ∀ classes, x.1 ≠ .sections classes) (binding : Binding) {key : Nat} (held : key ∈ xs.map Prod.snd)
    (other : key ≠ stream) :
    RouteTable.insertArmed (fillFree (xs.map (armedRoute binding)) t) key (.sections [.key]) .none = none := by
  obtain ⟨k, found⟩ := Option.isSome_iff_exists.mp
    ((find_armedAt_iff _ key).mpr ((h.armedAt_filled room binding key).mpr (.inl held)))
  obtain ⟨r, at_, test⟩ := RouteTable.find_eq_some found
  obtain ⟨port, here, armed⟩ := (isAt_iff _ _ _ _).mp test
  have lane : r.isSections = false := by
    rcases (mem_fillFree _ (by rwa [List.length_map]) r).mp (List.mem_of_getElem? at_) with new | old
    · obtain ⟨x, hx, rfl⟩ := List.mem_map.mp new
      have use := lanes x hx
      rcases x with ⟨use_, n⟩
      cases use_ <;> first
        | rfl
        | exact absurd rfl (use _)
    · exact absurd (here.symm.trans (h.only r old armed).2.1) other
  unfold RouteTable.insertArmed
  rw [found]
  dsimp only
  rw [RouteTable.route, at_]
  simp [lane]

/-- A key stream that is the map stream adds its class to the map route (R15). -/
theorem insertKey_of_map (h : MapRouteAlone t stream) {xs : List (RouteUse × Nat)} (room : HasRoom t xs.length) (binding : Binding)
    (free : stream ∉ xs.map Prod.snd) :
    RouteTable.insertArmed (fillFree (xs.map (armedRoute binding)) t) stream (.sections [.key]) .none
      = some (fillFree (xs.map (armedRoute binding)) (t.map (Option.map fun r =>
          if r.state = .armed then { r with use := .sections [.map, .key, .rating] } else r))) := by
  have room' : HasRoom t (xs.map (armedRoute binding)).length := by rwa [List.length_map]
  obtain ⟨k, found⟩ := Option.isSome_iff_exists.mp
    ((find_armedAt_iff _ stream).mpr ((h.armedAt_filled room binding stream).mpr (.inr rfl)))
  obtain ⟨r, at_, test⟩ := RouteTable.find_eq_some found
  obtain ⟨port, here, armed⟩ := (isAt_iff _ _ _ _).mp test
  have apart : ∀ y ∈ xs.map (armedRoute binding), ¬ Route.isAt .a stream .armed y = true := by
    intro y new at_
    obtain ⟨x, hx, rfl⟩ := List.mem_map.mp new
    exact free (List.mem_map.mpr ⟨x, hx, ((isAt_iff _ _ _ _).mp at_).2.1⟩)
  have old : some r ∈ t := by
    rcases (mem_fillFree _ room' r).mp (List.mem_of_getElem? at_) with new | old
    · exact absurd test (apart r new)
    · exact old
  obtain ⟨-, -, owner, unbound, use⟩ := h.only r old armed
  have one : (fillFree (xs.map (armedRoute binding)) t).countP (fun e => e.any (Route.isAt .a stream .armed)) ≤ 1 := by
    have filled : ∀ (rs : List Route) (t : RouteTable), HasRoom t rs.length → (∀ y ∈ rs, ¬ Route.isAt .a stream .armed y = true) →
        (fillFree rs t).countP (fun e => e.any (Route.isAt .a stream .armed)) = t.countP fun e => e.any (Route.isAt .a stream .armed) := by
      intro rs
      induction rs with
      | nil => intro t _ _; rw [fillFree_nil]
      | cons y rest ih =>
        intro t room apart
        obtain ⟨first, apart⟩ := List.forall_mem_cons.mp apart
        have here := countP_fillFree_one room.room y (p := fun e => e.any (Route.isAt .a stream .armed))
        rw [fillFree_cons, ih _ (room.fill y) apart]
        simpa [first] using here
    rw [filled _ t room' apart, ← h.one]
    refine List.countP_mono_left fun e _ at_ => ?_
    obtain ⟨y, rfl, at_⟩ := (Option.any_eq_true _ _).mp at_
    simpa using ((isAt_iff _ _ _ _).mp at_).2.2
  have change : ∀ e ∈ t, e.map (fun y => if Route.isAt .a stream .armed y = true then y.addClasses [.key] .none else y)
      = e.map fun y => if y.state = .armed then { y with use := .sections [.map, .key, .rating] } else y := by
    rintro (_ | y) listed
    · rfl
    rw [Option.map_some, Option.map_some]
    by_cases standing : y.state = .armed
    · obtain ⟨port, at_, -, -, use⟩ := h.only y listed standing
      rw [if_pos ((isAt_iff _ _ _ _).mpr ⟨port, at_, standing⟩), if_pos standing, Route.addClasses, use]
      rfl
    · rw [if_neg fun at_ => standing ((isAt_iff _ _ _ _).mp at_).2.2, if_neg standing]
  have route : RouteTable.route (fillFree (xs.map (armedRoute binding)) t) k = some r := by
    rw [RouteTable.route, at_]
    rfl
  have inserted : RouteTable.insertArmed (fillFree (xs.map (armedRoute binding)) t) stream (.sections [.key]) .none
      = some (setAt (fillFree (xs.map (armedRoute binding)) t) k
          ((RouteTable.route (fillFree (xs.map (armedRoute binding)) t) k).map fun y => y.addClasses [.key] .none)) := by
    unfold RouteTable.insertArmed
    rw [found]
    dsimp only
    rw [route]
    exact if_pos (by simp [Route.isSections, use, owner])
  rw [inserted, setAt_eq_map one found, ← fillFree_map fun y hy => if_neg (apart y hy), List.map_congr_left change]

end MapRouteAlone

end Sys2Proof.Machine
end

section
/-! MAP sections: a change armed, and a presentation updated (R85, R87, R91, R96). -/

namespace Sys2Proof.Machine

/-! ### The table of an arming -/

/-- A route of owner CHANGE on Port A, its counts fresh. -/
def onPortA (stream : Nat) (use : RouteUse) (state : RouteState) (binding : Binding) (ctx : Option Context) : Route :=
  { port := .a, stream, use, state, owner := .change, binding, expected := none, discontinuities := 0, cells := 0, ctx }

theorem fresh_onPortA {use : RouteUse} (lane : ∀ classes, use ≠ .sections classes) (stream : Nat) (state : RouteState)
    (binding : Binding) : Route.fresh .a stream use state .change binding = onPortA stream use state binding none := by
  cases use with
  | sections classes => exact absurd rfl (lane classes)
  | _ => rfl

/-- The routes that an arming asks for (R87). -/
def ProgMap.wanted (m : ProgMap) (x : LaneStreams) (mapStream : Nat) : List Route :=
  (x.present.map fun y => onPortA y.2 y.1 .armed (if m.keyStream = none then .none else .arming) none)
    ++ (m.keyStream.toList.filter fun key => key != mapStream).map fun key =>
        onPortA key (.sections [.key]) .armed .none (some .fresh)

/-- The arming of a map, the change's map route alone ARMED before it (R15, R87). -/
theorem armedTable_spec {t : RouteTable} {mapStream : Nat} (alone : MapRouteAlone t mapStream) (room : HasRoom t 4) (m : ProgMap)
    (x : LaneStreams) :
    let refused := ¬ (x.present.map Prod.snd ++ m.keyStream.toList).Nodup ∨ mapStream ∈ x.present.map Prod.snd
    (refused → armedTable m x t = none)
    ∧ (¬ refused → armedTable m x t = some (fillFree (m.wanted x mapStream) (t.map (Option.map fun r =>
        if r.state = .armed ∧ m.keyStream = some mapStream then { r with use := .sections [.map, .key, .rating] } else r)))) := by
  obtain ⟨good, bad⟩ := alone.insertAll_present room x (if m.keyStream.isSome then .arming else .none)
  have few := length_present x
  have enough : HasRoom t x.present.length := ⟨by have := room.1; omega, by have := room.2; omega⟩
  have routes (b : Binding) : x.present.map (armedRoute b) = x.present.map fun y => onPortA y.2 y.1 .armed b none :=
    List.map_congr_left fun y hy => fresh_onPortA (present_lanes x y hy) _ _ _
  have bound : (if m.keyStream.isSome then Binding.arming else Binding.none) = if m.keyStream = none then .none else .arming := by
    cases m.keyStream <;> rfl
  have kept : t.map (Option.map fun r : Route => r) = t := by simp
  rw [armedTable_eq]
  simp only [ProgMap.wanted]
  by_cases apart : (x.present.map Prod.snd).Nodup ∧ mapStream ∉ x.present.map Prod.snd
  · rw [good apart, Option.bind_some, ← routes, ← bound]
    obtain ⟨distinct, free⟩ := apart
    rcases keyed : m.keyStream with _ | key
    · simp only [Option.toList_none, List.append_nil, List.filter_nil, List.map_nil, reduceCtorEq, and_false, if_false, kept]
      exact ⟨fun no => absurd no (by simp [distinct, free]), fun _ => rfl⟩
    rw [insertChosen]
    by_cases same : key = mapStream
    · subst same
      rw [alone.insertKey_of_map enough _ free]
      refine ⟨fun no => absurd no ?_, fun _ => ?_⟩
      · simp [List.nodup_append, distinct, free]
        rintro a hy
        exact free (List.mem_map.mpr ⟨_, hy, rfl⟩)
      · simp
    · have others : (fun r : Route => if r.state = .armed ∧ some key = some mapStream
          then { r with use := .sections [.map, .key, .rating] } else r) = fun r => r := by
        funext r
        rw [if_neg fun both => same (Option.some.inj both.2)]
      have alone_ : [key].filter (fun k => k != mapStream) = [key] := by simp [same]
      rw [others, kept, Option.toList_some, alone_]
      by_cases held : key ∈ x.present.map Prod.snd
      · rw [alone.insertKey_of_present enough (present_lanes x) _ held same]
        refine ⟨fun _ => rfl, fun no => absurd (Or.inl fun nodup => ?_) no⟩
        exact List.disjoint_of_nodup_append nodup held (by simp)
      · have absent : ¬ ArmedAt (fillFree (x.present.map (armedRoute (if (some key).isSome then .arming else .none))) t) key := by
          rw [alone.armedAt_filled enough]
          exact fun no => no.elim held same
        have left_ : HasRoom (fillFree (x.present.map (armedRoute (if (some key).isSome then .arming else .none))) t) (0 + 1) :=
          HasRoom.fillAll _ ⟨by rw [List.length_map]; have := room.1; omega, by rw [List.length_map]; have := room.2; omega⟩
        rw [insertArmed_of_free _ _ absent left_, ← fillFree_append]
        refine ⟨fun no => absurd no ?_, fun _ => rfl⟩
        rw [not_or, not_not, List.nodup_append]
        exact ⟨⟨distinct, by simp, fun a ha b hb equal => held (by
          obtain rfl : b = key := by simpa using hb
          exact equal ▸ ha)⟩, free⟩
  · rw [bad apart]
    refine ⟨fun _ => rfl, fun no => absurd ?_ no⟩
    by_contra fine
    rw [not_or, not_not] at fine
    exact apart ⟨fine.1.of_append_left, fine.2⟩

/-! ### A live update (R96) -/

theorem insertLive_of_room {t : RouteTable} {n : Nat} (room : HasRoom t (n + 1)) (stream : Nat) (use : RouteUse) (binding : Binding) :
    t.insertLive stream use binding = fillFree [.fresh .a stream use .live .change binding] t := by
  have quota := room.1
  rw [RouteTable.insertLive, if_neg (by rw [RouteTable.owned]; omega), fillFree_one _ room.room, Option.getD_some]

/-- The route inserted for a lane that had no component (R96). -/
def laneInserted (binding : Binding) (before after : LaneStreams) (u : RouteUse) : Option Route :=
  if before.of u = none then (after.of u).map fun n => onPortA n u .live binding none else none

theorem insertLanes_eq {t : RouteTable} (keyed : Bool) (before after : LaneStreams)
    (room : HasRoom t (presentUses.filterMap (laneInserted (if keyed then .active else .none) before after)).length) :
    insertLanes keyed before after t
      = fillFree (presentUses.filterMap (laneInserted (if keyed then .active else .none) before after)) t := by
  have lanes : ∀ u ∈ presentUses, ∀ classes, u ≠ .sections classes := by simp [presentUses]
  rw [insertLanes]
  generalize presentUses = us at room lanes
  induction us generalizing t with
  | nil => rw [List.foldl_nil, List.filterMap_nil, fillFree_nil]
  | cons u rest ih =>
    obtain ⟨lane, lanes⟩ := List.forall_mem_cons.mp lanes
    rw [List.foldl_cons]
    rcases inserted : laneInserted (if keyed then .active else .none) before after u with _ | r
    · rw [List.filterMap_cons_none inserted] at room ⊢
      have same : (match before.of u, after.of u with
          | none, some n => t.insertLive n u (if keyed then .active else .none)
          | _, _ => t) = t := by
        split
        · rename_i n was is
          simp [laneInserted, was, is] at inserted
        · rfl
      rw [← ih (t := t) room lanes]
      exact congrArg (fun t => rest.foldl _ t) same
    · rw [List.filterMap_cons_some inserted] at room ⊢
      rw [laneInserted] at inserted
      split at inserted
      · rename_i was
        obtain ⟨n, is, rfl⟩ := Option.map_eq_some_iff.mp inserted
        rw [fillFree_cons, ← ih (t := fillFree [_] t) (room.fill _) lanes]
        refine congrArg (fun t => rest.foldl _ t) ?_
        rw [was, is]
        exact (insertLive_of_room room n u _).trans (by rw [fresh_onPortA lane])
      · simp at inserted

/-- Whether a LIVE route of owner CHANGE feeds a lane whose stream changes (R96). -/
def Route.moves (before after : LaneStreams) (r : Route) : Bool :=
  r.state == .live && r.owner == .change && r.isPresent && before.of r.use != after.of r.use

theorem moves_eq (before after : LaneStreams) (r : Route) : r.moves before after = (r.liveChange && r.changesLane before after) := by
  have present : r.isPresent = presentUses.contains r.use := by
    rw [Route.isPresent]
    cases r.use <;> rfl
  rw [Route.moves, Route.liveChange, Route.changesLane, present, Bool.and_assoc, Bool.and_assoc]

theorem laneClash_iff (t : RouteTable) (before after : LaneStreams) : laneClash t before after = true ↔
    ¬ (newStreams before after).Nodup ∨ ∃ r, some r ∈ t ∧ r.state = .live ∧ r.owner = .change ∧ r.port = .a
      ∧ r.stream ∈ newStreams before after ∧ r.moves before after = false := by
  rw [laneClash, Bool.or_eq_true, RouteTable.find_isSome_iff]
  refine or_congr (by simp) (exists_congr fun r => and_congr_right fun _ => ?_)
  rw [moves_eq]
  simp only [Bool.and_eq_true, beq_iff_eq, Bool.not_eq_true', List.contains_iff_mem]
  constructor
  · rintro ⟨⟨⟨live, port⟩, held⟩, stays⟩
    have parts := live
    simp only [Route.liveChange, Bool.and_eq_true, beq_iff_eq] at parts
    exact ⟨parts.1, parts.2, port, held, by rw [live, stays]; rfl⟩
  · rintro ⟨state, owner, port, held, stays⟩
    have live : r.liveChange = true := by simp [Route.liveChange, state, owner]
    rw [live, Bool.true_and] at stays
    exact ⟨⟨⟨live, port⟩, held⟩, stays⟩

/-- The present routes rebound or freed (R96). -/
theorem rebindLanes_moves (before after : LaneStreams) (t : RouteTable) : rebindLanes before after t =
    t.map fun e => e.bind fun r => if r.moves before after = true
      then (after.of r.use).map fun n => { r with stream := n, expected := none, discontinuities := 0, cells := 0 } else some r := by
  simp only [moves_eq]
  rfl

/-! ### Which of the two a section is for (R85) -/

theorem changeOfMap_of_waiting {x : Section} {s : State} {c : Change} (waiting : s.cce.engine = .waitMap)
    (running : s.cce.change = some c) (port : x.port = .a) (stream : x.stream = c.mapStream) (service : x.key = c.service) :
    changeOfMap x s = some c := by
  rw [changeOfMap, if_pos waiting, running, Option.filter_some, if_pos (by simp [port, stream, service])]

theorem changeOfMap_of_other {x : Section} {s : State} (other : ∀ c, s.cce.engine = .waitMap → s.cce.change = some c →
    ¬ (x.port = .a ∧ x.stream = c.mapStream ∧ x.key = c.service)) : changeOfMap x s = none := by
  rw [changeOfMap]
  split
  · rename_i waiting
    rw [Option.filter_eq_none_iff]
    intro c running
    have no := other c waiting running
    simp only [Bool.and_eq_true, beq_iff_eq, and_assoc]
    exact no
  · rfl

theorem presentationOfMap_of_presented {x : Section} {s : State} {p : Presentation} (presented : s.cce.presented = some p)
    (port : x.port = .a) (stream : x.stream = p.mapStream) (service : x.key = p.service) (newer : x.version ≠ p.map.version) :
    presentationOfMap x s = some p := by
  rw [presentationOfMap, presented, Option.filter_some, if_pos (by simp [port, stream, service, newer])]

theorem presentationOfMap_of_other {x : Section} {s : State} (other : ∀ p, s.cce.presented = some p →
    ¬ (x.port = .a ∧ x.stream = p.mapStream ∧ x.key = p.service ∧ x.version ≠ p.map.version)) : presentationOfMap x s = none := by
  rw [presentationOfMap, Option.filter_eq_none_iff]
  intro p presented
  have no := other p presented
  simp only [Bool.and_eq_true, beq_iff_eq, bne_iff_ne, and_assoc]
  exact no

theorem applyMapSection_of_change {x : Section} {s : State} {c : Change} (mine : changeOfMap x s = some c) :
    (mapBody x.version x.body = none → applyMapSection x s = countBadMap s)
    ∧ ∀ m, mapBody x.version x.body = some m → applyMapSection x s = armChange c m s := by
  rw [applyMapSection, mine]
  exact ⟨fun bad => by rw [bad], fun m good => by rw [good]⟩

theorem applyMapSection_of_presentation {x : Section} {s : State} {p : Presentation} (none_ : changeOfMap x s = none)
    (mine : presentationOfMap x s = some p) : (mapBody x.version x.body = none → applyMapSection x s = countBadMap s)
    ∧ ∀ m, mapBody x.version x.body = some m → applyMapSection x s = liveUpdate p m s := by
  rw [applyMapSection, none_, mine]
  exact ⟨fun bad => by rw [bad], fun m good => by rw [good]⟩

/-- The components chosen, by the first of a kind and the audio preference (R87). -/
theorem choose_eq (m : ProgMap) (audio : Option Lang) : m.choose audio =
    { video := (m.components.find? fun c => c.kind == .video).map Component.stream
      data := (m.components.find? fun c => c.kind == .data).map Component.stream
      audio := ((m.components.find? fun c => c.kind == .audio && c.lang.any fun l => audio.any l.same).map Component.stream).or
        ((m.components.find? fun c => c.kind == .audio).map Component.stream) } := by
  rw [ProgMap.choose, audioFor_eq]
  rfl

/-! ### An arming (R87) -/

theorem armChange_of_refused {c : Change} {m : ProgMap} {s : State} (refused : armedTable m (m.choose c.audio) s.routes = none) :
    armChange c m s = endChange .noRoute s := by
  rw [armChange, refused]

theorem armChange_of_key {c : Change} {m : ProgMap} {s : State} {routes : RouteTable} {key : Nat}
    (armed : armedTable m (m.choose c.audio) s.routes = some routes) (keyed : m.keyStream = some key) :
    armChange c m s = claimArming c.service key (enter .waitKey { c with map := some m, parity := none, phaseStart := s.tmb.localTime }
      { s with routes }) := by
  rw [armChange, armed, keyed]

theorem armChange_of_clear {c : Change} {m : ProgMap} {s : State} {routes : RouteTable}
    (armed : armedTable m (m.choose c.audio) s.routes = some routes) (keyed : m.keyStream = none) :
    armChange c m s = enterWaitSplice { c with map := some m, parity := none, phaseStart := s.tmb.localTime } { s with routes } := by
  rw [armChange, armed, keyed]

/-! ### A live update of the part (R96) -/

/-- The table that an update leaves, the host routes not yet displaced (R96). -/
def updatedTable (p : Presentation) (after : LaneStreams) (t : RouteTable) : RouteTable :=
  insertLanes p.map.keyStream.isSome p.live after (rebindLanes p.live after t)

theorem liveUpdate_of_clash {p : Presentation} {m : ProgMap} {s : State} (clash : laneClash s.routes p.live (m.choose p.audio) = true) :
    liveUpdate p m s = countBadMap s := if_pos clash

theorem liveUpdate_of_fit {p : Presentation} {m : ProgMap} {s : State}
    (fit : ¬ laneClash s.routes p.live (m.choose p.audio) = true) : liveUpdate p m s =
      emit (.mapChanged p.service m.version (m.choose p.audio) (m.keyStream != p.map.keyStream))
        (displaceHosts { s with
          routes := updatedTable p (m.choose p.audio) s.routes
          cce := { s.cce with presented := some { p with
            map := { m with keyStream := p.map.keyStream }, live := m.choose p.audio } } }) := if_neg fit

theorem insertLanes_same (keyed : Bool) (x : LaneStreams) (t : RouteTable) : insertLanes keyed x x t = t := by
  rw [insertLanes]
  induction presentUses generalizing t with
  | nil => rfl
  | cons u rest ih =>
    rw [List.foldl_cons, ih]
    split
    · rename_i n was is
      simp [was] at is
    · rfl

/-- An update that chooses the streams already LIVE touches no route. -/
theorem updatedTable_same (p : Presentation) (t : RouteTable) : updatedTable p p.live t = t := by
  have still : ∀ e ∈ t, (e.bind fun r => if r.moves p.live p.live = true
      then (p.live.of r.use).map fun n => { r with stream := n, expected := none, discontinuities := 0, cells := 0 } else some r) = e := by
    intro e _
    have no (r : Route) : r.moves p.live p.live = false := by simp [Route.moves]
    rcases e with _ | r
    · rfl
    · rw [Option.bind_some, no]
      rfl
  rw [updatedTable, insertLanes_same, rebindLanes_moves, List.map_congr_left still, List.map_id']

theorem displaceHosts_hosts (s : State) : displaceHosts s =
    emitAll ((hostsUnder .live s.routes).map fun h => .routeDisplaced h.port h.stream)
      { s with routes := RouteTable.free s.routes fun r => (hostsUnder .live s.routes).contains r } := by
  rw [displaceHosts, displaced_eq]

/-- WAIT_SPLICE entered without an ARMED VIDEO route, no TUNE waiting. -/
theorem enterWaitSplice_of_calm {s : State} {c : Change} {m : ProgMap}
    (blank : ∀ r, some r ∈ s.routes → ¬ (r.state = .armed ∧ r.use = .video)) (mapped : c.map = some m)
    (unasked : s.cce.pendingTune = none) : enterWaitSplice c s =
      State.splicedTo (enter .waitSplice { c with phaseStart := s.tmb.localTime } s) { c with phaseStart := s.tmb.localTime } m .ok := by
  have calm : ({ s.cce with engine := .waitSplice, change := some { c with phaseStart := s.tmb.localTime }, pendingTune := none } : Cce)
      = { s.cce with engine := .waitSplice, change := some { c with phaseStart := s.tmb.localTime } } := by rw [← unasked]
  rw [enterWaitSplice_of_no_video blank mapped, enter, unasked, calm]
  rfl

/-- Settles O41: a section arms the change that waits for it, or else updates what is presented. -/
theorem mapSectionsArmTheChangeOrUpdateThePresentation : Obligations.MapSectionsArmTheChangeOrUpdateThePresentation := by
  refine ⟨fun version body => ?_, fun s x rest running front => ?_⟩
  · obtain ⟨bad, good⟩ := mapBody_spec version body
    refine ⟨bad, fun fine => ⟨_, good fine, by rw [List.length_map, List.length_range], fun k hk => ?_⟩⟩
    rw [List.getElem?_map, List.getElem?_range hk]
    rfl
  · intro s0 first chosen fresh onA
    have run : exec .mapSection s = .next (applyMapSection x s0) := by
      refine (whenRunning_of_running running _).trans ?_
      rw [consume_cons (c := .map) s applyMapSection front]
      rfl
    have choice (m : ProgMap) (audio : Option Lang) : m.choose audio = chosen m audio := choose_eq m audio
    rw [run]
    refine ⟨fun c waiting change unasked port stream service => ?_, fun p other presented port stream service newer => ?_,
      fun p m other presented port stream service newer parsed same calm => ?_, fun noChange noPresentation => ?_⟩
    · obtain ⟨bad, good⟩ := applyMapSection_of_change (changeOfMap_of_waiting (s := s0) waiting change port stream service)
      refine ⟨fun unparsed => by rw [bad unparsed]; rfl, fun m parsed => ?_⟩
      intro c'
      rw [good m parsed, ← choice]
      refine ⟨fun refused => ?_, fun routes key armed keyed => ?_, fun routes armed clear video => ?_,
        fun routes armed clear blank => ?_, fun one only quota free => ?_⟩
      · rw [armChange_of_refused (s := s0) refused]
        exact congrArg Host.Outcome.next (endChange_eq .noRoute change unasked)
      · rw [armChange_of_key (s := s0) armed keyed]
        rfl
      · rw [armChange_of_clear (s := s0) armed clear, enterWaitSplice_of_video _ video]
        rfl
      · refine ⟨_, ?_, splicedTo_spliced _ c' m .ok⟩
        rw [armChange_of_clear (s := s0) armed clear, enterWaitSplice_of_calm (s := { s0 with routes }) (m := m) blank rfl unasked]
        rfl
      · exact armedTable_spec ⟨one, only⟩ ⟨by omega, free⟩ m (m.choose c.audio)
    · intro bad
      obtain ⟨unread, good⟩ := applyMapSection_of_presentation
        (changeOfMap_of_other (s := s0) fun c waiting change mine => other c waiting change mine.2)
        (presentationOfMap_of_presented (s := s0) presented port stream service newer)
      refine ⟨fun unparsed => congrArg Host.Outcome.next (unread unparsed), fun m parsed => ?_⟩
      intro live moves newly clash moved inserted table gone
      have liveIs : m.choose p.audio = live := choice m p.audio
      have clashes : laneClash s0.routes p.live (m.choose p.audio) = true ↔ clash := by
        rw [liveIs]
        exact laneClash_iff s.routes p.live live
      refine ⟨fun yes => ?_, fun no quota free => ?_⟩
      · exact congrArg Host.Outcome.next ((good m parsed).trans (liveUpdate_of_clash (s := s0) (clashes.mpr yes)))
      · have bindings : (if p.map.keyStream.isSome then Binding.active else Binding.none)
            = if p.map.keyStream = none then .none else .active := by
          cases p.map.keyStream <;> rfl
        have laned : presentUses.filterMap (laneInserted (if p.map.keyStream.isSome then .active else .none) p.live live) = inserted := by
          rw [bindings]
          rfl
        have updated : updatedTable p live s.routes = table := by
          rw [updatedTable, rebindLanes_moves, insertLanes_eq _ _ _ (by rw [laned]; exact ⟨quota, free⟩), laned]
          rfl
        rw [good m parsed, liveUpdate_of_fit (s := s0) (fun yes => no (clashes.mp yes)), liveIs, show s0.routes = s.routes from rfl,
          updated]
        exact congrArg (fun u => Host.Outcome.next (emit _ u)) (displaceHosts_hosts _)
    · obtain ⟨-, good⟩ := applyMapSection_of_presentation
        (changeOfMap_of_other (s := s0) fun c waiting change mine => other c waiting change mine.2)
        (presentationOfMap_of_presented (s := s0) presented port stream service newer)
      have still : m.choose p.audio = p.live := (choice m p.audio).trans same
      have fit : ¬ laneClash s0.routes p.live (m.choose p.audio) = true := by
        rw [still, laneClash_iff]
        have nothing : newStreams p.live p.live = [] := by
          rw [newStreams, List.filterMap_eq_nil_iff]
          exact fun u _ => if_pos rfl
        simp [nothing]
      rw [good m parsed, liveUpdate_of_fit (s := s0) fit, still, updatedTable_same, displaceHosts_eq]
      dsimp only
      rw [show RouteTable.displaced s0.routes = [] from calm, emit_eq]
      have whole : RouteTable.free s0.routes (fun r => ([] : List Route).contains r) = s.routes := by
        rw [RouteTable.free]
        refine (List.map_congr_left fun e _ => ?_).trans (List.map_id' _)
        cases e <;> rfl
      rw [whole]
      exact ⟨_, rfl, by rw [← still], by rw [emit_eq]; rfl, rfl⟩
    · have nothing : applyMapSection x s0 = s0 := by
        rw [applyMapSection, changeOfMap_of_other (s := s0) noChange, presentationOfMap_of_other (s := s0) noPresentation]
      rw [nothing]

end Sys2Proof.Machine
end

section
/-! KEY sections: their bodies, the verdicts, and the two records that take them (R102 to R107, R111, R112, R127). -/

namespace Sys2Proof.Machine

/-! ### The body (R103, R188, R189) -/

theorem checkPasses_iff (body : List Byte) : checkPasses body = true ↔ 17 ≤ body.length
    ∧ Config.integrity (body.take (body.length - 16)) = BitVec.ofNat 128 (fieldAt body (body.length - 16) 16) := by
  rw [checkPasses, Bool.and_eq_true, decide_eq_true_iff, beq_iff_eq]
  refine and_congr_right fun long => ?_
  have whole : (body.drop (body.length - 16)).take 16 = body.drop (body.length - 16) :=
    List.take_of_length_le (by rw [List.length_drop]; omega)
  rw [fieldAt, whole]

theorem fieldAt_fields {body : List Byte} {stop offset n : Nat} (inside : offset + n ≤ stop) :
    fieldAt (body.take stop) offset n = fieldAt body offset n := by
  have cut := fieldAt_cut body (first := 0) inside
  rwa [List.drop_zero, Nat.zero_add] at cut

/-- The criteria of a body's fields (R103, R189). -/
theorem keyCriteria_eq_some_iff {body : List Byte} {stop : Nat} (short : stop ≤ body.length) (criteria : Criteria) (after : Nat) :
    (keyCriteria (body.take stop) = some (criteria, after) ∧ after ≤ stop) ↔
      let count := fieldAt body 2 1
      let tiers := (List.range count).map fun k => fieldAt body (3 + 2 * k) 2
      (fieldAt body 0 1 = 1 ∧ 1 ≤ count ∧ count ≤ 8 ∧ (∀ tier ∈ tiers, 1 ≤ tier ∧ tier ≤ 4095) ∧ tiers.Nodup
          ∧ after = 3 + 2 * count ∧ criteria = .tiers tiers ∧ after ≤ stop)
        ∨ (fieldAt body 0 1 = 2 ∧ 1 ≤ fieldAt body 4 2 ∧ after = 6 ∧ criteria = .event (fieldAt body 2 2) (fieldAt body 4 2)
          ∧ after ≤ stop) := by
  have length : (body.take stop).length = stop := by rw [List.length_take]; omega
  rcases Nat.lt_or_ge stop 3 with tiny | long
  · constructor
    · rintro ⟨parsed, within⟩
      exfalso
      rw [keyCriteria] at parsed
      split at parsed
      · simp [length, tiny] at parsed
      · simp [length, show stop < 6 by omega] at parsed
      · simp at parsed
    · rintro (⟨-, -, -, -, -, rfl, -, within⟩ | ⟨-, -, rfl, -, within⟩)
      · omega
      · omega
  have code : (byteAt (body.take stop) 0).toNat = fieldAt body 0 1 := by rw [toNat_byteAt, fieldAt_fields (by omega)]
  have count : (byteAt (body.take stop) 2).toNat = fieldAt body 2 1 := by rw [toNat_byteAt, fieldAt_fields (by omega)]
  by_cases tierList : fieldAt body 0 1 = 1
  · have unfolded : keyCriteria (body.take stop) = if 1 ≤ fieldAt body 2 1 ∧ fieldAt body 2 1 ≤ 8 ∧ 3 + 2 * fieldAt body 2 1 ≤ stop
          ∧ (∀ tier ∈ numbersAt (body.take stop) 3 (fieldAt body 2 1), 1 ≤ tier ∧ tier ≤ 4095)
          ∧ (numbersAt (body.take stop) 3 (fieldAt body 2 1)).Nodup
        then some (.tiers (numbersAt (body.take stop) 3 (fieldAt body 2 1)), 3 + 2 * fieldAt body 2 1) else none := by
      rw [keyCriteria, code, tierList]
      simp only [count, length]
      generalize numbersAt (body.take stop) 3 (fieldAt body 2 1) = tiers
      have allOk : tiers.all tierOk = true ↔ ∀ tier ∈ tiers, 1 ≤ tier ∧ tier ≤ 4095 := by
        simp only [List.all_eq_true, tierOk_iff]
      by_cases good : 1 ≤ fieldAt body 2 1 ∧ fieldAt body 2 1 ≤ 8 ∧ 3 + 2 * fieldAt body 2 1 ≤ stop
          ∧ (∀ tier ∈ tiers, 1 ≤ tier ∧ tier ≤ 4095) ∧ tiers.Nodup
      · rw [if_pos good, if_neg]
        obtain ⟨low, high, fits, ok, distinct⟩ := good
        rw [allOk.mpr ok, decide_eq_true distinct]
        simp only [Bool.or_eq_true, decide_eq_true_eq, Bool.not_true, Bool.false_eq_true, or_false]
        omega
      · rw [if_neg good, if_pos]
        simp only [Bool.or_eq_true, decide_eq_true_eq, Bool.not_eq_true', decide_eq_false_iff_not]
        by_contra fine
        simp only [not_or, not_not, Bool.not_eq_false] at fine
        exact good ⟨by omega, by omega, by omega, allOk.mp fine.1.2, fine.2⟩
    have inBody (fits : 3 + 2 * fieldAt body 2 1 ≤ stop) : numbersAt (body.take stop) 3 (fieldAt body 2 1)
        = (List.range (fieldAt body 2 1)).map fun k => fieldAt body (3 + 2 * k) 2 :=
      List.map_congr_left fun k hk => fieldAt_fields (by have := List.mem_range.mp hk; omega)
    rw [unfolded]
    constructor
    · rintro ⟨parsed, within⟩
      split at parsed
      · rename_i good
        obtain ⟨low, high, fits, ok, distinct⟩ := good
        rw [inBody fits] at parsed ok distinct
        obtain ⟨rfl, rfl⟩ := Prod.mk.inj (Option.some.inj parsed)
        exact .inl ⟨tierList, low, high, ok, distinct, rfl, rfl, within⟩
      · simp at parsed
    · rintro (⟨-, low, high, ok, distinct, rfl, rfl, within⟩ | ⟨event, -⟩)
      · rw [inBody within, if_pos ⟨low, high, within, ok, distinct⟩]
        exact ⟨rfl, within⟩
      · omega
  by_cases event : fieldAt body 0 1 = 2
  · have unfolded : keyCriteria (body.take stop) = if stop < 6 ∨ fieldAt (body.take stop) 4 2 = 0 then none
        else some (.event (fieldAt (body.take stop) 2 2) (fieldAt (body.take stop) 4 2), 6) := by
      rw [keyCriteria, code, event, length]
      simp only [Bool.or_eq_true, decide_eq_true_eq]
    rw [unfolded]
    constructor
    · rintro ⟨parsed, within⟩
      split at parsed
      · simp at parsed
      · rename_i good
        rw [not_or] at good
        rw [fieldAt_fields (by omega), fieldAt_fields (by omega)] at parsed
        rw [fieldAt_fields (by omega)] at good
        obtain ⟨rfl, rfl⟩ := Prod.mk.inj (Option.some.inj parsed)
        exact .inr ⟨event, by omega, rfl, rfl, within⟩
    · rintro (⟨no, -⟩ | ⟨-, priced, rfl, rfl, within⟩)
      · exact absurd no tierList
      · rw [fieldAt_fields (by omega), fieldAt_fields (by omega), if_neg (by omega)]
        exact ⟨rfl, within⟩
  · constructor
    · rintro ⟨parsed, -⟩
      rw [keyCriteria, code] at parsed
      split at parsed
      · rename_i is
        exact absurd is tierList
      · rename_i is
        exact absurd is event
      · simp at parsed
    · rintro (⟨is, -⟩ | ⟨is, -⟩)
      · exact absurd is tierList
      · exact absurd is event

/-- The slot that the parity byte of a KEY body names (R103). -/
def slotOf (parity : Nat) : Option Slot := if parity = 2 then some .even else if parity = 3 then some .odd else none

theorem slotOf_eq_some_iff (parity : Nat) (slot : Slot) :
    slotOf parity = some slot ↔ parity = 2 ∧ slot = .even ∨ parity = 3 ∧ slot = .odd := by
  rw [slotOf]
  split
  · rename_i even
    simp [even, eq_comm]
  split
  · rename_i odd
    simp [odd, eq_comm]
  · rename_i notEven notOdd
    simp [notEven, notOdd]

/-- A body's form, over its fields before the check value: its slot, its criteria, and room for the wrapped word after them
(R103). -/
theorem keyBody_of_fields {body fields : List Byte} (cut : body.take (body.length - 16) = fields) : keyBody body =
    (slotOf (fieldAt fields 1 1)).bind fun slot =>
      (keyCriteria fields).bind fun parsed =>
        if parsed.2 + 16 ≤ fields.length then
          some { criteria := parsed.1, slot, wrapped := BitVec.ofNat 128 (fieldAt fields parsed.2 16) }
        else none := by
  unfold keyBody
  rw [cut, ← toNat_byteAt]
  dsimp only
  generalize byteAt fields 1 = parity
  have evenSlot : (Parity.ofBits ((2#8).extractLsb' 0 2)).slot = some .even := by decide
  have oddSlot : (Parity.ofBits ((3#8).extractLsb' 0 2)).slot = some .odd := by decide
  have fits (after : Nat) (b : KeyBody) : (if fields.length < after + 16 then none else some b) = if after + 16 ≤ fields.length then some b else none := by
    by_cases inside : after + 16 ≤ fields.length
    · rw [if_neg (by omega), if_pos inside]
    · rw [if_pos (by omega), if_neg inside]
  rcases keyCriteria fields with _ | ⟨criteria, after⟩
  · simp only [Option.bind_none, Option.bind_fun_none]
    split
    · rename_i no
      simp at no
    · rfl
  · by_cases even : parity = 2#8
    · have named : slotOf parity.toNat = some .even := by rw [even]; rfl
      rw [named, even, evenSlot, Option.bind_some, Option.bind_some]
      dsimp only
      rw [if_pos (.inl rfl), fits]
    by_cases odd : parity = 3#8
    · have named : slotOf parity.toNat = some .odd := by rw [odd]; rfl
      rw [named, odd, oddSlot, Option.bind_some, Option.bind_some]
      dsimp only
      rw [if_pos (.inr rfl), fits]
    · have unnamed : slotOf parity.toNat = none := by
        rw [slotOf, if_neg fun is : parity.toNat = 2 => even (BitVec.eq_of_toNat_eq is),
          if_neg fun is : parity.toNat = 3 => odd (BitVec.eq_of_toNat_eq is)]
      rw [unnamed, Option.bind_none]
      split
      · exact if_neg fun is => is.elim even odd
      · rfl

/-- A body that reads as key fields, written out at their offsets (R103, R189). -/
theorem keyBody_eq_some_iff (body : List Byte) (b : KeyBody) :
    let stop := body.length - 16
    let count := fieldAt body 2 1
    let tiers := (List.range count).map fun k => fieldAt body (3 + 2 * k) 2
    keyBody body = some b ↔
    (fieldAt body 1 1 = 2 ∧ b.slot = .even ∨ fieldAt body 1 1 = 3 ∧ b.slot = .odd)
    ∧ (fieldAt body 0 1 = 1 ∧ 1 ≤ count ∧ count ≤ 8 ∧ (∀ tier ∈ tiers, 1 ≤ tier ∧ tier ≤ 4095) ∧ tiers.Nodup
        ∧ 19 + 2 * count ≤ stop ∧ b.criteria = .tiers tiers
        ∧ b.wrapped = BitVec.ofNat 128 (fieldAt body (3 + 2 * count) 16)
      ∨ fieldAt body 0 1 = 2 ∧ 1 ≤ fieldAt body 4 2 ∧ 22 ≤ stop
        ∧ b.criteria = .event (fieldAt body 2 2) (fieldAt body 4 2)
        ∧ b.wrapped = BitVec.ofNat 128 (fieldAt body 6 16)) := by
  intro stop count tiers
  have short : stop ≤ body.length := Nat.sub_le _ _
  have criteria := keyCriteria_eq_some_iff short
  have length : (body.take stop).length = stop := List.length_take_of_le short
  rw [keyBody_of_fields (fields := body.take stop) rfl, length]
  constructor
  · intro parsed
    obtain ⟨slot, named, parsed⟩ := Option.bind_eq_some_iff.mp parsed
    obtain ⟨⟨found, after⟩, read, parsed⟩ := Option.bind_eq_some_iff.mp parsed
    dsimp only at parsed
    split at parsed
    · rename_i room
      obtain rfl := Option.some.inj parsed
      rw [fieldAt_fields (by omega), slotOf_eq_some_iff] at named
      refine ⟨named, ?_⟩
      dsimp only
      rw [fieldAt_fields room]
      rcases (criteria found after).mp ⟨read, by omega⟩ with ⟨kind, low, high, ok, distinct, rfl, rfl, -⟩ | ⟨kind, priced, rfl, rfl, -⟩
      · exact .inl ⟨kind, low, high, ok, distinct, by omega, rfl, rfl⟩
      · exact .inr ⟨kind, priced, room, rfl, rfl⟩
    · simp at parsed
  · rintro ⟨named, fields⟩
    obtain ⟨after, room, read, wrapped⟩ : ∃ after, after + 16 ≤ stop ∧ keyCriteria (body.take stop) = some (b.criteria, after)
        ∧ b.wrapped = BitVec.ofNat 128 (fieldAt body after 16) := by
      rcases fields with ⟨kind, low, high, ok, distinct, room, is, wrapped⟩ | ⟨kind, priced, room, is, wrapped⟩
      · exact ⟨3 + 2 * count, by omega, ((criteria _ _).mpr (.inl ⟨kind, low, high, ok, distinct, rfl, is, by omega⟩)).1, wrapped⟩
      · exact ⟨6, room, ((criteria _ _).mpr (.inr ⟨kind, priced, rfl, is, by omega⟩)).1, wrapped⟩
    rw [fieldAt_fields (by omega), (slotOf_eq_some_iff _ _).mpr named, Option.bind_some, read,
      Option.bind_some]
    dsimp only
    rw [if_pos room, fieldAt_fields room, ← wrapped]

end Sys2Proof.Machine
end

section
/-! KEY sections at the two claimed records: verdicts, slots, and what is posted and reported of them (R102 to R112, R127). -/

namespace Sys2Proof.Machine

/-! ### Verdicts (R127) -/

/-- An expiry that keeps an entitlement or a grant current (R114). -/
def Tmb.Current (t : Tmb) (expiry : Nat) : Prop := t.wallValid = false ∨ expiry = 4294967295 ∨ t.w < expiry

theorem not_expired_iff (t : Tmb) (expiry : Nat) : (!t.expired expiry) = true ↔ t.Current expiry := by
  rw [Tmb.expired, Tmb.Current, show noExpiry = 4294967295 from rfl]
  rcases t.wallValid with _ | _
  · simp
  · by_cases never : expiry = 4294967295
    · simp [never]
    · simp [never]

/-- What admits a service to a viewer with these criteria (R127). -/
def State.Entitles (s : State) (service : Nat) (criteria : Criteria) : Prop :=
  (∃ r, s.sdr.services.find? (fun r => r.number == service) = some r ∧ r.tiers = [])
    ∨ match criteria with
      | .tiers list => ∃ tier ∈ list, ∃ e ∈ s.enu.table, e.tier = tier ∧ s.tmb.Current e.expiry
      | .event id _ => s.tmb.wallValid = false
          ∨ ∃ g ∈ s.enu.grants, g.service = service ∧ g.event = id ∧ s.tmb.Current g.expiry

theorem tierEntitled_iff_current (s : State) (tier : Nat) :
    s.tierEntitled tier = true ↔ ∃ e ∈ s.enu.table, e.tier = tier ∧ s.tmb.Current e.expiry := by
  simp only [State.tierEntitled, List.any_eq_true, Bool.and_eq_true, beq_iff_eq, not_expired_iff]

theorem hasCurrentGrant_iff_current (s : State) (service event : Nat) : s.hasCurrentGrant service event = true ↔
    ∃ g ∈ s.enu.grants, g.service = service ∧ g.event = event ∧ s.tmb.Current g.expiry := by
  simp only [State.hasCurrentGrant, Grant.isFor, List.any_eq_true, Bool.and_eq_true, beq_iff_eq, not_expired_iff, and_assoc]

theorem freeService_iff (s : State) (service : Nat) : ((s.sdr.find service).any fun r => r.tiers.isEmpty) = true ↔
    ∃ r, s.sdr.services.find? (fun r => r.number == service) = some r ∧ r.tiers = [] := by
  rw [Option.any_eq_true]
  simp only [Sdr.find, List.isEmpty_iff]

theorem verdictOf_eq_entitled_iff (s : State) (service : Nat) (criteria : Criteria) :
    s.verdictOf service criteria = .entitled ↔ s.Entitles service criteria := by
  have verdict (b : Bool) : (if b then Verdict.entitled else .notEntitled) = .entitled ↔ b = true := by cases b <;> simp
  unfold State.verdictOf
  rw [verdict, Bool.or_eq_true, freeService_iff]
  refine or_congr_right ?_
  cases criteria with
  | tiers list => simp only [List.any_eq_true, tierEntitled_iff_current]
  | event id price => simp only [Bool.or_eq_true, Bool.not_eq_true', hasCurrentGrant_iff_current]

theorem verdictOf_eq_notEntitled {s : State} {service : Nat} {criteria : Criteria} (not : ¬ s.Entitles service criteria) :
    s.verdictOf service criteria = .notEntitled :=
  (verdictOf_cases s service criteria).resolve_left fun is => not ((verdictOf_eq_entitled_iff s service criteria).mp is)

/-! ### The two records together (R102, R106, R111) -/

/-- A record under a change that only some records take. -/
def KeyRecord.under (p : KeyRecord → Bool) (f : KeyRecord → KeyRecord) (r : KeyRecord) : KeyRecord := if p r then f r else r

/-- The NOT_ENTITLED source after a change at the records that take it (R106). -/
def Dsc.judged (p : KeyRecord → Bool) (f : KeyRecord → KeyRecord) (d : Dsc) : Bool :=
  match d.active with
  | some r => if p r then (f r).verdict == Verdict.notEntitled else d.notEntitled
  | none => d.notEntitled

/-- The posting of a change of the NOT_ENTITLED source (R106). -/
def Dsc.posting (d : Dsc) (notEntitled : Bool) : List Handover :=
  if notEntitled = d.notEntitled then [] else [.dscPosting d.noKey notEntitled]

/-- The report of a change at the ARMING record (R111). -/
def Dsc.armingNews (p : KeyRecord → Bool) (f : KeyRecord → KeyRecord) (d : Dsc) : List Handover :=
  match d.arming with
  | some r => if p r ∧ (f r).reported ≠ r.reported then [.armingReport (f r).verdict (f r).even.isSome (f r).odd.isSome] else []
  | none => []

/-- The part after a change at the records that take it. -/
def State.withRecords (p : KeyRecord → Bool) (f : KeyRecord → KeyRecord) (s : State) : State :=
  { s with
    dsc := { s.dsc with
      active := s.dsc.active.map (KeyRecord.under p f)
      arming := s.dsc.arming.map (KeyRecord.under p f)
      notEntitled := s.dsc.judged p f }
    inFlight := s.inFlight ++ s.dsc.posting (s.dsc.judged p f) ++ s.dsc.armingNews p f }

theorem posting_unchanged (d : Dsc) : d.posting d.notEntitled = [] := if_pos rfl

theorem updateActive_under (p : KeyRecord → Bool) (f : KeyRecord → KeyRecord) (s : State) :
    (if s.dsc.active.any p then updateActive f s else s) =
      { s with
        dsc := { s.dsc with active := s.dsc.active.map (KeyRecord.under p f), notEntitled := s.dsc.judged p f }
        inFlight := s.inFlight ++ s.dsc.posting (s.dsc.judged p f) } := by
  by_cases taken : s.dsc.active.any p = true
  · obtain ⟨r, claimed, takes⟩ := (Option.any_eq_true _ _).mp taken
    rw [if_pos taken]
    simp [updateActive, Dsc.judged, Dsc.posting, claimed, takes, postDsc_eq, KeyRecord.under, eq_comm]
  · have passed (r : KeyRecord) (claimed : s.dsc.active = some r) : p r = false :=
      Bool.eq_false_iff.mpr fun takes => taken ((Option.any_eq_true _ _).mpr ⟨r, claimed, takes⟩)
    have kept : s.dsc.active.map (KeyRecord.under p f) = s.dsc.active := by
      cases claimed : s.dsc.active with
      | none => rfl
      | some r => simp [KeyRecord.under, passed r claimed]
    have judged : s.dsc.judged p f = s.dsc.notEntitled := by
      rw [Dsc.judged]
      split
      · rename_i r claimed
        rw [passed r claimed, if_neg Bool.false_ne_true]
      · rfl
    rw [if_neg taken, kept, judged, posting_unchanged, List.append_nil]

theorem updateArming_under (p : KeyRecord → Bool) (f : KeyRecord → KeyRecord) (s : State) :
    (if s.dsc.arming.any p then updateArming f s else s) =
      { s with
        dsc := { s.dsc with arming := s.dsc.arming.map (KeyRecord.under p f) }
        inFlight := s.inFlight ++ s.dsc.armingNews p f } := by
  by_cases taken : s.dsc.arming.any p = true
  · obtain ⟨r, claimed, takes⟩ := (Option.any_eq_true _ _).mp taken
    rw [if_pos taken]
    by_cases same : (f r).reported = r.reported
    · simp [updateArming, Dsc.armingNews, claimed, takes, same, KeyRecord.under]
    · simp [updateArming, Dsc.armingNews, claimed, takes, same, KeyRecord.under, send]
  · have passed (r : KeyRecord) (claimed : s.dsc.arming = some r) : p r = false :=
      Bool.eq_false_iff.mpr fun takes => taken ((Option.any_eq_true _ _).mpr ⟨r, claimed, takes⟩)
    have kept : s.dsc.arming.map (KeyRecord.under p f) = s.dsc.arming := by
      cases claimed : s.dsc.arming with
      | none => rfl
      | some r => simp [KeyRecord.under, passed r claimed]
    have silent : s.dsc.armingNews p f = [] := by
      rw [Dsc.armingNews]
      split
      · rename_i r claimed
        rw [passed r claimed]
        exact if_neg fun is => Bool.false_ne_true is.1
      · rfl
    rw [if_neg taken, kept, silent, List.append_nil]

theorem updateBoth_under (p : KeyRecord → Bool) (f : KeyRecord → KeyRecord) (s : State) :
    (let s2 := if s.dsc.active.any p then updateActive f s else s
     if s.dsc.arming.any p then updateArming f s2 else s2) = s.withRecords p f := by
  dsimp only
  rw [updateActive_under]
  exact updateArming_under p f { s with
    dsc := { s.dsc with active := s.dsc.active.map (KeyRecord.under p f), notEntitled := s.dsc.judged p f }
    inFlight := s.inFlight ++ s.dsc.posting (s.dsc.judged p f) }

/-! ### The notices (R107) -/

/-- A record whose verdict is recomputed, as the statement of O46 has it (R104, R106). -/
theorem recompute_eq (s : State) (r : KeyRecord) : r.recompute s = match r.criteria with
    | none => { r with verdict := .unknown }
    | some criteria => if s.verdictOf r.service criteria = .notEntitled
        then { r with verdict := .notEntitled, even := none, odd := none }
        else { r with verdict := .entitled } := by
  rw [KeyRecord.recompute]
  cases r.criteria with
  | none => rfl
  | some criteria =>
    rcases verdictOf_cases s r.service criteria with verdict | verdict
    · simp [verdict]
    · simp [verdict]

theorem recomputeVerdicts_eq (s : State) : recomputeVerdicts s = s.withRecords (fun _ => true) (KeyRecord.recompute s) := by
  have atActive (f : KeyRecord → KeyRecord) : updateActive f s = if s.dsc.active.any fun _ => true then updateActive f s else s := by
    rw [updateActive]
    cases s.dsc.active <;> rfl
  have atArming (f : KeyRecord → KeyRecord) (t : State) (same : t.dsc.arming = s.dsc.arming) :
      updateArming f t = if s.dsc.arming.any fun _ => true then updateArming f t else t := by
    rw [updateArming, same]
    cases s.dsc.arming <;> rfl
  rw [← updateBoth_under, recomputeVerdicts, atArming _ _ (by rw [atActive, updateActive_under]), ← atActive]

/-! ### What is posted and reported (R106, R111) -/

/-- What a change at the records that take it posts and reports, as the statement of O46 has it. -/
def State.Posted (s : State) (done : KeyRecord → Prop) (t : State) : Prop :=
  (∀ r, s.dsc.active = some r → done r → ∃ r', t.dsc.active = some r'
    ∧ t.dsc.notEntitled = (r'.verdict == Verdict.notEntitled))
  ∧ ((∀ r, s.dsc.active = some r → ¬ done r) → t.dsc.notEntitled = s.dsc.notEntitled)
  ∧ t.inFlight = (if t.dsc.notEntitled = s.dsc.notEntitled then []
      else [Handover.dscPosting s.dsc.noKey t.dsc.notEntitled])
    ++ (match s.dsc.arming, t.dsc.arming with
      | some r, some r' => if r'.verdict = r.verdict ∧ r'.even.isSome = r.even.isSome ∧ r'.odd.isSome = r.odd.isSome
          then [] else [.armingReport r'.verdict r'.even.isSome r'.odd.isSome]
      | _, _ => [])

theorem withRecords_posted {s : State} {p : KeyRecord → Bool} {f : KeyRecord → KeyRecord} {done : KeyRecord → Prop} {t : State}
    (takes : ∀ r, p r = true ↔ done r) (active : t.dsc.active = s.dsc.active.map (KeyRecord.under p f))
    (arming : t.dsc.arming = s.dsc.arming.map (KeyRecord.under p f)) (judged : t.dsc.notEntitled = s.dsc.judged p f)
    (sent : t.inFlight = s.dsc.posting (s.dsc.judged p f) ++ s.dsc.armingNews p f) : s.Posted done t := by
  refine ⟨fun r claimed of => ⟨f r, ?_, ?_⟩, fun none => ?_, ?_⟩
  · rw [active, claimed, Option.map_some, KeyRecord.under, if_pos ((takes r).mpr of)]
  · rw [judged, Dsc.judged, claimed]
    exact if_pos ((takes r).mpr of)
  · rw [judged, Dsc.judged]
    split
    · rename_i r claimed
      exact if_neg fun of => none r claimed ((takes r).mp of)
    · rfl
  · rw [sent, judged, Dsc.posting, arming, Dsc.armingNews]
    refine congrArg _ ?_
    rcases s.dsc.arming with _ | r
    · rfl
    · by_cases of : p r = true
      · have same : (f r).reported = r.reported ↔ (f r).verdict = r.verdict ∧ (f r).even.isSome = r.even.isSome
            ∧ (f r).odd.isSome = r.odd.isSome := by
          simp only [KeyRecord.reported, Prod.mk.injEq]
        simp only [of, true_and, same, KeyRecord.under, if_true, Option.map_some, ne_eq, ite_not]
      · simp [of, KeyRecord.under]

/-! ### An applied KEY section (R104, R105) -/

/-- What an applied KEY section makes of a record that takes it, as the statement of O46 has it. -/
def KeyRecord.Filled (s : State) (b : KeyBody) (r r' : KeyRecord) : Prop :=
  let word := Config.unwrap b.wrapped
  let old := match b.slot with
    | .even => r.even
    | .odd => r.odd
  let refused := old ≠ none ∧ old ≠ some word ∧ r.live = some b.slot
  r'.criteria = some b.criteria ∧ r'.verdict = s.verdictOf r.service b.criteria
  ∧ (r'.verdict = .notEntitled → r'.even = none ∧ r'.odd = none ∧ r'.liveRefusals = r.liveRefusals)
  ∧ (r'.verdict = .entitled →
      (refused → r'.even = r.even ∧ r'.odd = r.odd ∧ r'.liveRefusals = satInc max32 r.liveRefusals)
      ∧ (¬ refused → r'.liveRefusals = r.liveRefusals
        ∧ (b.slot = .even → r'.even = some word ∧ r'.odd = r.odd)
        ∧ (b.slot = .odd → r'.odd = some word ∧ r'.even = r.even)))
  ∧ r' = { r with criteria := r'.criteria, verdict := r'.verdict, even := r'.even, odd := r'.odd
                  liveRefusals := r'.liveRefusals }

theorem fill_held {r : KeyRecord} {k : Slot} {word : ControlWord} (held : r.slot k = some word) : r.fill k word = r := by
  cases k with
  | even => exact congrArg (fun w => { r with even := w }) held.symm
  | odd => exact congrArg (fun w => { r with odd := w }) held.symm

theorem write_of_entitled (b : KeyBody) {r : KeyRecord} (entitled : r.verdict = .entitled) : r.write b =
    if r.slot b.slot ≠ none ∧ r.slot b.slot ≠ some (Config.unwrap b.wrapped) ∧ r.live = some b.slot
    then { r with liveRefusals := satInc max32 r.liveRefusals } else r.fill b.slot (Config.unwrap b.wrapped) := by
  rw [KeyRecord.write, if_pos entitled]
  dsimp only
  split
  · rename_i empty
    rw [if_neg fun is => is.1 empty]
  · rename_i old held
    rw [held]
    by_cases same : old = Config.unwrap b.wrapped
    · rw [if_pos same, if_neg fun is => is.2.1 (congrArg some same), ← same, fill_held held]
    · rw [if_neg same]
      by_cases live : r.live = some b.slot
      · rw [if_pos live, if_pos ⟨nofun, fun is => same (Option.some.inj is), live⟩]
      · rw [if_neg live, if_neg fun is => live is.2.2]

theorem applyKey_filled (s : State) (b : KeyBody) (r : KeyRecord) : KeyRecord.Filled s b r (r.applyKey s b) := by
  rw [KeyRecord.applyKey, recompute_eq]
  dsimp only
  rcases verdictOf_cases s r.service b.criteria with verdict | verdict
  · rw [verdict, if_neg nofun, write_of_entitled b rfl]
    split
    · rename_i refused
      refine ⟨rfl, verdict.symm, nofun, fun _ => ⟨fun _ => ⟨rfl, rfl, rfl⟩, fun allowed => absurd ?_ allowed⟩, rfl⟩
      cases slot : b.slot <;> simpa [slot, KeyRecord.slot] using refused
    · rename_i allowed
      cases slot : b.slot with
      | even =>
        rw [slot] at allowed
        exact ⟨rfl, verdict.symm, nofun, fun _ => ⟨fun refused => absurd (by simpa [slot, KeyRecord.slot] using refused) allowed,
          fun _ => ⟨rfl, fun _ => ⟨rfl, rfl⟩, fun is => by simp [slot] at is⟩⟩, rfl⟩
      | odd =>
        rw [slot] at allowed
        exact ⟨rfl, verdict.symm, nofun, fun _ => ⟨fun refused => absurd (by simpa [slot, KeyRecord.slot] using refused) allowed,
          fun _ => ⟨rfl, fun is => by simp [slot] at is, fun _ => ⟨rfl, rfl⟩⟩⟩, rfl⟩
  · rw [if_pos verdict, KeyRecord.write, if_neg nofun]
    exact ⟨rfl, verdict.symm, fun _ => ⟨rfl, rfl, rfl⟩, nofun, rfl⟩

/-! ### The section (R102, R103, R112) -/

theorem takes_iff (x : Section) (r : KeyRecord) : r.takes x = true ↔ x.port = .a ∧ x.stream = r.stream := by
  rw [KeyRecord.takes, Bool.and_eq_true, beq_iff_eq, beq_iff_eq]

/-- Whether a claimed record takes a section. -/
theorem any_takes_iff (x : Section) (record : Option KeyRecord) : record.any (KeyRecord.takes x) = true ↔
    ∃ r, record = some r ∧ x.port = .a ∧ x.stream = r.stream := by
  rw [Option.any_eq_true]
  simp only [takes_iff]

/-- The records that take a section, as KEY_FAULT names them. -/
theorem matchedOf_any_iff (x : Section) (active arming : Option KeyRecord) (matched : Matched) :
    let atActive := ∃ r, active = some r ∧ x.port = .a ∧ x.stream = r.stream
    let atArming := ∃ r, arming = some r ∧ x.port = .a ∧ x.stream = r.stream
    matchedOf (active.any (KeyRecord.takes x)) (arming.any (KeyRecord.takes x)) = some matched ↔
      (atActive ∧ atArming ∧ matched = .both ∨ atActive ∧ ¬ atArming ∧ matched = .active
        ∨ ¬ atActive ∧ atArming ∧ matched = .arming) := by
  intro atActive atArming
  rw [show atActive ↔ _ from (any_takes_iff x active).symm, show atArming ↔ _ from (any_takes_iff x arming).symm]
  cases active.any (KeyRecord.takes x) <;> cases arming.any (KeyRecord.takes x) <;> simp [matchedOf, eq_comm]

theorem fault_eq (x : Section) : KeyRecord.fault x =
    fun r => if x.port = .a ∧ x.stream = r.stream then { r with checkFailures := satInc max32 r.checkFailures } else r := by
  funext r
  rw [KeyRecord.fault]
  exact if_congr (takes_iff x r) rfl rfl

theorem applyKeySection_of_none {x : Section} {s : State} (atActive : s.dsc.active.any (KeyRecord.takes x) = false)
    (atArming : s.dsc.arming.any (KeyRecord.takes x) = false) :
    applyKeySection x s = { s with dsc := { s.dsc with ignored := satInc max32 s.dsc.ignored } } := by
  rw [applyKeySection, atActive, atArming]
  rfl

theorem applyKeySection_of_fault {x : Section} {s : State} {matched : Matched} {reason : KeyFault}
    (takers : matchedOf (s.dsc.active.any (KeyRecord.takes x)) (s.dsc.arming.any (KeyRecord.takes x)) = some matched)
    (fault : checkPasses x.body = false ∧ reason = .check ∨ checkPasses x.body = true ∧ keyBody x.body = none ∧ reason = .format) :
    applyKeySection x s = keyFault x matched reason s := by
  rw [applyKeySection, takers]
  rcases fault with ⟨fails, rfl⟩ | ⟨passes, formless, rfl⟩
  · simp only [fails, Bool.not_false, if_true]
  · simp only [passes, Bool.not_true, Bool.false_eq_true, if_false, formless]

theorem applyKeySection_of_applied {x : Section} {s : State} {b : KeyBody}
    (taken : s.dsc.active.any (KeyRecord.takes x) = true ∨ s.dsc.arming.any (KeyRecord.takes x) = true)
    (passes : checkPasses x.body = true) (read : keyBody x.body = some b) :
    applyKeySection x s = { s with dsc := { s.dsc with applied := satInc max32 s.dsc.applied } }.withRecords
      (KeyRecord.takes x) (KeyRecord.applyKey s b) := by
  rw [← updateBoth_under, applyKeySection]
  simp only [passes, Bool.not_true, Bool.false_eq_true, if_false, read]
  revert taken
  cases s.dsc.active.any (KeyRecord.takes x) <;> cases s.dsc.arming.any (KeyRecord.takes x) <;> simp [matchedOf]

theorem keyParityField_of_byte {body : List Byte} {b : Byte} (at1 : body[1]? = some b) : keyParityField body = b := by
  rw [keyParityField, at1, Option.getD_some]

/-- Settles O46: the body's form, the verdict, and what a section and a notice do at the claimed records. -/
theorem keySectionsFillSlotsUnderEntitlementAlone : Obligations.KeySectionsFillSlotsUnderEntitlementAlone := by
  refine ⟨checkPasses_iff, keyBody_eq_some_iff, fun s service criteria =>
    ⟨(verdictOf_eq_entitled_iff s service criteria).mpr, verdictOf_eq_notEntitled⟩, fun _ _ => keyParityField_of_byte, ?_⟩
  intro s running
  refine ⟨fun x rest front => ?_, fun h command is offered => ?_⟩
  · let s0 : State := { s with queues := { s.queues with key := rest } }
    have runs : exec .keySection s = .next (applyKeySection x s0) := by
      refine (whenRunning_of_running running _).trans ?_
      rw [consume_cons (c := .key) (s := s) applyKeySection front]
      rfl
    refine ⟨fun atActive atArming => ?_, fun matched reason takers fault => ?_, fun b taken passes read => ?_⟩
    · exact runs.trans (congrArg _ (applyKeySection_of_none (s := s0)
        (Bool.eq_false_iff.mpr fun is => atActive ((any_takes_iff _ _).mp is))
        (Bool.eq_false_iff.mpr fun is => atArming ((any_takes_iff _ _).mp is))))
    · intro counted
      rw [runs, applyKeySection_of_fault (s := s0) ((matchedOf_any_iff _ _ _ _).mpr takers) fault, keyFault, fault_eq]
    · have applied := applyKeySection_of_applied (s := s0) (taken.imp (any_takes_iff _ _).mpr (any_takes_iff _ _).mpr) passes read
      have filled (record : Option KeyRecord) (r : KeyRecord) (claimed : record = some r) : ∃ r',
          record.map (KeyRecord.under (KeyRecord.takes x) (KeyRecord.applyKey s0 b)) = some r'
          ∧ (x.port = .a ∧ x.stream = r.stream → KeyRecord.Filled s b r r') ∧ (¬ (x.port = .a ∧ x.stream = r.stream) → r' = r) := by
        refine ⟨_, by rw [claimed]; rfl, fun takes => ?_, fun passed => ?_⟩
        · rw [KeyRecord.under, if_pos ((takes_iff x r).mpr takes)]
          exact applyKey_filled s0 b r
        · exact if_neg fun takes => passed ((takes_iff x r).mp takes)
      refine ⟨_, runs.trans (congrArg _ applied), filled _, filled _, fun free => ?_, fun free => ?_, ?_, ?_, rfl⟩
      · exact congrArg (Option.map _) free
      · exact congrArg (Option.map _) free
      · refine withRecords_posted (takes_iff x) rfl rfl rfl ?_
        exact (congrArg (List.drop _) (List.append_assoc _ _ _)).trans List.drop_left
      · exact (congrArg (List.take _) (List.append_assoc _ _ _)).trans List.take_left
  · have runs : exec command s = .next (recomputeVerdicts { s with inFlight := s.others h }) := by
      rcases is with ⟨rfl, rfl⟩ | ⟨rfl, rfl⟩
      · simp only [exec, execEntChangeNotice, whenRunning_of_running offered.1,
          show s.nextIn .enuToDsc = some .entNotice from offered_next offered]
        rfl
      · simp only [exec, execDscWallSet, whenRunning_of_running offered.1,
          show s.nextIn (.tmbTo .dsc) = some (.wallSet .dsc) from offered_next offered]
        rfl
    rw [recomputeVerdicts_eq] at runs
    have judged : KeyRecord.under (fun _ => true) (KeyRecord.recompute { s with inFlight := s.others h }) =
        fun r : KeyRecord => match r.criteria with
          | none => { r with verdict := .unknown }
          | some criteria => if s.verdictOf r.service criteria = .notEntitled
              then { r with verdict := .notEntitled, even := none, odd := none }
              else { r with verdict := .entitled } :=
      funext fun r => (if_pos rfl).trans (recompute_eq { s with inFlight := s.others h } r)
    refine ⟨_, _, runs, congrArg (Option.map · s.dsc.active) judged, congrArg (Option.map · s.dsc.arming) judged,
      withRecords_posted (fun _ => ⟨fun _ => trivial, fun _ => rfl⟩) rfl rfl rfl rfl, ?_⟩
    rw [State.withRecords, List.append_assoc]

end Sys2Proof.Machine
end

section
/-! Section cells: the assembly context of a SECTIONS route (R18, R21 to R29, R32). -/

namespace Sys2Proof.Machine

/-! ### A section that goes on or is complete (R22, R24, R25, R29) -/

/-- What collecting bytes for a section leaves of its context and of the queues. -/
def GoesOn (port : Port) (stream : Nat) (q : Queues) (cls : SectionClass) (length : Nat) (bytes : List Byte) (n : SectionCounts)
    (out : Context × Queues) : Prop :=
  (bytes.length ≠ length → out.1 = { asm := .assembling cls length bytes, counts := n } ∧ out.2 = q)
  ∧ (bytes.length = length →
    (crcAgrees bytes = false → out.1 = { asm := .idle, counts := { n with crcFail := satInc max32 n.crcFail } } ∧ out.2 = q)
    ∧ (crcAgrees bytes = true → cls.limit < (q.of cls).length →
      out.1 = { asm := .idle, counts := { n with overrun := satInc max32 n.overrun } } ∧ out.2 = q)
    ∧ (crcAgrees bytes = true → (q.of cls).length ≤ cls.limit →
      out.1 = { asm := .idle, counts := { n with delivered := satInc max32 n.delivered } }
      ∧ out.2 = q.with cls (q.of cls ++ [Section.ofBytes port stream cls bytes])))

/-- A delivery queue that holds its limit while its consumer is applying another section (R29). -/
theorem queueFull_iff (q : Queues) (cls : SectionClass) :
    (q.applying cls && decide (cls.limit ≤ q.waiting cls)) = true ↔ cls.limit < (q.of cls).length := by
  rw [Queues.applying, Queues.waiting, Bool.and_eq_true, decide_eq_true_iff, Bool.not_eq_true', List.isEmpty_eq_false_iff,
    ← List.length_pos_iff]
  have limited : 1 ≤ cls.limit := by cases cls <;> decide
  omega

theorem collect_goesOn (port : Port) (stream : Nat) (cls : SectionClass) (total : Nat) (bytes : List Byte) (n : SectionCounts)
    (q : Queues) : GoesOn port stream q cls total bytes n (collect port stream cls total bytes n q) := by
  refine ⟨fun more => ?_, fun whole => ⟨fun wrong => ?_, fun right full => ?_, fun right room => ?_⟩⟩
  · rw [collect, if_neg more]
    exact ⟨rfl, rfl⟩
  · rw [collect, if_pos whole, completeSection, wrong]
    exact ⟨rfl, rfl⟩
  · rw [collect, if_pos whole, completeSection, right, (queueFull_iff q cls).mpr full]
    exact ⟨rfl, rfl⟩
  · rw [collect, if_pos whole, completeSection, right, Bool.eq_false_iff.mpr ((queueFull_iff q cls).not.mpr room.not_gt)]
    exact ⟨rfl, rfl⟩

/-! ### A start cell (R22, R32) -/

/-- Whether the addressing fields of an ENTITLEMENT body are this part's (R32). -/
def Addressed (group : Option (Nat × Nat)) (body : List Byte) : Prop :=
  byteAt body 0 = 1#8 ∧ 5 ≤ body.length ∧ fieldAt body 1 4 = Config.unitAddress.toNat
  ∨ byteAt body 0 = 2#8 ∧ 35 ≤ body.length ∧ (∃ number position, group = some (number, position)
      ∧ fieldAt body 1 2 = number ∧ (byteAt body (3 + position / 8)).getLsbD (7 - position % 8) = true)
  ∨ byteAt body 0 = 3#8 ∧ 1 ≤ body.length

theorem addressMatches_iff (group : Option (Nat × Nat)) (body : List Byte) :
    addressMatches group body = true ↔ Addressed group body := by
  have code (n : Nat) (small : n < 256) : byteAt body 0 = BitVec.ofNat 8 n ↔ (byteAt body 0).toNat = n := by
    rw [← BitVec.toNat_inj, BitVec.toNat_ofNat, Nat.mod_eq_of_lt small]
  unfold addressMatches
  rw [Addressed, code 1 (by omega), code 2 (by omega), code 3 (by omega)]
  split
  · rename_i is
    simp [is]
  · rename_i number position is
    simp only [is, Bool.and_eq_true, decide_eq_true_iff, beq_iff_eq, Option.some.injEq, Prod.mk.injEq]
    constructor
    · rintro ⟨⟨long, mine⟩, bit⟩
      exact .inr (.inl ⟨trivial, long, _, _, ⟨rfl, rfl⟩, mine, bit⟩)
    · rintro (⟨no, -⟩ | ⟨-, long, _, _, ⟨rfl, rfl⟩, mine, bit⟩ | ⟨no, -⟩)
      · omega
      · exact ⟨⟨long, mine⟩, bit⟩
      · omega
  · rename_i is
    simp [is]
  · rename_i one three two
    simp only [Bool.false_eq_true, false_iff]
    rintro (⟨is, -⟩ | ⟨is, -, _, _, assigned, -⟩ | ⟨is, -⟩)
    · exact one is
    · exact two _ _ is assigned
    · exact three is

/-- What a start cell leaves of its context and of the queues, as the statement of O57 has it. -/
def Starts (port : Port) (stream : Nat) (classes : List SectionClass) (group : Option (Nat × Nat)) (others : Nat)
    (payload : List Byte) (n : SectionCounts) (q : Queues) (out : Context × Queues) : Prop :=
  let total := if fieldAt payload 1 2 / 16 = 0 then 4096 else fieldAt payload 1 2 / 16
  let addressed := Addressed group ((payload.drop 8).take (total - 12))
  let skipped (n : SectionCounts) : Prop := out.1 = { asm := .skipping, counts := n } ∧ out.2 = q
  ((∀ cls ∈ classes, SectionClass.ofCode (byteAt payload 0).toNat ≠ some cls) →
    skipped { n with classSkip := satInc max32 n.classSkip })
  ∧ ∀ cls ∈ classes, SectionClass.ofCode (byteAt payload 0).toNat = some cls →
    (total < 12 → skipped { n with lengthSkip := satInc max32 n.lengthSkip })
    ∧ (12 ≤ total → cls = .entitlement → ¬ addressed → skipped { n with addressSkip := satInc max32 n.addressSkip })
    ∧ (12 ≤ total → (cls = .entitlement → addressed) → 16 ≤ others → skipped { n with noBuffer := satInc max32 n.noBuffer })
    ∧ (12 ≤ total → (cls = .entitlement → addressed) → others < 16 →
      GoesOn port stream q cls total (payload.take total) n out)

/-- A start cell of a class that the route takes, by its four checks. -/
theorem startCell_of_class {classes : List SectionClass} {payload : List Byte} {cls : SectionClass} (taken : cls ∈ classes)
    (named : SectionClass.ofCode (byteAt payload 0).toNat = some cls) (port : Port) (stream : Nat) (group : Option (Nat × Nat))
    (free : Nat) (n : SectionCounts) (q : Queues) {total : Nat} (is : totalLengthOf payload = total) :
    startCell port stream classes group free payload n q =
      if total < 12 then (skipping { n with lengthSkip := satInc max32 n.lengthSkip }, q)
      else if cls = .entitlement && !addressMatches group ((payload.drop 8).take (total - 12)) then
        (skipping { n with addressSkip := satInc max32 n.addressSkip }, q)
      else if free = 0 then (skipping { n with noBuffer := satInc max32 n.noBuffer }, q)
      else collect port stream cls total (payload.take total) n q := by
  have found : (SectionClass.ofCode (byteAt payload 0).toNat).filter classes.contains = some cls := by
    rw [named, Option.filter_some, if_pos (List.contains_iff_mem.mpr taken)]
  unfold startCell
  dsimp only
  rw [found, is]

theorem startCell_of_unknown {classes : List SectionClass} {payload : List Byte}
    (unknown : ∀ cls ∈ classes, SectionClass.ofCode (byteAt payload 0).toNat ≠ some cls) (port : Port) (stream : Nat)
    (group : Option (Nat × Nat)) (free : Nat) (n : SectionCounts) (q : Queues) :
    startCell port stream classes group free payload n q = (skipping { n with classSkip := satInc max32 n.classSkip }, q) := by
  have refused : (SectionClass.ofCode (byteAt payload 0).toNat).filter classes.contains = none :=
    Option.filter_eq_none_iff.mpr fun cls named held => unknown cls (List.contains_iff_mem.mp held) named
  unfold startCell
  dsimp only
  rw [refused]

theorem startCell_starts (port : Port) (stream : Nat) (classes : List SectionClass) (group : Option (Nat × Nat)) (others : Nat)
    (payload : List Byte) (n : SectionCounts) (q : Queues) :
    Starts port stream classes group others payload n q
      (startCell port stream classes group (poolSize - others) payload n q) := by
  unfold Starts
  intro total addressed skipped
  refine ⟨fun unknown => ?_, fun cls taken named => ?_⟩
  · have run := startCell_of_unknown unknown port stream group (poolSize - others) n q
    exact ⟨congrArg Prod.fst run, congrArg Prod.snd run⟩
  · have unaddressed : (decide (cls = .entitlement) && !addressMatches group ((payload.drop 8).take (total - 12))) = true ↔
        cls = .entitlement ∧ ¬ addressed := by
      rw [Bool.and_eq_true, decide_eq_true_iff, Bool.not_eq_true', ← Bool.not_eq_true, addressMatches_iff]
    have full : poolSize - others = 0 ↔ 16 ≤ others := Nat.sub_eq_zero_iff_le
    have run := startCell_of_class taken named port stream group (poolSize - others) n q
      (show totalLengthOf payload = total from rfl)
    refine ⟨fun short => ?_, fun long entitlement not => ?_, fun long mine none => ?_, fun long mine some => ?_⟩
    · rw [if_pos short] at run
      exact ⟨congrArg Prod.fst run, congrArg Prod.snd run⟩
    · rw [if_neg (Nat.not_lt.mpr long), if_pos (unaddressed.mpr ⟨entitlement, not⟩)] at run
      exact ⟨congrArg Prod.fst run, congrArg Prod.snd run⟩
    · rw [if_neg (Nat.not_lt.mpr long), if_neg (unaddressed.not.mpr fun is => is.2 (mine is.1)), if_pos (full.mpr none)] at run
      exact ⟨congrArg Prod.fst run, congrArg Prod.snd run⟩
    · rw [if_neg (Nat.not_lt.mpr long), if_neg (unaddressed.not.mpr fun is => is.2 (mine is.1)),
        if_neg (full.not.mpr some.not_ge)] at run
      rw [run]
      exact collect_goesOn _ _ _ _ _ _ _

/-! ### A cell at its context (R12, R18, R24, R26) -/

/-- What a continuation cell leaves of its context and of the queues, as the statement of O57 has it. -/
theorem continuationCell_continues (port : Port) (stream : Nat) (payload : List Byte) (before : Context) (q : Queues) :
    let out := continuationCell port stream payload before q
    (before.asm = .idle → out.2 = q
      ∧ out.1 = { before with counts := { before.counts with stray := satInc max32 before.counts.stray } })
    ∧ (before.asm = .skipping → out.1 = before ∧ out.2 = q)
    ∧ ∀ cls length bytes, before.asm = .assembling cls length bytes →
      GoesOn port stream q cls length (bytes ++ payload.take (length - bytes.length)) before.counts out := by
  intro out
  refine ⟨fun idle => ?_, fun skipping => ?_, fun cls length bytes assembling => ?_⟩
  · simp only [out, continuationCell, idle, and_self]
  · simp only [out, continuationCell, skipping, and_self]
  · simp only [out, continuationCell, assembling]
    exact collect_goesOn _ _ _ _ _ _ _

theorem abandon_holdsBuffer (ctx : Context) : ctx.abandon.holdsBuffer = false := by
  rw [Context.abandon, Context.holdsBuffer]
  cases asm : ctx.asm <;> simp [asm]

/-- The buffers in use once the context of one entry has none. -/
theorem buffersInUse_set {t : List (Option Route)} {k : Nat} {r r' : Route} {ctx ctx' : Context} (held : t[k]? = some (some r))
    (has : r.ctx = some ctx) (has' : r'.ctx = some ctx') (returned : ctx'.holdsBuffer = false) (q : Queues) :
    buffersInUse (t.set k (some r')) q = buffersInUse t q - (if ctx.holdsBuffer = true then 1 else 0) := by
  obtain ⟨inside, at_k⟩ := List.getElem?_eq_some_iff.mp held
  have before : entryHoldsBuffer (t[k]) = ctx.holdsBuffer := by rw [at_k, entryHoldsBuffer, Option.bind_some, has, Option.any_some]
  have after : entryHoldsBuffer (some r') = false := by rw [entryHoldsBuffer, Option.bind_some, has', Option.any_some, returned]
  have counted : (if ctx.holdsBuffer = true then 1 else 0) ≤ t.countP entryHoldsBuffer := by
    split
    · rename_i holds
      exact List.countP_pos_iff.mpr ⟨t[k], List.getElem_mem inside, before.trans holds⟩
    · exact Nat.zero_le _
  rw [buffersInUse, buffersInUse, List.countP_set inside, before, after]
  simp only [Bool.false_eq_true, if_false]
  omega

/-- What the context and the queues become under a clear cell. -/
def sectionOut (port : Port) (r : Route) (classes : List SectionClass) (group : Option (Nat × Nat)) (others : Nat) (c : Cell)
    (before : Context) (q : Queues) : Context × Queues :=
  if c.start then startCell port r.stream classes group (poolSize - others) c.payload before.abandon.counts q
  else continuationCell port r.stream c.payload before q

theorem assemble_of_context {s : State} {k : Nat} {r : Route} {classes : List SectionClass} {ctx : Context}
    (held : s.routes[k]? = some (some r)) (use : r.use = .sections classes) (has : r.ctx = some ctx) (c : Cell) :
    let out := sectionOut r.port r classes s.enu.group
      (buffersInUse s.routes s.queues - (if ctx.holdsBuffer = true then 1 else 0)) c ctx s.queues
    assemble k c s = { s with routes := s.routes.set k (some { r with ctx := some out.1 }), queues := out.2 } := by
  intro out
  have others := buffersInUse_set (r' := { r with ctx := some ctx.abandon }) held has rfl (abandon_holdsBuffer ctx) s.queues
  obtain ⟨port, stream, _, state, owner, binding, expected, discontinuities, cells, _⟩ := r
  obtain rfl : _ = some ctx := has
  obtain rfl : _ = RouteUse.sections classes := use
  rw [assemble, RouteTable.route_eq_some.mpr held]
  simp only [setAt]
  rcases start : c.start with _ | _
  · simp only [out, sectionOut, start, Bool.false_eq_true, if_false]
  · simp only [out, sectionOut, start, if_true]
    rw [others]

theorem abandonEntry_of_route {s : State} {k : Nat} {r : Route} (held : s.routes[k]? = some (some r)) :
    abandonEntry k s = { s with routes := s.routes.set k (some r.abandon) } := by
  rw [abandonEntry, RouteTable.route_eq_some.mpr held]
  rfl

theorem abandon_of_context {r : Route} {ctx : Context} (has : r.ctx = some ctx) : r.abandon = { r with ctx := some ctx.abandon } := by
  rw [Route.abandon, has]
  rfl

/-- The buffers that other sections hold, whether the entry's own section has been abandoned already or not. -/
theorem others_of_abandoned {t : List (Option Route)} {k : Nat} {r : Route} {ctx : Context} (held : t[k]? = some (some r))
    (has : r.ctx = some ctx) (q : Queues) : buffersInUse (t.set k (some { r with ctx := some ctx.abandon })) q
      - (if ctx.abandon.holdsBuffer = true then 1 else 0) = buffersInUse t q - (if ctx.holdsBuffer = true then 1 else 0) := by
  rw [buffersInUse_set (r' := { r with ctx := some ctx.abandon }) held has rfl (abandon_holdsBuffer ctx), abandon_holdsBuffer,
    if_neg Bool.false_ne_true, Nat.sub_zero]

theorem sectionsCell_of_clear {s : State} {k : Nat} {r : Route} {classes : List SectionClass} {ctx : Context} {c : Cell}
    (held : s.routes[k]? = some (some r)) (use : r.use = .sections classes) (has : r.ctx = some ctx) (clear : c.parity = .clear)
    (broken : Bool) :
    let out := sectionOut r.port r classes s.enu.group (buffersInUse s.routes s.queues - (if ctx.holdsBuffer = true then 1 else 0)) c
      (if broken then ctx.abandon else ctx) s.queues
    sectionsCell k r broken c s = { s with routes := s.routes.set k (some { r with ctx := some out.1 }), queues := out.2 } := by
  intro out
  have inside := (List.getElem?_eq_some_iff.mp held).1
  rw [sectionsCell, clear, if_neg (by simp [Parity.slot])]
  cases broken with
  | false => exact assemble_of_context held use has c
  | true =>
    rw [if_pos rfl, abandonEntry_of_route held, abandon_of_context has,
      assemble_of_context (s := { s with routes := s.routes.set k (some { r with ctx := some ctx.abandon }) })
        (List.getElem?_set_self inside) use rfl c]
    dsimp only
    rw [List.set_set, others_of_abandoned held has]
    rfl

theorem sectionsCell_of_scrambled {s : State} {k : Nat} {r : Route} {ctx : Context} {c : Cell} (held : s.routes[k]? = some (some r))
    (has : r.ctx = some ctx) {port : Port} (at_port : r.port = port) (serial : port ≠ .l) (scrambled : c.parity.slot.isSome = true) (broken : Bool) :
    sectionsCell k r broken c s = withSerial port (fun p => { p with parityErrors := satInc max32 p.parityErrors })
      { s with routes := s.routes.set k (some { r with ctx := some ctx.abandon }) } := by
  subst at_port
  rw [sectionsCell, if_pos scrambled, countParityError_of_serial serial, abandonEntry_of_route (r := r) (by simpa using held),
    abandon_of_context has]
  cases r.port <;> rfl

/-- The buffers that other sections hold, the entry's route having taken the cell or not. -/
theorem others_of_taken {t : List (Option Route)} {k : Nat} {r r' : Route} {ctx : Context} (held : t[k]? = some (some r))
    (has : r.ctx = some ctx) (has' : r'.ctx = some ctx) (q : Queues) : buffersInUse (t.set k (some r')) q
      - (if ctx.holdsBuffer = true then 1 else 0) = buffersInUse t q - (if ctx.holdsBuffer = true then 1 else 0) := by
  have inside := (List.getElem?_eq_some_iff.mp held).1
  have returned := abandon_holdsBuffer ctx
  rw [← buffersInUse_set (t := t.set k (some r')) (r' := { r with ctx := some ctx.abandon }) (List.getElem?_set_self inside) has' rfl
    returned, ← buffersInUse_set (r' := { r with ctx := some ctx.abandon }) held has rfl returned, List.set_set]

/-- The port of the route that a lookup finds. -/
theorem port_of_found {t : List (Option Route)} {port : Port} {stream k : Nat} {state : RouteState} {r : Route}
    (found : RouteTable.find t (Route.isAt port stream state) = some k) (held : t[k]? = some (some r)) : r.port = port := by
  obtain ⟨q, held', test⟩ := RouteTable.find_eq_some found
  cases held.symm.trans held'
  exact ((isAt_iff _ _ _ _).mp test).1

theorem useCell_of_sections {r : Route} {classes : List SectionClass} (use : r.use = .sections classes) (k : Nat) (broken : Bool)
    (c : Cell) (s : State) : useCell k r broken c s = sectionsCell k r broken c s := by
  rw [useCell, use]

/-- Settles O57: the scrambled cell, and the clear one by the start flag. -/
theorem sectionCellsAreAssembledAndDelivered : Obligations.SectionCellsAreAssembledAndDelivered := by
  intro s port p c k r classes ctx running serial locked empty awake full sync kept stream found held use has
    broken abandoned before opened n total body addressed others goesOn skipped
  have receives : s.Receives port p := ⟨running, serial, locked, empty, awake⟩
  have at_port : r.port = port := found.elim (fun live => port_of_found live.1 held) (fun armed => port_of_found armed.2 held)
  have inside := (List.getElem?_eq_some_iff.mp held).1
  have answered := exec_cellArrival_of_route receives full sync kept stream found held
  rw [useCell_of_sections (r := r.take c) use] at answered
  let s1 : State := withSerial port (receivedCell s.tmb.localTime) { s with routes := s.routes.set k (some (r.take c)) }
  have s1_routes : s1.routes = s.routes.set k (some (r.take c)) := by simp [s1]
  have s1_queues : s1.queues = s.queues := by simp [s1]
  have s1_enu : s1.enu = s.enu := by simp [s1]
  have s1_held : s1.routes[k]? = some (some (r.take c)) := by rw [s1_routes, List.getElem?_set_self inside]
  have s1_serial : s1.cin.serial port = some (receivedCell s.tmb.localTime p) := by rw [serial_withSerial, serial]; rfl
  have s1_others (other : Port) (differs : other ≠ port) : s1.cin.serial other = s.cin.serial other := serial_withSerial_of_ne differs _ _
  have s1_eq : s1 = { s with cin := s1.cin, routes := s1.routes } := by
    rw [s1_routes]
    exact withSerial_eq port _ _
  have taken (x : Context) : some { r.take c with ctx := some x } = some { r with
      cells := satInc max32 r.cells
      discontinuities := if r.expected = none ∨ r.expected = some c.continuity then r.discontinuities else satInc max16 r.discontinuities
      expected := some (c.continuity + 1#4), ctx := some x } := by rw [take_eq]
  have at_taken : (r.take c).port = port := at_port
  by_cases clear : c.parity = .clear
  · have before_eq : (if r.broken c = true then ctx.abandon else ctx) = before := by
      rw [broken_eq]
      exact if_congr decide_eq_true_iff rfl rfl
    have run := sectionsCell_of_clear (s := s1) (r := r.take c) s1_held use has clear (r.broken c)
    rw [before_eq, s1_routes, s1_queues, s1_enu, others_of_taken held has (show (r.take c).ctx = some ctx from has)] at run
    dsimp only at run
    rw [List.set_set] at run
    generalize out_eq : sectionOut (r.take c).port (r.take c) classes s.enu.group _ c before s.queues = out at run
    rw [show sectionsCell k (r.take c) (r.broken c) c s1 = _ from run] at answered
    refine ⟨_, out.1, answered, fun scrambled => absurd clear scrambled, fun _ start => ?_, fun _ start => ?_, ?_, ?_, ?_, ?_⟩
    · rw [sectionOut, if_pos start] at out_eq
      have starts := startCell_starts (r.take c).port (r.take c).stream classes s.enu.group others c.payload n s.queues
      have out_is : startCell (r.take c).port (r.take c).stream classes s.enu.group (poolSize - others) c.payload n s.queues = out :=
        out_eq
      rw [out_is, at_taken] at starts
      exact starts
    · rw [sectionOut, if_neg (by simp [start])] at out_eq
      have continues := continuationCell_continues (r.take c).port (r.take c).stream c.payload before s.queues
      rw [out_eq, at_taken] at continues
      exact continues
    · exact congrArg _ (taken out.1)
    · rw [s1_serial, if_pos clear]
      rfl
    · exact s1_others
    · exact congrArg (fun t : State =>
        { t with routes := s.routes.set k (some { r.take c with ctx := some out.1 }), queues := out.2, enu := s.enu }) s1_eq
  · have run := sectionsCell_of_scrambled (s := s1) (r := r.take c) s1_held has
      at_taken (ne_l_of_serial serial) ((slot_isSome_iff kept).mpr clear) (r.broken c)
    rw [s1_routes, List.set_set] at run
    rw [run] at answered
    refine ⟨_, ctx.abandon, answered, fun _ => ⟨rfl, ?_⟩, fun is => absurd is clear, fun is => absurd is clear, ?_, ?_, ?_, ?_⟩
    · simp [s1]
    · refine (show _ = s.routes.set k (some { r.take c with ctx := some ctx.abandon }) by simp).trans ?_
      exact congrArg _ (taken ctx.abandon)
    · rw [serial_withSerial, if_neg clear]
      exact congrArg _ s1_serial
    · exact fun other differs => (serial_withSerial_of_ne differs _ _).trans (s1_others other differs)
    · cases port <;> rfl

end Sys2Proof.Machine
end

section
/-! What a cell does besides its route table does not read the table (R11, R16 to R18, R31). -/

namespace Sys2Proof.Machine

/-- The part with another route table. -/
def State.reroute (table : List (Option Route)) (s : State) : State := { s with routes := table }

section
variable (table : List (Option Route)) (s : State)

theorem emit_reroute (e : Event) : emit e (s.reroute table) = (emit e s).reroute table := by
  rw [emit_eq, emit_eq]
  rfl

theorem emitAll_reroute (es : List Event) : emitAll es (s.reroute table) = (emitAll es s).reroute table := by
  rw [emitAll_eq, emitAll_eq]
  rfl

theorem withSerial_reroute (port : Port) (f : SerialPort → SerialPort) :
    withSerial port f (s.reroute table) = (withSerial port f s).reroute table := by
  cases port <;> rfl

theorem countParityError_reroute (port : Port) : countParityError port (s.reroute table) = (countParityError port s).reroute table := by
  rw [countParityError, withSerial_reroute]
  rfl

theorem countUnkeyed_reroute (port : Port) : countUnkeyed port (s.reroute table) = (countUnkeyed port s).reroute table := by
  cases port <;> rfl

theorem stampArrival_reroute (payload : List Byte) :
    stampArrival payload (s.reroute table) = (stampArrival payload s).reroute table := by
  rw [stampArrival, stampArrival, show (s.reroute table).tmb = s.tmb from rfl]
  generalize s.tmb.stamp (stampOf payload).1 (stampOf payload).2 = out
  exact emitAll_reroute table (sendAll out.1.check.2.handovers { s with tmb := out.1.check.1 }) _

theorem postDsc_reroute (noKey notEntitled : Bool) :
    postDsc noKey notEntitled (s.reroute table) = (postDsc noKey notEntitled s).reroute table := by
  rw [postDsc_eq, postDsc_eq]
  rfl

theorem gateEvent_reroute (change : Pgt → Pgt) : gateEvent change (s.reroute table) = (gateEvent change s).reroute table := by
  simp only [gateEvent_eq, emit_eq]
  rfl

theorem takeDscPosting_reroute : takeDscPosting (s.reroute table) = (takeDscPosting s).reroute table := by
  rw [takeDscPosting, takeDscPosting, show (s.reroute table).nextIn .dscToPgt = s.nextIn .dscToPgt from rfl]
  split
  · exact gateEvent_reroute table (s.taking .dscToPgt) _
  · rfl

theorem gateCatchUp_dsc_reroute : gateCatchUp [.dscToPgt] (s.reroute table) = (gateCatchUp [.dscToPgt] s).reroute table := by
  rw [gateCatchUp, gateCatchUp, show (s.reroute table).inFlight = s.inFlight from rfl]
  generalize s.inFlight = waiting
  induction waiting generalizing s with
  | nil => rfl
  | cons h rest ih =>
    rw [List.foldl_cons, List.foldl_cons, ← ih]
    congr 1
    split
    · rename_i mine
      obtain is : h.channel = .dscToPgt := by simpa using mine
      rw [is]
      exact takeDscPosting_reroute table s
    · rfl

theorem sendPresent_reroute (use : RouteUse) (c : Cell) :
    sendPresent use c (s.reroute table) = (sendPresent use c s).reroute table := by
  cases use <;> rfl

/-- A scrambled cell at the ACTIVE record reads nothing of the table. -/
theorem scrambledCell_reroute (r : KeyRecord) (k : Slot) (c : Cell) : scrambledCell r k c (s.reroute table)
    = ((scrambledCell r k c s).1, (scrambledCell r k c s).2.reroute table) := by
  rw [scrambledCell, scrambledCell]
  split
  · refine Prod.ext rfl ?_
    refine Eq.trans ?_ (gateCatchUp_dsc_reroute table _)
    exact congrArg (gateCatchUp [.dscToPgt]) (postDsc_reroute table
      { s with dsc := { s.dsc with active := some { r with live := some k } } } false s.dsc.notEntitled)
  · refine Prod.ext rfl ?_
    exact postDsc_reroute table
      { s with dsc := { s.dsc with active := some { r with noKeyCells := satInc max32 r.noKeyCells } } } true s.dsc.notEntitled

theorem clearCell_reroute (r : Route) (c : Cell) : clearCell r c (s.reroute table)
    = ((clearCell r c s).1, (clearCell r c s).2.reroute table) := by
  rw [clearCell, clearCell, show (s.reroute table).dsc = s.dsc from rfl]
  split
  · rfl
  · split
    · exact scrambledCell_reroute table s _ _ _
    · exact Prod.ext rfl (countUnkeyed_reroute table s _)

theorem forward_reroute (r : Route) (broken : Bool) (c : Cell) :
    forward r broken c (s.reroute table) = (forward r broken c s).reroute table := by
  rw [forward, forward, clearCell_reroute]
  exact sendPresent_reroute table _ _ _

end

/-- A parity reported outside WAIT_KEY (R17). -/
theorem parityReport_of_calm {s : State} (elsewhere : s.cce.engine ≠ .waitKey) (slot : Slot) : parityReport slot s
    = { s with cce := { s.cce with change := s.cce.change.map fun change => { change with parity := some slot } } } := by
  rcases running : s.cce.change with _ | change
  · simp only [parityReport, running]
    rw [Option.map_none, ← running]
  · simp only [parityReport, running]
    exact testWaitKey_of_elsewhere elsewhere

/-- An ARMED present route that cannot end WAIT_KEY with this cell, and for which it is no splice point (R17). -/
theorem observe_of_calm {s : State} {c : Cell} (quiet : c.parity.slot = none ∨ s.cce.engine ≠ .waitKey)
    (unmarked : c.start = false ∨ c.marker = false) (k : Nat) (r : Route) : observe k r c s = { s with
      cce := { s.cce with change := match c.parity.slot with
        | some slot => s.cce.change.map fun change => { change with parity := some slot }
        | none => s.cce.change } } := by
  have unspliced (u : State) : ¬ (r.use == .video && c.start && c.marker && u.cce.engine == .waitSplice) = true := by
    rcases unmarked with start | marker
    · simp [start]
    · simp [marker]
  rw [observe]
  refine (if_neg (unspliced _)).trans ?_
  cases scrambled : c.parity.slot with
  | none => rfl
  | some slot =>
    exact parityReport_of_calm (quiet.resolve_left (by simp [scrambled])) slot

end Sys2Proof.Machine
end

section
/-! What a cell used at one entry leaves of the rest of the part (R11, R16 to R18, R31). -/

namespace Sys2Proof.Machine

/-! ### What a cell at one entry leaves of the others (R11, R31) -/

/-- A route whose use of a cell leaves the other entries alone: it is LIVE, assembles sections, or observes a cell that can neither
end WAIT_KEY nor be a splice point. -/
def Route.Calm (r : Route) (c : Cell) (s : State) : Prop :=
  r.state = .live ∨ (∃ classes, r.use = .sections classes)
    ∨ (c.parity.slot = none ∨ s.cce.engine ≠ .waitKey) ∧ (c.start = false ∨ c.marker = false)

/-- A cell used by anything but a SECTIONS route reads nothing of the table. -/
theorem useCell_reroute {r : Route} {c : Cell} {s : State} (calm : r.Calm c s) (plain : ∀ classes, r.use ≠ .sections classes)
    (k : Nat) (broken : Bool) (table : List (Option Route)) :
    useCell k r broken c (s.reroute table) = (useCell k r broken c s).reroute table := by
  have present : (if r.state = .live then forward r broken c (s.reroute table) else observe k r c (s.reroute table))
      = (if r.state = .live then forward r broken c s else observe k r c s).reroute table := by
    by_cases live : r.state = .live
    · rw [if_pos live, if_pos live, forward_reroute]
    · obtain ⟨quiet, unmarked⟩ := (calm.resolve_left live).resolve_left fun ⟨classes, use⟩ => plain classes use
      rw [if_neg live, if_neg live, observe_of_calm quiet unmarked, observe_of_calm (s := s.reroute table) quiet unmarked]
      rfl
  cases use : r.use with
  | sections classes => exact absurd use (plain classes)
  | video | audio | data =>
    rw [useCell, useCell, use]
    exact present
  | stamps =>
    rw [useCell, useCell, use]
    by_cases scrambled : c.parity.slot.isSome = true
    · exact (if_pos scrambled).trans ((countParityError_reroute table s r.port).trans (congrArg _ (if_pos scrambled).symm))
    · exact (if_neg scrambled).trans ((stampArrival_reroute table s c.payload).trans (congrArg _ (if_neg scrambled).symm))
  | control =>
    rw [useCell_of_control use, useCell_of_control use]
    by_cases scrambled : c.parity.slot.isSome = true
    · rw [if_pos scrambled, if_pos scrambled, countParityError_reroute]
    · rw [if_neg scrambled, if_neg scrambled]
      rfl
  | pass =>
    rw [useCell_of_pass use, useCell_of_pass use]
    rfl

/-- A SECTIONS route without a context counts a scrambled cell and does nothing else. -/
theorem sectionsCell_of_no_context {s : State} {k : Nat} {r : Route} {c : Cell} (held : s.routes[k]? = some (some r))
    (none : r.ctx = none) (broken : Bool) :
    sectionsCell k r broken c s = if c.parity.slot.isSome then countParityError r.port s else s := by
  have unchanged (t : State) (same : t.routes = s.routes) : abandonEntry k t = t := by
    have at_k : t.routes[k]? = some (some r) := by rw [same, held]
    have kept : r.abandon = r := by
      rw [Route.abandon, none, Option.map_none, ← none]
    obtain ⟨inside, is⟩ := List.getElem?_eq_some_iff.mp at_k
    rw [abandonEntry_of_route at_k, kept, ← is, List.set_getElem_self]
  have idle : assemble k c s = s := by
    rw [assemble, RouteTable.route_eq_some.mpr held]
    simp only [none]
  rw [sectionsCell, unchanged _ (by simp), unchanged s rfl, ite_self, idle]

/-- A buffer count does not see an entry replaced by a route with the same context. -/
theorem buffersInUse_of_same {t : List (Option Route)} {j : Nat} {y y' : Route} (at_j : t[j]? = some (some y)) (same : y'.ctx = y.ctx)
    (q : Queues) : buffersInUse (t.set j (some y')) q = buffersInUse t q := by
  obtain ⟨inside, is⟩ := List.getElem?_eq_some_iff.mp at_j
  have alike : entryHoldsBuffer (some y') = entryHoldsBuffer t[j] := by
    rw [is, entryHoldsBuffer, entryHoldsBuffer, Option.bind_some, Option.bind_some, same]
  have counted : (if entryHoldsBuffer t[j] = true then 1 else 0) ≤ t.countP entryHoldsBuffer := by
    split
    · rename_i holds
      exact List.countP_pos_iff.mpr ⟨t[j], List.getElem_mem inside, holds⟩
    · exact Nat.zero_le _
  rw [buffersInUse, buffersInUse, List.countP_set inside, alike]
  omega

/-- The part with the route of one entry replaced. -/
def State.withEntry (j : Nat) (y : Route) (s : State) : State := s.reroute (s.routes.set j (some y))

/-- What reads nothing of the table leaves it, and commutes with a replaced entry. -/
theorem withEntry_of_reroute {f : State → State} {s : State} (blind : ∀ table, f (s.reroute table) = (f s).reroute table)
    (j : Nat) (y : Route) : f (s.withEntry j y) = (f s).withEntry j y := by
  have kept : (f s).routes = s.routes := by
    have same := congrArg State.routes (blind s.routes)
    exact same
  rw [State.withEntry, State.withEntry, blind, kept]

section
variable {s : State} {k j : Nat} {r y y' : Route} {c : Cell}

theorem sectionsCell_swap {classes : List SectionClass} (held : s.routes[k]? = some (some r)) (use : r.use = .sections classes)
    (serial : r.port ≠ .l) (kept : c.parity ≠ .reserved) (apart : j ≠ k) (at_j : s.routes[j]? = some (some y))
    (same : y'.ctx = y.ctx) (broken : Bool) :
    sectionsCell k r broken c (s.withEntry j y') = (sectionsCell k r broken c s).withEntry j y' := by
  have held' : (s.withEntry j y').routes[k]? = some (some r) := (List.getElem?_set_ne apart).trans held
  cases has : r.ctx with
  | none =>
    rw [sectionsCell_of_no_context held has, sectionsCell_of_no_context held' has]
    split
    · exact withEntry_of_reroute (fun table => countParityError_reroute table s r.port) j y'
    · rfl
  | some ctx =>
    by_cases clear : c.parity = .clear
    · have here := sectionsCell_of_clear held use has clear broken
      have there := sectionsCell_of_clear held' use has clear broken
      dsimp only at here there
      rw [here, there, show (s.withEntry j y').routes = s.routes.set j (some y') from rfl,
        show (s.withEntry j y').queues = s.queues from rfl, buffersInUse_of_same at_j same, List.set_comm _ _ apart]
      rfl
    · have scrambled := (slot_isSome_iff kept).mpr clear
      rw [sectionsCell_of_scrambled held has rfl serial scrambled, sectionsCell_of_scrambled held' has rfl serial scrambled,
        ← withEntry_of_reroute fun table => withSerial_reroute table _ _ _]
      exact congrArg _ (congrArg (fun table => s.reroute table) (List.set_comm _ _ apart))

theorem useCell_swap (held : s.routes[k]? = some (some r)) (calm : r.Calm c s) (serial : r.port ≠ .l) (kept : c.parity ≠ .reserved)
    (apart : j ≠ k) (at_j : s.routes[j]? = some (some y)) (same : y'.ctx = y.ctx) (broken : Bool) :
    useCell k r broken c (s.withEntry j y') = (useCell k r broken c s).withEntry j y' := by
  by_cases sections : ∃ classes, r.use = .sections classes
  · obtain ⟨classes, use⟩ := sections
    rw [useCell_of_sections use, useCell_of_sections use, sectionsCell_swap held use serial kept apart at_j same]
  · exact withEntry_of_reroute (useCell_reroute calm (not_exists.mp sections) k broken) j y'

/-- What a cell used at one entry leaves: the other entries, the clock, the engine unless the route is ARMED, and the port's record
but for its parity errors. -/
structure UsedAt (k : Nat) (r : Route) (s t : State) : Prop where
  routes : ∃ x, t.routes = s.routes.set k (some x)
  localTime : t.tmb.localTime = s.tmb.localTime
  cce : r.state = .live → t.cce = s.cce
  serial : ∀ port p, s.cin.serial port = some p → ∃ errors, t.cin.serial port = some { p with parityErrors := errors }

/-- A parity error on a serial port, in the records of the ports. -/
theorem countParityError_serial {q : Port} (serial : q ≠ .l) (s : State) {port : Port} {p : SerialPort}
    (at_port : s.cin.serial port = some p) :
    ∃ errors, (countParityError q s).cin.serial port = some { p with parityErrors := errors } := by
  rw [countParityError_of_serial serial]
  by_cases same : port = q
  · subst same
    exact ⟨_, by rw [serial_withSerial, at_port]; rfl⟩
  · exact ⟨p.parityErrors, by rw [serial_withSerial_of_ne same, at_port]⟩

theorem countParityError_usedAt (held : s.routes[k]? = some (some r)) {q : Port} (serial : q ≠ .l) :
    UsedAt k r s (countParityError q s) := by
  obtain ⟨inside, is⟩ := List.getElem?_eq_some_iff.mp held
  refine ⟨⟨r, ?_⟩, by simp, fun _ => by simp, fun port p at_port => countParityError_serial serial s at_port⟩
  rw [← is, List.set_getElem_self]
  simp

theorem usedAt_of_same {t : State} (held : s.routes[k]? = some (some r)) (routes : t.routes = s.routes)
    (localTime : t.tmb.localTime = s.tmb.localTime) (cce : r.state = .live → t.cce = s.cce)
    (serial : ∀ port, t.cin.serial port = s.cin.serial port) : UsedAt k r s t := by
  obtain ⟨inside, is⟩ := List.getElem?_eq_some_iff.mp held
  refine ⟨⟨r, ?_⟩, localTime, cce, fun port p at_port => ⟨p.parityErrors, (serial port).trans at_port⟩⟩
  rw [← is, List.set_getElem_self, routes]

theorem sectionsCell_usedAt {classes : List SectionClass} (held : s.routes[k]? = some (some r)) (use : r.use = .sections classes)
    (serial : r.port ≠ .l) (kept : c.parity ≠ .reserved) (broken : Bool) : UsedAt k r s (sectionsCell k r broken c s) := by
  cases has : r.ctx with
  | none =>
    rw [sectionsCell_of_no_context held has]
    split
    · exact countParityError_usedAt held serial
    · exact usedAt_of_same held rfl rfl (fun _ => rfl) fun _ => rfl
  | some ctx =>
    by_cases clear : c.parity = .clear
    · have used := sectionsCell_of_clear held use has clear broken
      dsimp only at used
      rw [used]
      exact ⟨⟨_, rfl⟩, rfl, fun _ => rfl, fun port p at_port => ⟨p.parityErrors, at_port⟩⟩
    · rw [sectionsCell_of_scrambled held has rfl serial ((slot_isSome_iff kept).mpr clear), ← countParityError_of_serial serial]
      exact ⟨⟨{ r with ctx := some ctx.abandon }, by simp⟩, by simp, fun _ => by simp,
        fun port p at_port => countParityError_serial serial _ at_port⟩

theorem stampArrival_localTime (payload : List Byte) (s : State) : (stampArrival payload s).tmb.localTime = s.tmb.localTime := by
  have checked (t : Tmb) : t.check.1.localTime = t.localTime := by
    rw [Tmb.check]
    split
    · rfl
    split
    · rfl
    split
    · split <;> rfl
    · rfl
  have stamped (t : Tmb) (stamp : NetTime) (flag : Bool) : (t.stamp stamp flag).1.localTime = t.localTime := by
    rw [Tmb.stamp]
    split
    · rfl
    split
    · rfl
    split
    · rfl
    · rw [Tmb.pullIn, apply_ite Prod.fst, apply_ite Tmb.localTime]
      exact ite_self _
  rw [stampArrival, applyCheck, emitAll_eq]
  exact (checked _).trans (stamped _ _ _)

theorem forward_serial (broken : Bool) (port : Port) : (forward r broken c s).cin.serial port = s.cin.serial port := by
  have cleared : (clearCell r c s).2.cin.serial port = s.cin.serial port := by
    rw [clearCell]
    split
    · rfl
    · split
      · simp
      · rw [countUnkeyed]
        split
        · cases port <;> rfl
        · rfl
  rw [forward]
  simpa using cleared

theorem useCell_usedAt (held : s.routes[k]? = some (some r)) (calm : r.Calm c s) (serial : r.port ≠ .l) (kept : c.parity ≠ .reserved)
    (broken : Bool) : UsedAt k r s (useCell k r broken c s) := by
  have present (plain : ∀ classes, r.use ≠ .sections classes) : UsedAt k r s (if r.state = .live then forward r broken c s else observe k r c s) := by
    by_cases live : r.state = .live
    · rw [if_pos live]
      exact usedAt_of_same held (by simp) (by simp) (fun _ => by simp) (forward_serial broken)
    · obtain ⟨quiet, unmarked⟩ := (calm.resolve_left live).resolve_left fun ⟨classes, use⟩ => plain classes use
      rw [if_neg live, observe_of_calm quiet unmarked]
      exact usedAt_of_same held rfl rfl (fun is => absurd is live) fun _ => rfl
  cases use : r.use with
  | sections classes =>
    rw [useCell_of_sections use]
    exact sectionsCell_usedAt held use serial kept broken
  | video | audio | data =>
    rw [useCell, use]
    exact present (by simp [use])
  | stamps =>
    by_cases scrambled : c.parity.slot.isSome = true
    · have counted : useCell k r broken c s = countParityError r.port s := by
        rw [useCell, use]
        exact if_pos scrambled
      rw [counted]
      exact countParityError_usedAt held serial
    · have handled : useCell k r broken c s = stampArrival c.payload s := by
        rw [useCell, use]
        exact if_neg scrambled
      rw [handled]
      exact usedAt_of_same held (by simp) (stampArrival_localTime _ s) (fun _ => by simp) fun _ => by simp
  | control =>
    rw [useCell_of_control use]
    split
    · exact countParityError_usedAt held serial
    · exact usedAt_of_same held rfl rfl (fun _ => rfl) fun _ => rfl
  | pass =>
    rw [useCell_of_pass use]
    exact usedAt_of_same held rfl rfl (fun _ => rfl) fun _ => rfl

end

end Sys2Proof.Machine
end

section
/-! Cells that two routes take, one after the other, and cells that PASS routes take or none (R7, R11, R31). -/

namespace Sys2Proof.Machine

/-- A replaced entry that the test tells as little of as of the one before does not move a find. -/
theorem RouteTable.find_set_of_same {t : List (Option Route)} {j : Nat} {y y' : Route} (at_j : t[j]? = some (some y))
    {q : Route → Bool} (same : q y' = q y) : RouteTable.find (t.set j (some y')) q = RouteTable.find t q := by
  obtain ⟨inside, is⟩ := List.getElem?_eq_some_iff.mp at_j
  have tests (u : List (Option Route)) : RouteTable.find u q = (u.map fun entry => entry.any q).findIdx? id := by
    rw [List.findIdx?_map]
    rfl
  rw [tests, tests, List.map_set, Option.any_some, same, show q y = (t.map fun entry => entry.any q)[j]'(by simpa using inside) by
    rw [List.getElem_map, is, Option.any_some], List.set_getElem_self]

/-- A LIVE and an ARMED route of one port and stream, which a cell of the stream reaches, and no third. -/
structure State.Shared (s : State) (port : Port) (p : SerialPort) (c : Cell) (k k' : Nat) (r r' : Route) : Prop where
  receives : s.Receives port p
  full : c.payload.length = 156
  sync : c.sync = syncByte
  kept : c.parity ≠ .reserved
  stream : c.stream ≠ 4095#12
  live : RouteTable.find s.routes (Route.isAt port c.stream.toNat .live) = some k
  held : s.routes[k]? = some (some r)
  armed : RouteTable.find s.routes (Route.isAt port c.stream.toNat .armed) = some k'
  held' : s.routes[k']? = some (some r')
  alone : ∀ j q, s.routes[j]? = some (some q) → q.port = port → q.stream = c.stream.toNat → j = k ∨ j = k'

/-- The part once a route has taken a cell, before the cell is used (R3, R6, R11, R12). -/
def State.receivedAt (s : State) (port : Port) (c : Cell) (k : Nat) (r : Route) : State :=
  withSerial port (receivedCell s.tmb.localTime) { s with routes := s.routes.set k (some (r.take c)) }

/-- The part once a route has used a cell. -/
def State.usedAt (s : State) (port : Port) (c : Cell) (k : Nat) (r : Route) : State :=
  useCell k (r.take c) (r.broken c) c (s.receivedAt port c k r)

section
variable {s : State} {port : Port} {p : SerialPort} {c : Cell} {k k' : Nat} {r r' : Route}

theorem receivedAt_routes (s : State) (port : Port) (c : Cell) (k : Nat) (r : Route) :
    (s.receivedAt port c k r).routes = s.routes.set k (some (r.take c)) := by simp [State.receivedAt]

theorem receivedAt_held (held : s.routes[k]? = some (some r)) (port : Port) (c : Cell) :
    (s.receivedAt port c k r).routes[k]? = some (some (r.take c)) := by
  rw [receivedAt_routes, List.getElem?_set_self (List.getElem?_eq_some_iff.mp held).1]

theorem receivedAt_withEntry {j : Nat} (apart : j ≠ k) (y : Route) :
    (s.withEntry j y).receivedAt port c k r = (s.receivedAt port c k r).withEntry j y := by
  rw [State.receivedAt, State.receivedAt, ← withEntry_of_reroute fun table => withSerial_reroute table _ _ _]
  exact congrArg _ (congrArg (fun table => s.reroute table) (List.set_comm _ _ apart))

theorem stream_lt (c : Cell) : c.stream.toNat < 4096 := c.stream.isLt

namespace State.Shared

variable (h : s.Shared port p c k k' r r')
include h

theorem live_state : r.port = port ∧ r.stream = c.stream.toNat ∧ r.state = .live := by
  obtain ⟨q, held, test⟩ := RouteTable.find_eq_some h.live
  cases h.held.symm.trans held
  exact (isAt_iff _ _ _ _).mp test

theorem armed_state : r'.port = port ∧ r'.stream = c.stream.toNat ∧ r'.state = .armed := by
  obtain ⟨q, held, test⟩ := RouteTable.find_eq_some h.armed
  cases h.held'.symm.trans held
  exact (isAt_iff _ _ _ _).mp test

theorem apart : k' ≠ k := by
  rintro rfl
  cases h.held.symm.trans h.held'
  exact RouteState.noConfusion (h.live_state.2.2.symm.trans h.armed_state.2.2)

theorem inside' : k' < s.routes.length := (List.getElem?_eq_some_iff.mp h.held').1

theorem serial : port ≠ .l := ne_l_of_serial h.receives.held

/-- What the LIVE route's use leaves. -/
theorem live_usedAt : UsedAt k (r.take c) (s.receivedAt port c k r) (s.usedAt port c k r) :=
  useCell_usedAt (receivedAt_held h.held port c) (.inl h.live_state.2.2) (h.live_state.1.trans_ne h.serial) h.kept _

theorem usedAt_routes : ∃ x, (s.usedAt port c k r).routes = s.routes.set k (some x) := by
  obtain ⟨x, routes⟩ := h.live_usedAt.routes
  exact ⟨x, by rw [routes, receivedAt_routes, List.set_set]⟩

/-- The LIVE route is first, and the ARMED one next (R11). -/
theorem exec_eq : exec (.cellArrival port c.toBytes) s = .next (takeCell k' c (s.usedAt port c k r)) := by
  have routes : (withSerial port (receivedCell s.tmb.localTime) s).routes = s.routes := by simp
  have taken := takeCell_of_route (s := withSerial port (receivedCell s.tmb.localTime) s) (routes ▸ h.held) c
  rw [routes, withSerial_routes] at taken
  rw [exec_cellArrival_of_stream h.receives h.full h.sync h.kept h.stream, lookup, routes, h.live, h.armed]
  exact congrArg (fun u => Host.Outcome.next (takeCell k' c u)) taken

/-- The cell with the ARMED route moved off its stream: the LIVE route alone takes it. -/
theorem exec_moved {away : Route} (stream : away.stream = 4096) (same : away.ctx = r'.ctx) :
    exec (.cellArrival port c.toBytes) (s.withEntry k' away) = .next ((s.usedAt port c k r).withEntry k' away) := by
  have off (state : RouteState) : away.isAt port c.stream.toNat state = false := by
    rw [Bool.eq_false_iff, ne_eq, isAt_iff, stream]
    have := stream_lt c
    omega
  have live : RouteTable.find (s.withEntry k' away).routes (Route.isAt port c.stream.toNat .live) = some k := by
    refine (RouteTable.find_set_of_same h.held' ?_).trans h.live
    rw [off, eq_comm, Bool.eq_false_iff, ne_eq, isAt_iff, h.armed_state.2.2]
    simp
  have armed : RouteTable.find (s.withEntry k' away).routes (Route.isAt port c.stream.toNat .armed) = none := by
    refine RouteTable.find_eq_none.mpr fun q member => ?_
    obtain ⟨j, at_j⟩ := List.mem_iff_getElem?.mp member
    by_cases moved : k' = j
    · subst moved
      rw [show (s.withEntry k' away).routes = s.routes.set k' (some away) from rfl, List.getElem?_set_self h.inside'] at at_j
      cases at_j
      exact off .armed
    · rw [show (s.withEntry k' away).routes = s.routes.set k' (some away) from rfl, List.getElem?_set_ne moved] at at_j
      rw [Bool.eq_false_iff, ne_eq, isAt_iff]
      rintro ⟨at_port, at_stream, at_state⟩
      obtain rfl := (h.alone j q at_j at_port at_stream).resolve_right (Ne.symm moved)
      cases h.held.symm.trans at_j
      exact RouteState.noConfusion (h.live_state.2.2.symm.trans at_state)
  have receives : (s.withEntry k' away).Receives port p :=
    ⟨h.receives.running, h.receives.held, h.receives.locked, h.receives.empty, h.receives.awake⟩
  have held : (s.withEntry k' away).routes[k]? = some (some r) := (List.getElem?_set_ne h.apart).trans h.held
  have held' : (s.receivedAt port c k r).routes[k']? = some (some r') := by
    rw [receivedAt_routes, List.getElem?_set_ne h.apart.symm, h.held']
  refine (exec_cellArrival_of_route receives h.full h.sync h.kept h.stream (.inl ⟨live, armed⟩) held).trans ?_
  refine congrArg _ ?_
  refine (congrArg (useCell k (r.take c) (r.broken c) c) (receivedAt_withEntry h.apart away)).trans ?_
  exact useCell_swap (receivedAt_held h.held port c) (.inl h.live_state.2.2) (h.live_state.1.trans_ne h.serial) h.kept h.apart
    held' same _

/-- The ARMED route's use of the cell. -/
theorem takeCell_armed : takeCell k' c (s.usedAt port c k r) = useCell k' (r'.take c) (r'.broken c) c
    { s.usedAt port c k r with routes := (s.usedAt port c k r).routes.set k' (some (r'.take c)) } := by
  obtain ⟨x, routes⟩ := h.usedAt_routes
  exact takeCell_of_route (by rw [routes, List.getElem?_set_ne h.apart.symm, h.held']) c

/-- The ARMED route's use leaves the LIVE route's entry. -/
theorem takeCell_armed_routes (calm : (r'.take c).Calm c s) :
    (takeCell k' c (s.usedAt port c k r)).routes[k]? = (s.usedAt port c k r).routes[k]? := by
  have cce : (s.usedAt port c k r).cce = s.cce := (h.live_usedAt.cce h.live_state.2.2).trans (by simp [State.receivedAt])
  have inside' : k' < (s.usedAt port c k r).routes.length := by
    obtain ⟨x, routes⟩ := h.usedAt_routes
    rw [routes, List.length_set]
    exact h.inside'
  rw [h.takeCell_armed]
  have used := useCell_usedAt (c := c)
    (s := { s.usedAt port c k r with routes := (s.usedAt port c k r).routes.set k' (some (r'.take c)) })
    (List.getElem?_set_self inside') (by simpa only [Route.Calm, cce] using calm) (h.armed_state.1.trans_ne h.serial) h.kept
    (r'.broken c)
  obtain ⟨y, routes⟩ := used.routes
  rw [routes, List.set_set, List.getElem?_set_ne h.apart]

/-- The part after the LIVE route's use, the LIVE route moved off its stream and the cell's reception taken back. -/
theorem exec_second {x away : Route} (is : (s.usedAt port c k r).routes[k]? = some (some x)) (stream : away.stream = 4096)
    (same : away.ctx = x.ctx) (calm : (r'.take c).Calm c s) :
    exec (.cellArrival port c.toBytes)
        (withSerial port (fun q => { q with received := p.received }) ((s.usedAt port c k r).withEntry k away))
      = .next ((takeCell k' c (s.usedAt port c k r)).withEntry k away) := by
  have used := h.live_usedAt
  obtain ⟨x', routes⟩ := h.usedAt_routes
  have inside := (List.getElem?_eq_some_iff.mp h.held).1
  obtain rfl : x' = x := by
    rw [routes, List.getElem?_set_self inside] at is
    exact Option.some.inj (Option.some.inj is)
  have record : (s.receivedAt port c k r).cin.serial port = some (receivedCell s.tmb.localTime p) := by
    rw [State.receivedAt, serial_withSerial, show ({ s with routes := _ } : State).cin = s.cin from rfl, h.receives.held]
    rfl
  obtain ⟨errors, record⟩ := used.serial port _ record
  have localTime : (s.usedAt port c k r).tmb.localTime = s.tmb.localTime := used.localTime.trans (by simp [State.receivedAt])
  have cce : (s.usedAt port c k r).cce = s.cce := (used.cce h.live_state.2.2).trans (by simp [State.receivedAt])
  have running : (s.usedAt port c k r).running = true := by
    have := h.receives.running
    simpa [State.usedAt, State.receivedAt, State.running] using this
  rw [h.takeCell_armed]
  generalize s.usedAt port c k r = w at *
  have off (state : RouteState) : away.isAt port c.stream.toNat state = false := by
    rw [Bool.eq_false_iff, ne_eq, isAt_iff, stream]
    have := stream_lt c
    omega
  let s2 : State := withSerial port (fun q => { q with received := p.received }) (w.withEntry k away)
  have s2_table : s2.routes = w.routes.set k (some away) := by simp [s2, State.withEntry, State.reroute]
  have s2_routes : s2.routes = s.routes.set k (some away) := by rw [s2_table, routes, List.set_set]
  have s2_localTime : s2.tmb.localTime = s.tmb.localTime := by simpa [s2, State.withEntry, State.reroute] using localTime
  have receives : s2.Receives port { receivedCell s.tmb.localTime p with parityErrors := errors, received := p.received } := by
    refine ⟨?_, ?_, h.receives.locked, h.receives.empty, h.receives.awake⟩
    · simpa [s2, State.running, State.withEntry, State.reroute] using running
    · rw [serial_withSerial, show (w.withEntry k away).cin = w.cin from rfl, record]
      rfl
  have live : RouteTable.find s2.routes (Route.isAt port c.stream.toNat .live) = none := by
    rw [s2_routes]
    refine RouteTable.find_eq_none.mpr fun q member => ?_
    obtain ⟨j, at_j⟩ := List.mem_iff_getElem?.mp member
    by_cases moved : k = j
    · subst moved
      rw [List.getElem?_set_self inside] at at_j
      cases at_j
      exact off .live
    · rw [List.getElem?_set_ne moved] at at_j
      rw [Bool.eq_false_iff, ne_eq, isAt_iff]
      rintro ⟨at_port, at_stream, at_state⟩
      obtain rfl := (h.alone j q at_j at_port at_stream).resolve_left (Ne.symm moved)
      cases h.held'.symm.trans at_j
      exact RouteState.noConfusion (h.armed_state.2.2.symm.trans at_state)
  have armed : RouteTable.find s2.routes (Route.isAt port c.stream.toNat .armed) = some k' := by
    rw [s2_routes]
    refine (RouteTable.find_set_of_same h.held ?_).trans h.armed
    rw [off, eq_comm, Bool.eq_false_iff, ne_eq, isAt_iff, h.live_state.2.2]
    simp
  have held' : s2.routes[k']? = some (some r') := by rw [s2_routes, List.getElem?_set_ne h.apart.symm, h.held']
  refine (exec_cellArrival_of_route receives h.full h.sync h.kept h.stream (.inr ⟨live, armed⟩) held').trans ?_
  refine congrArg _ ?_
  let w0 : State := { w with routes := w.routes.set k' (some (r'.take c)) }
  have state : withSerial port (receivedCell s2.tmb.localTime) { s2 with routes := s2.routes.set k' (some (r'.take c)) }
      = w0.withEntry k away := by
    rw [s2_table, s2_localTime, withSerial_routes, withSerial_withSerial, List.set_comm _ _ h.apart.symm]
    refine withSerial_of_fixed fun q at_port => ?_
    cases record.symm.trans at_port
    rfl
  rw [state]
  exact useCell_swap (s := w0) (y := x') (List.getElem?_set_self (by rw [routes, List.length_set]; exact h.inside'))
    (by rw [Route.Calm, show w0.cce = s.cce from cce]; exact calm) (h.armed_state.1.trans_ne h.serial) h.kept h.apart.symm
    (by rw [show w0.routes = w.routes.set k' _ from rfl, List.getElem?_set_ne h.apart, is]) same _

end State.Shared
end

/-! ### PASS routes, and cells that no route takes (R7, R11, R18) -/

/-- A cell of a PASS route leaves as it came. -/
theorem exec_cellArrival_of_pass {s : State} {port : Port} {p : SerialPort} {c : Cell} {k : Nat} {r : Route} (h : s.Receives port p)
    (full : c.payload.length = 156) (sync : c.sync = syncByte) (clear : c.parity ≠ .reserved) (stream : c.stream ≠ 4095#12)
    (live : RouteTable.find s.routes (Route.isAt port c.stream.toNat .live) = some k)
    (armed : RouteTable.find s.routes (Route.isAt port c.stream.toNat .armed) = none) (held : s.routes[k]? = some (some r))
    (pass : r.use = .pass) : exec (.cellArrival port c.toBytes) s = .next (withSerial port (receivedCell s.tmb.localTime)
      { s with
        routes := s.routes.set k (some (r.take c))
        lanes := { s.lanes with waiting := s.lanes.waiting ++ [c] } }) := by
  rw [exec_cellArrival_of_route h full sync clear stream (.inl ⟨live, armed⟩) held, useCell_of_pass (r := r.take c) pass]
  cases port <;> rfl

/-- A route that has been taken with its cell, and the entry put back, is the route that the cell found. -/
theorem withEntry_restored {t : State} {k : Nat} {x y : Route} (at_k : t.routes[k]? = some (some x)) :
    t = { t.withEntry k y with routes := (t.withEntry k y).routes.set k (some x) } := by
  obtain ⟨inside, is⟩ := List.getElem?_eq_some_iff.mp at_k
  have back : (t.withEntry k y).routes.set k (some x) = t.routes := by
    rw [show (t.withEntry k y).routes = t.routes.set k (some y) from rfl, List.set_set, ← is, List.set_getElem_self]
  rw [back]
  rfl

/-- Settles O25: the cells that one route takes or none, the header's refusals, and a LIVE and an ARMED route in turn. -/
theorem passCellsGoToTheDataLaneUnchanged : Obligations.PassCellsGoToTheDataLaneUnchanged := by
  refine ⟨fun s port p c running held locked empty awake full sync kept stream unarmed => ?_,
    fun s port p c running held locked empty awake full sync => ?_⟩
  · have receives : s.Receives port p := ⟨running, held, locked, empty, awake⟩
    have armed := (find_isAt_eq_none_iff s.routes port c.stream.toNat .armed).mpr unarmed
    refine ⟨fun k r live at_k pass => ?_, fun none => ?_⟩
    · have passed := exec_cellArrival_of_pass receives full sync kept stream live armed at_k pass
      refine ⟨_, passed, by simp, ?_, ?_, fun other differs => serial_withSerial_of_ne differs _ _, ?_⟩
      · refine (show _ = s.routes.set k (some (r.take c)) by simp).trans ?_
        rw [take_eq]
      · rw [serial_withSerial]
        exact congrArg _ held
      · cases port <;> rfl
    · have live := (find_isAt_eq_none_iff s.routes port c.stream.toNat .live).mpr fun r member is => none r member ⟨is.1, is.2.1⟩
      refine ⟨_, exec_cellArrival_of_unrouted receives full sync kept stream live armed, ?_,
        fun other differs => serial_withSerial_of_ne differs _ _, withSerial_eq port _ s⟩
      rw [serial_withSerial, held]
      rfl
  · intro arrived
    have receives : s.Receives port p := ⟨running, held, locked, empty, awake⟩
    refine ⟨fun reserved => ?_, fun kept null => ?_, fun k k' r r' kept stream live at_k armed at_k' alone calm => ?_⟩
    · rw [exec_cellArrival_of_reserved receives full sync reserved]
      exact congrArg _ (withSerial_congr held rfl)
    · rw [exec_cellArrival_of_null receives full sync kept null]
      exact congrArg _ (withSerial_congr held rfl)
    · intro away
      have shared : s.Shared port p c k k' r r' := ⟨receives, full, sync, kept, stream, live, at_k, armed, at_k', alone⟩
      have inside := (List.getElem?_eq_some_iff.mp at_k).1
      obtain ⟨x, routes⟩ := shared.usedAt_routes
      have used_k : (s.usedAt port c k r).routes[k]? = some (some x) := by rw [routes, List.getElem?_set_self inside]
      have used_k' : (s.usedAt port c k r).routes[k']? = some (some r') := by
        rw [routes, List.getElem?_set_ne shared.apart.symm, at_k']
      have quiet : (r'.take c).Calm c s := .inr (calm.imp id fun ⟨quiet, unmarked⟩ =>
        ⟨quiet.imp_left fun clear => by rw [clear]; rfl, unmarked⟩)
      have second := shared.exec_second (away := { x with stream := 4096 }) used_k rfl rfl quiet
      have restored : ((s.usedAt port c k r).withEntry k' { r' with stream := 4096 }).routes.set k' (some r')
          = (s.usedAt port c k r).routes := (congrArg State.routes (withEntry_restored used_k')).symm
      refine ⟨_, (takeCell k' c (s.usedAt port c k r)).withEntry k { x with stream := 4096 }, x,
        shared.exec_moved (away := { r' with stream := 4096 }) rfl rfl, ?_, ?_, shared.exec_eq.trans (congrArg _ ?_)⟩
      · exact (List.getElem?_set_ne shared.apart).trans used_k
      · rw [restored]
        exact second
      · exact withEntry_restored ((shared.takeCell_armed_routes quiet).trans used_k)

end Sys2Proof.Machine
end

section
/-! Forwarding: the gate and the descrambler before a cell leaves (R16, R108, R109, R163). -/

namespace Sys2Proof.Machine

/-! ### What waits for the gate (R163) -/

/-- The gate record and the running of the part after a hand-over to the PGT. -/
theorem takeAtGate_running {s : State} (running : s.running = true) (channel : Channel) : (takeAtGate channel s).running = true := by
  simpa [State.running] using running

/-- The part that a command leaves, itself where the command answers otherwise. -/
def State.after (c : Instr) (u : State) : State :=
  match exec c u with
  | .next t => t
  | _ => u

theorem after_of_next {c : Instr} {u t : State} (answered : exec c u = .next t) : u.after c = t := by
  rw [State.after, answered]

/-- One hand-over waiting for the PGT, taken by its own command. -/
def caughtUpOne (contexts : Bool) (u : State) (h : Handover) : State :=
  match h with
  | .dscPosting .. => u.after (.gatePosting .dsc)
  | .context .pgt .. => if contexts = true then u.after .pgtContextChange else u
  | _ => u

theorem gateCaughtUp_eq (s : State) (contexts : Bool) : s.gateCaughtUp contexts = s.inFlight.foldl (caughtUpOne contexts) s := rfl

/-- The channels that a catch-up takes from. -/
def gateChannels (contexts : Bool) : List Channel := if contexts then [.dscToPgt, .cceTo .pgt] else [.dscToPgt]

theorem caughtUpOne_eq {u : State} (running : u.running = true) (contexts : Bool) (h : Handover) :
    (if (gateChannels contexts).contains h.channel then takeAtGate h.channel u else u) = caughtUpOne contexts u h := by
  have posting : u.after (.gatePosting .dsc) = takeDscPosting u := after_of_next (whenRunning_of_running running _)
  have context : u.after .pgtContextChange = takeGateContext u := after_of_next (whenRunning_of_running running _)
  cases h with
  | dscPosting noKey notEntitled =>
    rw [caughtUpOne, posting]
    cases contexts <;> rfl
  | context dest cause service stream =>
    cases dest with
    | pgt =>
      rw [caughtUpOne, context]
      cases contexts <;> rfl
    | _ => cases contexts <;> rfl
  | firing kind due service event => cases kind <;> cases contexts <;> rfl
  | _ => cases contexts <;> rfl

theorem gateCatchUp_eq {s : State} (running : s.running = true) (contexts : Bool) :
    gateCatchUp (gateChannels contexts) s = s.gateCaughtUp contexts := by
  rw [gateCaughtUp_eq, gateCatchUp]
  generalize s.inFlight = waiting
  induction waiting generalizing s with
  | nil => rfl
  | cons h rest ih =>
    rw [List.foldl_cons, List.foldl_cons, caughtUpOne_eq running]
    refine ih ?_
    rw [← caughtUpOne_eq running]
    split
    · exact takeAtGate_running running _
    · exact running

theorem gateCaughtUp_running {s : State} (running : s.running = true) (contexts : Bool) :
    (s.gateCaughtUp contexts).running = true := by
  rw [← gateCatchUp_eq running]
  simpa [State.running] using running

/-! ### One cell on the lane (R16, R108, R109) -/

/-- The lanes after a cell on the lane of a use. -/
def Lanes.with (lanes : Lanes) (use : RouteUse) (cell : Cell) : Lanes :=
  match use with
  | .video => { lanes with video := lanes.video ++ [cell] }
  | .audio => { lanes with audio := lanes.audio ++ [cell] }
  | _ => { lanes with waiting := lanes.waiting ++ [cell] }

theorem sendPresent_eq (use : RouteUse) (cell : Cell) (s : State) :
    sendPresent use cell s = { s with lanes := s.lanes.with use cell } := by
  cases use <;> rfl

theorem gated_some (isOpen broken : Bool) (use : RouteUse) (c : Cell) : gated isOpen broken use (some c) =
    if isOpen = true then { c with parity := if broken = true ∧ use = .video then .reserved else .clear } else nullCell := by
  simp only [gated, Bool.and_eq_true, beq_iff_eq]

theorem slot_eq_some_iff (parity : Parity) (k : Slot) :
    parity.slot = some k ↔ parity = .even ∧ k = .even ∨ parity = .odd ∧ k = .odd := by
  cases parity <;> cases k <;> simp [Parity.slot]

section
variable {s : State} {r : Route} {c : Cell} {k : Slot}

theorem forward_of_clear (clear : c.parity.slot = none) (broken : Bool) :
    forward r broken c s = { s with lanes := s.lanes.with r.use (gated s.pgt.isOpen broken r.use (some c)) } := by
  have kept : clearCell r c s = (some c, s) := by rw [clearCell, clear]
  rw [forward, kept, sendPresent_eq]

theorem forward_of_unbound (scrambled : c.parity.slot = some k) (unbound : r.binding ≠ .active ∨ s.dsc.active = none)
    (broken : Bool) : forward r broken c s = { s with
      lanes := s.lanes.with r.use nullCell
      cin := if r.port = .a then { s.cin with unkeyedA := satInc max32 s.cin.unkeyedA } else s.cin } := by
  have unkeyed : clearCell r c s = (none, countUnkeyed r.port s) := by
    rw [clearCell, scrambled]
    dsimp only
    split
    · rename_i bound claimed
      rcases unbound with other | free
      · exact absurd bound other
      · rw [free] at claimed
        cases claimed
    · rfl
  rw [forward, unkeyed, sendPresent_eq, countUnkeyed]
  split <;> rfl

theorem clearCell_of_bound {record : KeyRecord} (scrambled : c.parity.slot = some k) (bound : r.binding = .active)
    (claimed : s.dsc.active = some record) : clearCell r c s = scrambledCell record k c s := by
  rw [clearCell, scrambled, bound, claimed]

theorem forward_of_empty {record : KeyRecord} (scrambled : c.parity.slot = some k) (bound : r.binding = .active)
    (claimed : s.dsc.active = some record) (empty : record.slot k = none) (broken : Bool) : forward r broken c s = { s with
      lanes := s.lanes.with r.use nullCell
      dsc := { s.dsc with active := some { record with noKeyCells := satInc max32 record.noKeyCells }, noKey := true }
      inFlight := s.inFlight ++ if s.dsc.noKey = true then [] else [.dscPosting true s.dsc.notEntitled] } := by
  have unkeyed : scrambledCell record k c s = (none, postDsc true s.dsc.notEntitled
      { s with dsc := { s.dsc with active := some { record with noKeyCells := satInc max32 record.noKeyCells } } }) := by
    rw [scrambledCell, empty]
  rw [forward, clearCell_of_bound scrambled bound claimed, unkeyed, postDsc_eq, sendPresent_eq]
  simp only [and_true]
  rfl

/-- The part once a cell has been descrambled, NO_KEY cleared at the gate. -/
def State.descrambled (s : State) (record : KeyRecord) (k : Slot) : State :=
  gateCatchUp [.dscToPgt] { s with
    dsc := { s.dsc with active := some { record with live := some k }, noKey := false }
    inFlight := s.inFlight ++ if s.dsc.noKey = false then [] else [.dscPosting false s.dsc.notEntitled] }

theorem descrambled_lanes (s : State) (record : KeyRecord) (k : Slot) : (s.descrambled record k).lanes = s.lanes := by
  simp [State.descrambled]

theorem forward_of_valid {record : KeyRecord} {word : ControlWord} (scrambled : c.parity.slot = some k)
    (bound : r.binding = .active) (claimed : s.dsc.active = some record) (valid : record.slot k = some word) (broken : Bool) :
    let cleared := s.descrambled record k
    forward r broken c s = { cleared with lanes := s.lanes.with r.use (gated cleared.pgt.isOpen broken r.use
      (some { c with payload := (List.range 156).map (Config.descrambledByte word c.payload) })) } := by
  intro cleared
  have opened : scrambledCell record k c s = (some { c with payload := descramble word c.payload }, cleared) := by
    rw [scrambledCell, valid]
    refine Prod.ext rfl (congrArg (gateCatchUp [.dscToPgt]) ?_)
    rw [postDsc_eq]
    simp only [and_true]
  rw [forward, clearCell_of_bound scrambled bound claimed, opened, sendPresent_eq]
  dsimp only
  rw [descrambled_lanes]
  rfl

end

/-- Forwarding, as the statement of O27 has it. -/
theorem forward_forwarded {s : State} (running : s.running = true) (r : Route) (broken : Bool) {c : Cell} :
    s.Forwarded r broken c (forward r broken c s) := by
  unfold State.Forwarded
  intro out onLane posts
  refine ⟨fun clear => ?_, fun k parity => ⟨fun unbound => ?_, fun record bound claimed => ⟨fun word valid => ?_, fun empty => ?_⟩⟩⟩
  · rw [forward_of_clear (by rw [clear]; rfl), gated_some]
    rfl
  · rw [forward_of_unbound ((slot_eq_some_iff _ _).mpr parity) unbound]
    rfl
  · rw [forward_of_valid ((slot_eq_some_iff _ _).mpr parity) bound claimed valid]
    dsimp only
    have caughtUp : s.descrambled record k = State.gateCaughtUp { s with
        dsc := { s.dsc with active := some { record with live := some k }, noKey := false }
        inFlight := s.inFlight ++ if s.dsc.noKey = false then [] else [.dscPosting false s.dsc.notEntitled] } false := by
      refine (gateCatchUp_eq ?_ false)
      exact running
    rw [gated_some, caughtUp]
    rfl
  · rw [forward_of_empty ((slot_eq_some_iff _ _).mpr parity) bound claimed empty]
    rfl

/-! ### A descrambled cell where no posting of the descrambler waits (R108) -/

theorem foldl_of_others {channels : List Channel} {waiting : List Handover} (none : ∀ h ∈ waiting, channels.contains h.channel = false)
    (u : State) : waiting.foldl (fun u h => if channels.contains h.channel then takeAtGate h.channel u else u) u = u := by
  induction waiting with
  | nil => rfl
  | cons h rest ih =>
    rw [List.foldl_cons, none h List.mem_cons_self, if_neg Bool.false_ne_true]
    exact ih fun h listed => none h (List.mem_cons_of_mem _ listed)

theorem descrambled_of_quiet {s : State} (noKey : s.dsc.noKey = true) (quiet : ∀ h ∈ s.inFlight, h.channel ≠ .dscToPgt)
    (record : KeyRecord) (k : Slot) : s.descrambled record k = gateEvent (.withDsc false s.dsc.notEntitled)
      { s with dsc := { s.dsc with active := some { record with live := some k }, noKey := false } } := by
  have others : ∀ h ∈ s.inFlight, ([Channel.dscToPgt].contains h.channel) = false := fun h listed => by
    simpa [eq_comm] using quiet h listed
  have past : ∀ h ∈ s.inFlight, ¬ (h.channel == .dscToPgt) = true := fun h listed => by simpa using quiet h listed
  rw [State.descrambled, gateCatchUp, noKey]
  simp only [Bool.true_eq_false, if_false]
  rw [List.foldl_append, foldl_of_others others]
  let u : State := { s with
    dsc := { s.dsc with active := some { record with live := some k }, noKey := false }
    inFlight := s.inFlight ++ [.dscPosting false s.dsc.notEntitled] }
  have next : u.nextIn .dscToPgt = some (.dscPosting false s.dsc.notEntitled) := by
    rw [State.nextIn, show u.inFlight = s.inFlight ++ [.dscPosting false s.dsc.notEntitled] from rfl, List.find?_append,
      List.find?_eq_none.mpr past]
    rfl
  have taken : u.taking .dscToPgt = { u with inFlight := s.inFlight } := by
    rw [State.taking, show u.inFlight = s.inFlight ++ [.dscPosting false s.dsc.notEntitled] from rfl,
      List.eraseP_append_right _ past]
    simp [Handover.channel]
  change takeDscPosting u = _
  rw [takeDscPosting, next]
  dsimp only
  rw [taken]

end Sys2Proof.Machine
end

section
/-! Present cells: one cell leaves for each, or it is observed and can be the splice point (R16, R17, R88 to R93, R108, R109). -/

namespace Sys2Proof.Machine

/-! ### What leaves for a present cell (R16, R108) -/

section
variable {s : State} {r : Route} {c : Cell} {broken : Bool}

/-- A cell, its route and the ACTIVE record: clear, unbound, or scrambled with the slot EMPTY or VALID. -/
theorem forward_cases (s : State) (r : Route) (c : Cell) : c.parity.slot = none
    ∨ (∃ k, c.parity.slot = some k ∧ ((r.binding ≠ .active ∨ s.dsc.active = none)
      ∨ ∃ record, r.binding = .active ∧ s.dsc.active = some record ∧ (record.slot k = none ∨ ∃ word, record.slot k = some word))) := by
  cases scrambled : c.parity.slot with
  | none => exact .inl rfl
  | some k =>
    refine .inr ⟨k, rfl, ?_⟩
    by_cases bound : r.binding = .active
    · cases claimed : s.dsc.active with
      | none => exact .inl (.inr rfl)
      | some record =>
        refine .inr ⟨record, bound, rfl, ?_⟩
        cases record.slot k with
        | none => exact .inl rfl
        | some word => exact .inr ⟨word, rfl⟩
    · exact .inl (.inl bound)

theorem forward_lanes_of_closed (closed : s.pgt.isOpen = false)
    (scrambled : ∀ record k word, r.binding = .active → s.dsc.active = some record →
      (c.parity = .even ∧ k = .even ∨ c.parity = .odd ∧ k = .odd) → record.slot k ≠ some word) :
    (forward r broken c s).lanes = s.lanes.with r.use nullCell := by
  rcases forward_cases s r c with clear | ⟨k, parity, unbound | ⟨record, bound, claimed, empty | ⟨word, valid⟩⟩⟩
  · rw [forward_of_clear clear, closed]
    rfl
  · rw [forward_of_unbound parity unbound]
  · rw [forward_of_empty parity bound claimed empty]
  · exact absurd valid (scrambled record k word bound claimed ((slot_eq_some_iff _ _).mp parity))

theorem forward_lanes (s : State) (r : Route) (broken : Bool) (c : Cell) :
    ∃ sent, (forward r broken c s).lanes = s.lanes.with r.use sent := by
  rcases forward_cases s r c with clear | ⟨k, parity, unbound | ⟨record, bound, claimed, empty | ⟨word, valid⟩⟩⟩
  · exact ⟨_, by rw [forward_of_clear clear]⟩
  · exact ⟨_, by rw [forward_of_unbound parity unbound]⟩
  · exact ⟨_, by rw [forward_of_empty parity bound claimed empty]⟩
  · exact ⟨_, by rw [forward_of_valid parity bound claimed valid]⟩

theorem forward_of_open (isOpen : s.pgt.isOpen = true) (clear : c.parity = .clear) : forward r broken c s = sendPresent r.use
    { c with parity := if broken = true ∧ r.use = .video then .reserved else .clear } s := by
  rw [forward_of_clear (by rw [clear]; rfl), gated_some, if_pos isOpen, sendPresent_eq]

/-- A descrambled cell at the gate, where NO_KEY was posted and no posting waits. -/
theorem forward_of_cleared {record : KeyRecord} {k : Slot} {word : ControlWord} (bound : r.binding = .active)
    (claimed : s.dsc.active = some record) (parity : c.parity = .even ∧ k = .even ∨ c.parity = .odd ∧ k = .odd)
    (valid : record.slot k = some word) (noKey : s.dsc.noKey = true) (quiet : ∀ h ∈ s.inFlight, h.channel ≠ .dscToPgt) :
    let t := forward r broken c s
    let opens : Prop := s.pgt.presented ≠ none ∧ s.dsc.notEntitled = false ∧ s.pgt.sources.hostMute = false
      ∧ (s.pgt.mask = true ∨ s.pgt.sources.rating = false ∧ s.pgt.sources.locked = false
        ∧ s.pgt.sources.hours = false ∧ s.pgt.sources.budget = false)
    (t.pgt.isOpen = true ↔ opens)
    ∧ t.pgt.sources = { s.pgt.sources with noKey := false, notEntitled := s.dsc.notEntitled }
    ∧ (opens → t.lanes = (sendPresent r.use { c with
        payload := (List.range 156).map (Config.descrambledByte word c.payload)
        parity := if broken = true ∧ r.use = .video then .reserved else .clear } s).lanes)
    ∧ (¬ opens → t.lanes = (sendPresent r.use nullCell s).lanes)
    ∧ (s.pgt.sources.noKey = true → t.rpq = (emit (.gateChange s.pgt.sources t.pgt.sources s.pgt.isOpen t.pgt.isOpen
        s.pgt.mask s.pgt.presented) s).rpq) := by
  intro t opens
  have left := forward_of_valid (r := r) (c := c) ((slot_eq_some_iff _ _).mpr parity) bound claimed valid broken
  dsimp only at left
  have gate := descrambled_of_quiet noKey quiet record k
  rw [gateEvent_eq] at gate
  dsimp only at gate
  have isOpen : (s.descrambled record k).pgt.isOpen = true ↔ opens := by
    rw [gate, gateIsOpen_iff, Option.isSome_iff_ne_none]
    exact and_congr_right fun _ => and_iff_right rfl
  have sources : (s.descrambled record k).pgt.sources = { s.pgt.sources with noKey := false, notEntitled := s.dsc.notEntitled } := by
    rw [gate]
    rfl
  have t_pgt : t.pgt = (s.descrambled record k).pgt := by rw [show t = _ from left]
  have t_lanes : t.lanes = _ := congrArg State.lanes (show t = _ from left)
  rw [t_pgt]
  refine ⟨isOpen, sources, fun yes => ?_, fun no => ?_, fun was => ?_⟩
  · rw [t_lanes, gated_some, if_pos (isOpen.mpr yes), sendPresent_eq]
  · rw [t_lanes, gated_some, if_neg (isOpen.not.mpr no), sendPresent_eq]
  · have moved : ¬ ((Pgt.withDsc false s.dsc.notEntitled s.pgt).sources = s.pgt.sources ∧ gateIsOpen
        (Pgt.withDsc false s.dsc.notEntitled s.pgt).sources (Pgt.withDsc false s.dsc.notEntitled s.pgt).mask
        (Pgt.withDsc false s.dsc.notEntitled s.pgt).presented.isSome = s.pgt.isOpen) := fun same =>
      Bool.noConfusion ((congrArg Sources.noKey same.1).trans was)
    have rpq : (s.descrambled record k).rpq = (emit (.gateChange s.pgt.sources (s.descrambled record k).pgt.sources s.pgt.isOpen
        (s.descrambled record k).pgt.isOpen s.pgt.mask s.pgt.presented) s).rpq := by
      rw [gate]
      dsimp only
      rw [if_neg moved, emit_eq, emit_eq]
      rfl
    rw [show t.rpq = _ from congrArg State.rpq left]
    exact rpq

end

/-! ### What the splice leaves of the ARMED route that its marker cell took (R15, R82, R93) -/

/-- An insertion of an ARMED route leaves a LIVE one. -/
theorem insertArmed_keeps_live {t t' : RouteTable} {stream : Nat} {use : RouteUse} {binding : Binding}
    (inserted : t.insertArmed stream use binding = some t') {k : Nat} {v : Route} (held : t[k]? = some (some v))
    (live : v.state = .live) : t'[k]? = some (some v) := by
  unfold RouteTable.insertArmed at inserted
  split at inserted
  · rename_i j _ found
    split at inserted
    · obtain rfl := Option.some.inj inserted
      obtain ⟨q, at_j, test⟩ := RouteTable.find_eq_some found
      have apart : j ≠ k := by
        rintro rfl
        cases held.symm.trans at_j
        exact RouteState.noConfusion (live.symm.trans ((isAt_iff _ _ _ _).mp test).2.2)
      rw [setAt, List.getElem?_set_ne apart, held]
    · cases inserted
  · cases inserted
  · split at inserted
    · cases inserted
    · obtain ⟨j, free, rfl⟩ := Option.map_eq_some_iff.mp inserted
      have apart : j ≠ k := by
        rintro rfl
        rw [RouteTable.lowestFree_eq_some free] at held
        cases held
      rw [setAt, List.getElem?_set_ne apart, held]

/-- Whether a waiting TUNE crosses to another carrier (R82). -/
def State.Crosses (s : State) (pending : Option (Nat × Option Lang)) : Prop :=
  ∃ service audio target, pending = some (service, audio) ∧ s.sdr.find service = some target ∧ s.cce.tuned ≠ some target.frequency

/-- A waiting TUNE that does not cross leaves the LIVE routes. -/
theorem tuneStarted_keeps_live {u : State} {pending : Option (Nat × Option Lang)} (stays : ¬ u.Crosses pending) {k : Nat} {v : Route}
    (held : u.routes[k]? = some (some v)) (live : v.state = .live) : (u.tuneStarted pending).routes[k]? = some (some v) := by
  rcases pending with _ | ⟨service, audio⟩
  · exact held
  cases found : u.sdr.find service with
  | none =>
    rw [tuneStarted_of_unknown found]
    simpa using held
  | some target =>
    have tuned : u.cce.tuned = some target.frequency := by
      by_contra other
      exact stays ⟨service, audio, target, rfl, found, other⟩
    rw [tuneStarted_of_found found, State.changeStarted]
    dsimp only
    rw [if_pos tuned]
    dsimp only
    cases inserted : RouteTable.insertArmed u.routes target.mapStream (.sections [.map, .rating]) .none with
    | none => exact held
    | some t' => exact insertArmed_keeps_live inserted held live

/-- A waiting TUNE that crosses frees the LIVE routes of the change. -/
theorem tuneStarted_frees {u : State} {pending : Option (Nat × Option Lang)} (crosses : u.Crosses pending) {k : Nat} {v : Route}
    (held : u.routes[k]? = some (some v)) (live : v.state = .live) (owner : v.owner = .change) :
    (u.tuneStarted pending).routes[k]? = some none := by
  obtain ⟨service, audio, target, rfl, found, other⟩ := crosses
  rw [tuneStarted_of_found found, State.changeStarted]
  dsimp only
  rw [if_neg other, State.crossed, emit_eq, State.routesDropped]
  dsimp only
  rw [List.getElem?_map, List.getElem?_map, held]
  simp [live, owner]

theorem tuneStarted_running {u : State} (running : u.running = true) (pending : Option (Nat × Option Lang)) :
    (u.tuneStarted pending).running = true := by
  rcases pending with _ | ⟨service, audio⟩
  · exact running
  cases found : u.sdr.find service with
  | none =>
    rw [tuneStarted_of_unknown found, emit_eq]
    exact running
  | some target =>
    rw [tuneStarted_of_found found, State.changeStarted]
    dsimp only
    split
    · exact running
    · rw [State.crossed, emit_eq]
      exact running

/-! ### The splice point (R17, R89, R90) -/

/-- The marker cell at the VIDEO route now LIVE in its entry. -/
theorem spliceOn_of_route {s s1 : State} (spliced : splice .ok s = s1) {k : Nat} {v : Route} (held : s1.routes[k]? = some (some v))
    (live : v.state = .live) (video : v.use = .video) (c : Cell) :
    spliceOn k c s = forward v false c (gateCatchUp [.dscToPgt, .cceTo .pgt] s1) := by
  rw [spliceOn, spliced, RouteTable.route_eq_some.mpr held]
  dsimp only
  rw [live, video]
  rfl

/-- The marker cell where the splice has left no route in its entry. -/
theorem spliceOn_of_free {s s1 : State} (spliced : splice .ok s = s1) {k : Nat} (free : s1.routes[k]? = some none) (c : Cell) :
    spliceOn k c s = s1 := by
  have none : RouteTable.route s1.routes k = none := by rw [RouteTable.route, free, Option.join_some]
  rw [spliceOn, spliced, none]

/-- The ARMED route of the change, LIVE after the splice. -/
theorem splicedTo_held {s : State} {k : Nat} {took : Route} (held : s.routes[k]? = some (some took)) (armed : took.state = .armed)
    (owner : took.owner = .change) (c : Change) (m : ProgMap) (reason : DoneReason) :
    (s.splicedTo c m reason).routes[k]? = some (some { took with
      state := .live, binding := if took.binding = Binding.arming then .active else took.binding }) := by
  obtain ⟨-, entries, -⟩ := splicedTo_spliced s c m reason
  obtain ⟨-, -, converted, -⟩ := entries k took held
  exact converted owner armed

/-! ### The parity of an observed cell (R88) -/

/-- Whether a parity ends WAIT_KEY (R88). -/
def State.Usable (s : State) (slot : Slot) : Prop := s.cce.engine = .waitKey ∧ ∃ key, s.dsc.arming = some key
  ∧ (key.verdict = .notEntitled ∨ key.verdict = .entitled ∧ (key.slot slot).isSome = true)

theorem keyUsable_of_parity (ch : Change) (slot : Slot) (key : KeyRecord) : keyUsable { ch with parity := some slot } key = true ↔
    key.verdict = .notEntitled ∨ key.verdict = .entitled ∧ (key.slot slot).isSome = true := by
  rw [keyUsable_iff]
  cases slot <;> simp [KeyRecord.slot]

theorem parityReport_of_idle {s : State} (idle : s.cce.change = none) (slot : Slot) : parityReport slot s = s := by
  simp only [parityReport, idle]

theorem parityReport_of_change {s : State} {ch : Change} (change : s.cce.change = some ch) (slot : Slot) : parityReport slot s
    = testWaitKey { s with cce := { s.cce with change := some { ch with parity := some slot } } } := by
  simp only [parityReport, change]

theorem parityReport_of_unusable {s : State} {ch : Change} {slot : Slot} (change : s.cce.change = some ch) (unusable : ¬ s.Usable slot) :
    parityReport slot s = { s with cce := { s.cce with change := some { ch with parity := some slot } } } := by
  rw [parityReport_of_change change]
  by_cases waiting : s.cce.engine = .waitKey
  · cases armed : s.dsc.arming with
    | none =>
      rw [testWaitKey]
      simp only [waiting, armed]
    | some key =>
      rw [testWaitKey_of_waiting (s := { s with cce := { s.cce with change := some { ch with parity := some slot } } }) waiting rfl armed]
      exact if_neg fun usable => unusable ⟨waiting, key, armed, (keyUsable_of_parity ch slot key).mp usable⟩
  · exact testWaitKey_of_elsewhere waiting

theorem parityReport_of_usable {s : State} {ch : Change} {slot : Slot} (change : s.cce.change = some ch) (usable : s.Usable slot) :
    parityReport slot s = enterWaitSplice { ch with parity := some slot }
      { s with cce := { s.cce with change := some { ch with parity := some slot } } } := by
  obtain ⟨waiting, key, armed, fits⟩ := usable
  rw [parityReport_of_change change,
    testWaitKey_of_waiting (s := { s with cce := { s.cce with change := some { ch with parity := some slot } } }) waiting rfl armed]
  exact if_pos ((keyUsable_of_parity ch slot key).mpr fits)

end Sys2Proof.Machine
end

section
/-! Present cells as they arrive: forwarded, observed, or both (R11, R16, R17, R88 to R93). -/

namespace Sys2Proof.Machine

/-- The part once the parity of an observed cell has been reported (R17). -/
def State.seen (s : State) (c : Cell) : State :=
  match c.parity.slot with
  | some slot => parityReport slot s
  | none => s

section
variable {s : State} {c : Cell} {k : Nat} {took : Route}

theorem seen_of_clear (clear : c.parity = .clear) : s.seen c = s := by
  rw [State.seen, clear]
  rfl

theorem seen_of_slot {slot : Slot} (parity : c.parity = .even ∧ slot = .even ∨ c.parity = .odd ∧ slot = .odd) :
    s.seen c = parityReport slot s := by
  rw [State.seen, (slot_eq_some_iff _ _).mpr parity]

theorem seen_of_idle (idle : s.cce.change = none) (c : Cell) : s.seen c = s := by
  rw [State.seen]
  split
  · exact parityReport_of_idle idle _
  · rfl

/-- A cell that can be the splice point (R17). -/
def Cell.Marks (c : Cell) (took : Route) : Prop := took.use = .video ∧ c.start = true ∧ c.marker = true

theorem observe_of_other (other : ¬ (c.Marks took ∧ (s.seen c).cce.engine = .waitSplice)) (k : Nat) : observe k took c s = s.seen c := by
  rw [observe]
  refine if_neg fun is => other ?_
  simp only [Bool.and_eq_true, beq_iff_eq] at is
  exact ⟨⟨is.1.1.1, is.1.1.2, is.1.2⟩, is.2⟩

theorem observe_of_marker (marks : c.Marks took) (waiting : (s.seen c).cce.engine = .waitSplice) (k : Nat) :
    observe k took c s = spliceOn k c (s.seen c) := by
  obtain ⟨video, start, marker⟩ := marks
  rw [observe]
  refine if_pos ?_
  simp only [Bool.and_eq_true, beq_iff_eq]
  exact ⟨⟨⟨video, start⟩, marker⟩, waiting⟩

/-- With an ARMED VIDEO route, a reported parity leaves all but the engine's state and its change. -/
theorem seen_of_video (video : ∃ v, some v ∈ s.routes ∧ v.state = .armed ∧ v.use = .video) (c : Cell) :
    ∃ engine change, s.seen c = { s with cce := { s.cce with engine, change } } := by
  rw [State.seen]
  split
  · rename_i slot _
    cases change : s.cce.change with
    | none => exact ⟨s.cce.engine, s.cce.change, parityReport_of_idle change slot⟩
    | some ch =>
      by_cases usable : s.Usable slot
      · rw [parityReport_of_usable change usable, enterWaitSplice_of_video
          (s := { s with cce := { s.cce with change := some { ch with parity := some slot } } }) _ video]
        exact ⟨_, _, rfl⟩
      · exact ⟨_, _, parityReport_of_unusable change usable⟩
  · exact ⟨s.cce.engine, s.cce.change, rfl⟩

/-- An observed cell, as the statement of O27 has it. -/
theorem observe_observed (running : s.running = true) (held : s.routes[k]? = some (some took)) (armed : took.state = .armed) :
    s.Observed took c (observe k took c s) := by
  unfold State.Observed
  intro usable marker
  refine ⟨fun blank => ?_, fun video => ⟨s.seen c, seen_of_clear, fun idle => seen_of_idle idle c, fun ch slot change parity =>
    ⟨fun no => ?_, fun yes => ?_⟩, fun other => observe_of_other other k, ?_⟩⟩
  · have plain : ¬ c.Marks took := fun marks => blank took (List.mem_of_getElem? held) ⟨armed, marks.1⟩
    rw [observe_of_other fun is => plain is.1]
    refine ⟨fun quiet => ?_, fun ch slot change parity => ⟨fun no => ?_, fun m yes mapped => ?_⟩⟩
    · exact quiet.elim seen_of_clear fun idle => seen_of_idle idle c
    · rw [seen_of_slot parity, parityReport_of_unusable change no]
    · rw [seen_of_slot parity, parityReport_of_usable change yes, enterWaitSplice_of_no_video
        (s := { s with cce := { s.cce with change := some { ch with parity := some slot } } }) (c := { ch with parity := some slot })
        blank mapped]
      intro last
      exact ⟨_, splicedTo_spliced _ _ _ _, rfl⟩
  · rw [seen_of_slot parity, parityReport_of_unusable change no]
  · rw [seen_of_slot parity, parityReport_of_usable change yes, enterWaitSplice_of_video
      (s := { s with cce := { s.cce with change := some { ch with parity := some slot } } }) _ video]
    rfl
  · intro ch m marks waiting change mapped owner now crosses
    obtain ⟨engine, seenChange, seen⟩ := seen_of_video video c
    rw [observe_of_marker marks waiting]
    have held' : (s.seen c).routes[k]? = some (some took) := by rw [seen]; exact held
    have pending : (s.seen c).cce.pendingTune = s.cce.pendingTune := by rw [seen]
    have running' : (s.seen c).running = true := by rw [seen]; exact running
    let u : State := State.splicedTo { s.seen c with cce := { (s.seen c).cce with pendingTune := none } } ch m .ok
    have u_held : u.routes[k]? = some (some now) := splicedTo_held (s := { s.seen c with cce := { (s.seen c).cce with pendingTune := none } })
      held' armed owner ch m .ok
    have sdr : u.sdr = s.sdr := by
      change (s.seen c).sdr = s.sdr
      rw [seen]
    have tuned : u.cce.tuned = s.cce.tuned := by
      change (s.seen c).cce.tuned = s.cce.tuned
      rw [seen]
    have u_crosses : u.Crosses s.cce.pendingTune ↔ crosses := by
      rw [State.Crosses, sdr, tuned]
    have spliced : splice .ok (s.seen c) = u.tuneStarted s.cce.pendingTune := by rw [splice_eq .ok change mapped, pending]
    refine ⟨u, splicedTo_spliced _ _ _ _, fun yes => ?_, fun no => ?_⟩
    · exact spliceOn_of_free spliced (tuneStarted_frees (u_crosses.mpr yes) u_held rfl owner) c
    · rw [spliceOn_of_route spliced (tuneStarted_keeps_live (u_crosses.not.mpr no) u_held rfl) rfl marks.1]
      have started := tuneStarted_running (u := u) running' s.cce.pendingTune
      rw [show [Channel.dscToPgt, .cceTo .pgt] = gateChannels true from rfl, gateCatchUp_eq started]
      exact forward_forwarded (gateCaughtUp_running started true) now false

end

theorem useCell_of_live_present {r : Route} (present : r.use = .video ∨ r.use = .audio ∨ r.use = .data) (live : r.state = .live)
    (k : Nat) (broken : Bool) (c : Cell) (s : State) : useCell k r broken c s = forward r broken c s := by
  rcases present with use | use | use
  all_goals
    rw [useCell, use]
    exact if_pos live

theorem useCell_of_armed_present {r : Route} (present : r.use = .video ∨ r.use = .audio ∨ r.use = .data) (armed : r.state = .armed)
    (k : Nat) (broken : Bool) (c : Cell) (s : State) : useCell k r broken c s = observe k r c s := by
  rcases present with use | use | use
  all_goals
    rw [useCell, use]
    exact if_neg (by simp [armed])

theorem usedAt_running {s : State} (running : s.running = true) (port : Port) (c : Cell) (k : Nat) (r : Route) :
    (s.usedAt port c k r).running = true := by
  simpa [State.usedAt, State.receivedAt, State.running] using running

/-- Settles O27: the gate and the descrambler first, and a cell by the state of the route that takes it. -/
theorem everyPresentCellLeavesOneCellThroughTheGateOrIsObserved :
    Obligations.EveryPresentCellLeavesOneCellThroughTheGateOrIsObserved := by
  refine ⟨fun s r broken c _ => ⟨fun closed scrambled => ?_, fun record k word bound claimed parity valid noKey quiet =>
    forward_of_cleared bound claimed parity valid noKey quiet, forward_of_open, ?_⟩, ?_⟩
  · rw [forward_lanes_of_closed closed scrambled, sendPresent_eq]
  · obtain ⟨sent, lanes⟩ := forward_lanes s r broken c
    exact ⟨sent, by rw [lanes, sendPresent_eq]⟩
  intro s port p c k r running serial locked empty awake full sync kept stream held present took taken
  have receives : s.Receives port p := ⟨running, serial, locked, empty, awake⟩
  have took_eq : r.take c = took := take_eq r c
  have taken_eq : s.receivedAt port c k r = taken := by rw [State.receivedAt, took_eq]; rfl
  have taken_held : taken.routes[k]? = some (some took) := by rw [← taken_eq, ← took_eq]; exact receivedAt_held held port c
  have taken_running : taken.running = true := by simpa [taken, State.running] using running
  refine ⟨fun live unarmed => ?_, fun unlive armed => ?_, fun live found armed alone => ?_⟩
  · obtain ⟨q, at_k, test⟩ := RouteTable.find_eq_some live
    cases held.symm.trans at_k
    obtain ⟨-, -, state⟩ := (isAt_iff _ _ _ _).mp test
    refine ⟨_, exec_cellArrival_of_route receives full sync kept stream (.inl ⟨live, unarmed⟩) held, ?_⟩
    rw [useCell_of_live_present (r := r.take c) present state, ← broken_eq, took_eq]
    rw [State.receivedAt, took_eq] at taken_eq
    rw [taken_eq]
    exact forward_forwarded taken_running took _
  · obtain ⟨q, at_k, test⟩ := RouteTable.find_eq_some armed
    cases held.symm.trans at_k
    obtain ⟨-, -, state⟩ := (isAt_iff _ _ _ _).mp test
    refine ⟨_, exec_cellArrival_of_route receives full sync kept stream (.inr ⟨unlive, armed⟩) held, ?_⟩
    rw [useCell_of_armed_present (r := r.take c) present state, took_eq]
    rw [State.receivedAt, took_eq] at taken_eq
    rw [taken_eq]
    exact observe_observed taken_running taken_held state
  · obtain ⟨r0, held0, -⟩ := RouteTable.find_eq_some found
    have shared : s.Shared port p c live k r0 r := ⟨receives, full, sync, kept, stream, found, held0, armed, held, alone⟩
    have observed := shared.exec_eq
    obtain ⟨-, -, state⟩ := shared.armed_state
    rw [shared.takeCell_armed, useCell_of_armed_present (r := r.take c) present state, took_eq] at observed
    refine ⟨_, _, shared.exec_moved (away := { r with stream := 4096 }) rfl rfl, observed, ?_⟩
    have back : ((s.usedAt port c live r0).withEntry k { r with stream := 4096 }).routes.set k (some took)
        = (s.usedAt port c live r0).routes.set k (some took) := List.set_set _
    rw [back]
    have inside : k < (s.usedAt port c live r0).routes.length := by
      obtain ⟨x, routes⟩ := shared.usedAt_routes
      rw [routes, List.length_set]
      exact shared.inside'
    exact observe_observed (s := { s.usedAt port c live r0 with routes := (s.usedAt port c live r0).routes.set k (some took) })
      (usedAt_running running port c live r0) (List.getElem?_set_self inside) state

end Sys2Proof.Machine
end

section
/-! GUIDE bodies, read at their offsets (R134, R189). -/

namespace Sys2Proof.Machine

/-- The event at an offset of a GUIDE body (R189). -/
def sentEventAt (service segment : Nat) (body : List Byte) (first : Nat) : GuideEvent :=
  { service, segment, id := fieldAt body first 2, start := fieldAt body (first + 2) 4
    duration := fieldAt body (first + 6) 4, age := fieldAt body (first + 10) 1 / 16
    category := fieldAt body (first + 10) 1 % 16, flags := (byteAt body (first + 11)).extractLsb' 0 4
    price := some (fieldAt body (first + 12) 2)
    title := (body.drop (first + 15)).take (fieldAt body (first + 14) 1) }

/-- Where the event after the one at an offset begins. -/
def nextEventAt (body : List Byte) (first : Nat) : Nat := first + 15 + fieldAt body (first + 14) 1

/-- Events that follow one another from an offset on. -/
def EventsAt (service segment : Nat) (body : List Byte) (count start : Nat) (events : List GuideEvent) : Prop :=
  events.length = count ∧ ∃ first : Nat → Nat, first 0 = start
    ∧ ∀ k < count, first (k + 1) = nextEventAt body (first k) ∧ first (k + 1) ≤ body.length
      ∧ events[k]? = some (sentEventAt service segment body (first k))

theorem guideEventAt_drop (service segment : Nat) (body : List Byte) (first : Nat) :
    guideEventAt service segment (body.drop first) = sentEventAt service segment body first := by
  have byte (offset : Nat) : byteAt (body.drop first) offset = byteAt body (first + offset) := by
    simp [byteAt]
  rw [guideEventAt, sentEventAt]
  simp only [fieldAt_drop, toNat_byteAt, byte, List.drop_drop, Nat.add_zero]

theorem eventsAt_zero (service segment : Nat) (body : List Byte) (start : Nat) (events : List GuideEvent) :
    EventsAt service segment body 0 start events ↔ events = [] := by
  rw [EventsAt, List.length_eq_zero_iff]
  exact and_iff_left ⟨fun _ => start, rfl, fun k below => absurd below (Nat.not_lt_zero k)⟩

theorem eventsAt_succ (service segment : Nat) (body : List Byte) (count start : Nat) (events : List GuideEvent) :
    EventsAt service segment body (count + 1) start events ↔ nextEventAt body start ≤ body.length
      ∧ ∃ rest, EventsAt service segment body count (nextEventAt body start) rest
        ∧ events = sentEventAt service segment body start :: rest := by
  constructor
  · rintro ⟨length, first, begins, follow⟩
    obtain ⟨second, inside, front⟩ := follow 0 (Nat.succ_pos count)
    rw [begins] at second front
    rw [second] at inside
    refine ⟨inside, events.tail, ⟨by simp [length], fun k => first (k + 1), second, fun k below => ?_⟩, ?_⟩
    · obtain ⟨next, within, listed⟩ := follow (k + 1) (Nat.succ_lt_succ below)
      exact ⟨next, within, by rwa [List.getElem?_tail]⟩
    · cases events with
      | nil => simp at front
      | cons e rest => rw [List.tail_cons, Option.some.inj front]
  · rintro ⟨inside, rest, ⟨length, first, begins, follow⟩, rfl⟩
    refine ⟨by rw [List.length_cons, length], fun k => k.casesOn start first, rfl, fun k below => ?_⟩
    cases k with
    | zero => exact ⟨begins, (show first 0 ≤ body.length by rw [begins]; exact inside), rfl⟩
    | succ k => exact follow k (Nat.lt_of_succ_lt_succ below)

theorem guideEventsFrom_eq_some_iff (service segment : Nat) (body : List Byte) (count start : Nat) (events : List GuideEvent) :
    guideEventsFrom service segment count (body.drop start) = some events ↔ EventsAt service segment body count start events := by
  induction count generalizing start events with
  | zero => rw [eventsAt_zero, guideEventsFrom, Option.some.injEq, eq_comm]
  | succ count ih =>
    have next : start + (15 + (byteAt (body.drop start) 14).toNat) = nextEventAt body start := by
      rw [toNat_byteAt, fieldAt_drop, nextEventAt]
      omega
    rw [eventsAt_succ, guideEventsFrom, List.drop_drop, next, guideEventAt_drop]
    by_cases inside : nextEventAt body start ≤ body.length
    · rw [if_neg (by simp only [List.length_drop, Bool.or_eq_true, decide_eq_true_eq]; omega), Option.map_eq_some_iff]
      simp only [ih, inside, true_and, eq_comm (a := events)]
    · rw [if_pos (by simp only [List.length_drop, Bool.or_eq_true, decide_eq_true_eq]; omega)]
      simp [inside]

theorem guideBody_eq_some_iff (service segment : Nat) (body : List Byte) (start : Nat) (events : List GuideEvent) :
    guideBody service segment body = some (start, events) ↔ 5 ≤ body.length ∧ fieldAt body 4 1 ≤ 12 ∧ start = fieldAt body 0 4
      ∧ EventsAt service segment body (fieldAt body 4 1) 5 events := by
  rw [guideBody, toNat_byteAt]
  by_cases fits : 5 ≤ body.length ∧ fieldAt body 4 1 ≤ 12
  · rw [if_neg (by simp only [Bool.or_eq_true, decide_eq_true_eq]; omega), Option.map_eq_some_iff]
    simp only [guideEventsFrom_eq_some_iff, Prod.mk.injEq]
    constructor
    · rintro ⟨found, read, rfl, rfl⟩
      exact ⟨fits.1, fits.2, rfl, read⟩
    · rintro ⟨-, -, rfl, read⟩
      exact ⟨events, read, rfl, rfl⟩
  · rw [if_pos (by simp only [Bool.or_eq_true, decide_eq_true_eq]; omega)]
    exact ⟨nofun, fun is => absurd ⟨is.1, is.2.1⟩ fits⟩

end Sys2Proof.Machine
end

section
/-! One event of a GUIDE section at the store, and the same event at a store without an order (R135, R136, R138). -/

namespace Sys2Proof.Machine

/-! ### The event that starts last (R138) -/

/-- An event that starts no later than another, of two that start together of the lower service number or the same. -/
def GuideEvent.startsBy (u v : GuideEvent) : Prop := u.start < v.start ∨ u.start = v.start ∧ u.service ≤ v.service

theorem startsBy_refl (u : GuideEvent) : u.startsBy u := .inr ⟨rfl, le_rfl⟩

theorem startsBy_trans {u v w : GuideEvent} (first : u.startsBy v) (second : v.startsBy w) : u.startsBy w := by
  simp only [GuideEvent.startsBy] at *
  omega

theorem service_le_of_precedes {u v : GuideEvent} (before : u.precedes v) : u.service ≤ v.service := by
  rcases before with below | ⟨same, -⟩
  · exact below.le
  · exact same.le

/-- The event that starts last among one kept so far and those after it in store order. -/
theorem latest_of_ordered {b : GuideEvent} {l : List GuideEvent} (ordered : (b :: l).Pairwise GuideEvent.precedes) :
    ∃ last, l.foldl (fun best e => match best with
        | none => some e
        | some b => if b.start ≤ e.start then some e else some b) (some b) = some last
      ∧ last ∈ b :: l ∧ ∀ u ∈ b :: l, u.startsBy last := by
  induction l generalizing b with
  | nil => exact ⟨b, rfl, List.mem_cons_self, fun u listed => by rw [List.mem_singleton.mp listed]; exact startsBy_refl b⟩
  | cons x rest ih =>
    obtain ⟨first, others⟩ := List.pairwise_cons.mp ordered
    have before := service_le_of_precedes (first x List.mem_cons_self)
    rw [List.foldl_cons]
    dsimp only
    by_cases later : b.start ≤ x.start
    · rw [if_pos later]
      obtain ⟨last, found, listed, latest⟩ := ih others
      refine ⟨last, found, List.mem_cons_of_mem b listed, fun u member => ?_⟩
      rcases List.mem_cons.mp member with rfl | member
      · refine startsBy_trans ?_ (latest x List.mem_cons_self)
        rw [GuideEvent.startsBy]
        omega
      · exact latest u member
    · rw [if_neg later]
      obtain ⟨last, found, listed, latest⟩ := ih (ordered.sublist ((List.sublist_cons_self x rest).cons_cons b))
      refine ⟨last, found, ?_, fun u member => ?_⟩
      · exact List.mem_cons.mpr ((List.mem_cons.mp listed).imp_right (List.mem_cons_of_mem x))
      · rcases List.mem_cons.mp member with rfl | member
        · exact latest u List.mem_cons_self
        rcases List.mem_cons.mp member with rfl | member
        · exact startsBy_trans (.inl (Nat.lt_of_not_le later)) (latest b List.mem_cons_self)
        · exact latest u (List.mem_cons_of_mem b member)

theorem latestEvent_of_ordered {l : List GuideEvent} (ordered : l.Pairwise GuideEvent.precedes) (some_held : l ≠ []) :
    ∃ last, latestEvent l = some last ∧ last ∈ l ∧ ∀ u ∈ l, u.startsBy last := by
  cases l with
  | nil => exact absurd rfl some_held
  | cons b rest => exact latest_of_ordered ordered

/-- In store order, one event of a service at most starts at a second. -/
theorem eq_of_startsBy {l : List GuideEvent} (ok : EventsOk l) {u v : GuideEvent} (hu : u ∈ l) (hv : v ∈ l) (uv : u.startsBy v)
    (vu : v.startsBy u) : u = v := by
  obtain ⟨-, ordered, lengths⟩ := ok
  have long (w : GuideEvent) (hw : w ∈ l) : w.start < w.stop := by
    have := lengths w hw
    rw [GuideEvent.stop]
    omega
  have related : u = v ∨ u.precedes v ∨ v.precedes u :=
    List.Pairwise.forall_of_forall_of_flip (R := fun x y : GuideEvent => x = y ∨ x.precedes y ∨ y.precedes x)
      (fun _ _ => .inl rfl) (ordered.imp fun h => .inr (.inl h)) (ordered.imp fun h => .inr (.inr h)) hu hv
  have := long u hu
  have := long v hv
  rcases related with same | before | before
  · exact same
  · simp only [GuideEvent.startsBy, GuideEvent.precedes] at *
    omega
  · simp only [GuideEvent.startsBy, GuideEvent.precedes] at *
    omega

theorem nodup_of_eventsOk {l : List GuideEvent} (ok : EventsOk l) : l.Nodup := by
  obtain ⟨-, ordered, lengths⟩ := ok
  refine ordered.imp_of_mem fun {u v} hu _ before same => ?_
  subst same
  have := lengths u hu
  simp only [GuideEvent.precedes, GuideEvent.stop] at before
  omega

theorem insertEvent_perm (e : GuideEvent) (l : List GuideEvent) : (insertEvent e l).Perm (e :: l) := by
  induction l with
  | nil => exact .refl _
  | cons x xs ih =>
    rw [insertEvent]
    split
    · exact (ih.cons x).trans (.swap e x xs)
    · exact .refl _

/-! ### The store of a section's work, without its order -/

/-- A store in order and one in any order that hold the same, with the same counts and flag. -/
structure Alike (g : GuideWork) (made : GuideMade) : Prop where
  events : g.events.Perm made.1
  counts : g.counts = made.2.1
  others : g.others = made.2.2

theorem addCount_eq (n count : Nat) : addCount n count = min 4294967295 (count + n) := rfl

/-- An event that has ended, as a full store purges it while the wall is valid (R138). -/
def State.purges (s : State) (v : GuideEvent) : Bool := s.tmb.wallValid && decide (v.start + v.duration ≤ s.tmb.w)

/-- A full store's purge (R138). -/
theorem purge_eq (s : State) (service : Nat) (g : GuideWork) : g.purge s.tmb service =
    { events := g.events.filter fun v => !s.purges v
      counts := if s.tmb.wallValid = true then
        { g.counts with purged := min 4294967295 (g.counts.purged + g.events.countP s.purges) } else g.counts
      others := g.others || g.events.any fun v => s.purges v && v.service != service } := by
  rw [GuideWork.purge]
  by_cases wall : s.tmb.wallValid = true
  · have ended : GuideEvent.ended s.tmb.w = s.purges := by
      funext v
      rw [State.purges, wall, Bool.true_and]
      rfl
    rw [if_pos wall, if_pos wall, ended, List.countP_eq_length_filter]
    dsimp only
    rw [List.any_filter]
    rfl
  · have never : s.purges = fun _ => false := by
      funext v
      rw [State.purges, Bool.eq_false_iff.mpr wall, Bool.false_and]
    have silent : (g.events.any fun v => false && v.service != service) = false := by simp
    rw [if_neg wall, if_neg wall, never, silent, Bool.or_false]
    simp

/-- The event that an eviction takes: none of the others starts after it (R138). -/
def startsLast (l : List GuideEvent) (v : GuideEvent) : Bool :=
  l.all fun u => decide (u.start < v.start ∨ u.start = v.start ∧ u.service ≤ v.service)

theorem startsLast_iff (l : List GuideEvent) (v : GuideEvent) : startsLast l v = true ↔ ∀ u ∈ l, u.startsBy v := by
  simp only [startsLast, List.all_eq_true, decide_eq_true_iff]
  rfl

/-- The eviction from a store that stays full, without its order (R138). -/
def evicted (e : GuideEvent) (made : GuideMade) : GuideMade :=
  let (left, c, others) := made
  if left.all fun v => decide (v.start < e.start) then (left, { c with guideFull := min 4294967295 (c.guideFull + 1) }, others)
  else (e :: left.filter (fun v => !startsLast left v), { c with evicted := min 4294967295 (c.evicted + 1) },
    others || left.any fun v => startsLast left v && v.service != e.service)

theorem evictFor_alike {g : GuideWork} {made : GuideMade} (alike : Alike g made) (ok : EventsOk g.events) (held : g.events ≠ [])
    (e : GuideEvent) : Alike (g.evictFor e) (evicted e made) := by
  obtain ⟨left, c, others⟩ := made
  obtain ⟨same, counts, flag⟩ := alike
  dsimp only at same counts flag
  obtain ⟨last, found, listed, latest⟩ := latestEvent_of_ordered ok.2.1 held
  have is_last (v : GuideEvent) (hv : v ∈ left) : startsLast left v = true ↔ v = last := by
    rw [startsLast_iff]
    constructor
    · intro all
      exact eq_of_startsBy ok (same.mem_iff.mpr hv) listed (latest v (same.mem_iff.mpr hv)) (all last (same.mem_iff.mp listed))
    · rintro rfl u hu
      exact latest u (same.mem_iff.mpr hu)
  rw [GuideWork.evictFor, found, evicted]
  dsimp only
  by_cases drops : last.start < e.start
  · have all : (left.all fun v => decide (v.start < e.start)) = true := by
      rw [List.all_eq_true]
      intro v hv
      have := latest v (same.mem_iff.mpr hv)
      rw [GuideEvent.startsBy] at this
      exact decide_eq_true (by omega)
    rw [if_pos drops, if_pos all]
    exact ⟨same, by rw [counts]; rfl, flag⟩
  · have some_later : ¬ (left.all fun v => decide (v.start < e.start)) = true := fun all =>
      drops (of_decide_eq_true (List.all_eq_true.mp all last (same.mem_iff.mp listed)))
    rw [if_neg drops, if_neg some_later]
    refine ⟨?_, by rw [counts]; rfl, ?_⟩
    · refine (insertEvent_perm e _).trans (List.Perm.cons e ?_)
      rw [(nodup_of_eventsOk ok).erase_eq_filter]
      refine (same.filter _).trans (.of_eq (List.filter_congr fun v hv => ?_))
      rw [Bool.eq_iff_iff, bne_iff_ne, Bool.not_eq_true', ← Bool.not_eq_true, is_last v hv]
    · dsimp only
      rw [flag]
      refine congrArg (others || ·) ?_
      rw [Bool.eq_iff_iff, List.any_eq_true]
      constructor
      · exact fun other => ⟨last, same.mem_iff.mp listed, by
          rw [Bool.and_eq_true]
          exact ⟨(is_last last (same.mem_iff.mp listed)).mpr rfl, other⟩⟩
      · rintro ⟨v, hv, test⟩
        rw [Bool.and_eq_true] at test
        rw [← (is_last v hv).mp test.1]
        exact test.2

theorem roomMade_eq (s : State) (e : GuideEvent) (made : GuideMade) : s.roomMade e made =
    let left := made.1.filter fun v => !s.purges v
    let c := if s.tmb.wallValid = true then
      { made.2.1 with purged := min 4294967295 (made.2.1.purged + made.1.countP s.purges) } else made.2.1
    let others := made.2.2 || made.1.any fun v => s.purges v && v.service != e.service
    if left.length < 4096 then (e :: left, c, others) else evicted e (left, c, others) := rfl

/-- An insertion where room is made (R136, R138). -/
theorem insert_alike {s : State} {g : GuideWork} {made : GuideMade} (alike : Alike g made) (e : GuideEvent)
    (fine : made.1.length < 4096 ∨ EventsOk g.events) : Alike (g.insert s.tmb e)
      (if made.1.length < 4096 then (e :: made.1, made.2.1, made.2.2) else s.roomMade e made) := by
  obtain ⟨same, counts, flag⟩ := alike
  rw [GuideWork.insert, show guideCapacity = 4096 from rfl, same.length_eq]
  by_cases room : made.1.length < 4096
  · rw [if_pos room, if_pos room]
    exact ⟨(insertEvent_perm e _).trans (same.cons e), counts, flag⟩
  have ok := fine.resolve_left room
  have purged : Alike (g.purge s.tmb e.service) (made.1.filter fun v => !s.purges v, (if s.tmb.wallValid = true then
      { made.2.1 with purged := min 4294967295 (made.2.1.purged + made.1.countP s.purges) } else made.2.1),
      made.2.2 || made.1.any fun v => s.purges v && v.service != e.service) := by
    rw [purge_eq]
    exact ⟨same.filter _, by rw [counts, same.countP_eq], by dsimp only; rw [flag, same.any_eq]⟩
  have purgedOk : EventsOk (g.purge s.tmb e.service).events := ok.sublist (g.purge_events s.tmb e.service)
  rw [if_neg room, if_neg room, roomMade_eq]
  dsimp only
  rw [purged.events.length_eq]
  by_cases space : (made.1.filter fun v => !s.purges v).length < 4096
  · rw [if_pos space, if_pos space]
    exact ⟨(insertEvent_perm e _).trans (purged.events.cons e), purged.counts, purged.others⟩
  · rw [if_neg space, if_neg space]
    refine evictFor_alike purged purgedOk (fun empty => ?_) e
    rw [← purged.events.length_eq, empty] at space
    simp at space

/-- Whether an event overlaps another of its service (R133). -/
theorem overlaps_eq (v e : GuideEvent) : v.overlaps e = (v.service == e.service
    && decide (v.start < e.start + e.duration ∧ e.start < v.start + v.duration)) := by
  rw [GuideEvent.overlaps, Bool.decide_and, Bool.and_assoc]
  rfl

/-- One event of a section at a store without its order (R135, R136). -/
theorem eventTaken_eq (s : State) (start : Nat) (made : GuideMade) (sent : GuideEvent) : s.eventTaken start made sent =
    let left := made.1.filter fun v => !v.overlaps sent.fit
    let counted := { made.2.1 with
      displaced := min 4294967295 (made.2.1.displaced + made.1.countP fun v => v.overlaps sent.fit) }
    if sent.duration = 0 then (made.1, { made.2.1 with noLength := min 4294967295 (made.2.1.noLength + 1) }, made.2.2)
    else if ¬ (start ≤ sent.start ∧ sent.start < start + 10800) then
      (made.1, { made.2.1 with outOfSpan := min 4294967295 (made.2.1.outOfSpan + 1) }, made.2.2)
    else if made.1.any fun v => v.overlaps sent.fit && v.segment == sent.segment then
      (made.1, { made.2.1 with overlapping := min 4294967295 (made.2.1.overlapping + 1) }, made.2.2)
    else if left.length < 4096 then (sent.fit :: left, counted, made.2.2) else s.roomMade sent.fit (left, counted, made.2.2) := by
  obtain ⟨store, c, others⟩ := made
  simp only [overlaps_eq]
  rfl

theorem arrive_alike {s : State} {g : GuideWork} {made : GuideMade} (alike : Alike g made) (start : Nat) (sent : GuideEvent)
    (fine : made.1.length < 4096 ∨ EventsOk g.events) :
    Alike (g.arrive s.tmb start sent) (s.eventTaken start made sent) := by
  have ⟨same, counts, flag⟩ := alike
  rw [GuideWork.arrive, eventTaken_eq]
  dsimp only
  by_cases empty : sent.duration = 0
  · rw [if_pos empty, if_pos empty]
    exact ⟨same, by rw [counts]; rfl, flag⟩
  rw [if_neg empty, if_neg empty]
  have span : (!sent.inSpan start) = true ↔ ¬ (start ≤ sent.start ∧ sent.start < start + 10800) := by
    rw [GuideEvent.inSpan, Bool.not_eq_true', ← Bool.not_eq_true, Bool.and_eq_true, decide_eq_true_iff, decide_eq_true_iff]
  by_cases outside : ¬ (start ≤ sent.start ∧ sent.start < start + 10800)
  · rw [if_pos outside, if_pos (span.mpr outside)]
    exact ⟨same, by rw [counts]; rfl, flag⟩
  rw [if_neg outside, if_neg (span.not.mpr outside), GuideWork.take]
  have met : (g.events.any fun x => x.segment == sent.fit.segment && x.overlaps sent.fit)
      = made.1.any fun v => v.overlaps sent.fit && v.segment == sent.segment := by
    rw [same.any_eq]
    simp only [Bool.and_comm]
    rfl
  by_cases meets : (made.1.any fun v => v.overlaps sent.fit && v.segment == sent.segment) = true
  · rw [if_pos meets, if_pos (met.trans meets)]
    exact ⟨same, by rw [counts]; rfl, flag⟩
  · rw [if_neg meets, if_neg fun is => meets (met.symm.trans is)]
    have left : (made.1.filter fun v => !v.overlaps sent.fit).length ≤ made.1.length := List.length_filter_le _ _
    refine insert_alike (g := { g with
        events := g.events.filter fun x => !x.overlaps sent.fit
        counts := { g.counts with
          displaced := addCount (g.events.filter fun x => x.overlaps sent.fit).length g.counts.displaced } })
      (made := (made.1.filter fun v => !v.overlaps sent.fit, { made.2.1 with
      displaced := min 4294967295 (made.2.1.displaced + made.1.countP fun v => v.overlaps sent.fit) }, made.2.2))
      ⟨same.filter _, ?_, flag⟩ sent.fit (fine.imp (left.trans_lt ·) fun ok => ok.sublist List.filter_sublist)
    rw [counts, addCount_eq, ← List.countP_eq_length_filter, same.countP_eq]

/-! ### All the events of a section (R136) -/

theorem foldl_arrive_alike {s : State} {g : GuideWork} {made : GuideMade} (alike : Alike g made) (ok : EventsOk g.events)
    (start : Nat) (events : List GuideEvent) :
    Alike (events.foldl (GuideWork.arrive s.tmb start) g) (events.foldl (s.eventTaken start) made) := by
  induction events generalizing g made with
  | nil => exact alike
  | cons sent rest ih => exact ih (arrive_alike alike start sent (.inr ok)) (ok.arrive sent)

theorem length_eventTaken_le {s : State} {made : GuideMade} (room : made.1.length < 4096) (start : Nat) (sent : GuideEvent) :
    (s.eventTaken start made sent).1.length ≤ made.1.length + 1 := by
  have left : (made.1.filter fun v => !v.overlaps sent.fit).length ≤ made.1.length := List.length_filter_le _ _
  rw [eventTaken_eq]
  dsimp only
  rw [if_pos (left.trans_lt room)]
  repeat' split
  all_goals simp only [List.length_cons]; omega

theorem foldl_arrive_alike_of_room {s : State} {g : GuideWork} {made : GuideMade} (alike : Alike g made) (start : Nat)
    (events : List GuideEvent) (room : made.1.length + events.length ≤ 4096) :
    Alike (events.foldl (GuideWork.arrive s.tmb start) g) (events.foldl (s.eventTaken start) made) := by
  induction events generalizing g made with
  | nil => exact alike
  | cons sent rest ih =>
    rw [List.length_cons] at room
    have space : made.1.length < 4096 := by omega
    have grown := length_eventTaken_le (s := s) space start sent
    exact ih (arrive_alike alike start sent (.inl space)) (by omega)

end Sys2Proof.Machine
end

section
/-! A GUIDE section where the store has room for all its events (R135, R136). -/

namespace Sys2Proof.Machine

/-- Two events whose times overlap, whatever their services. -/
def GuideEvent.meets (a b : GuideEvent) : Bool := decide (a.start < b.start + b.duration ∧ b.start < a.start + a.duration)

theorem overlaps_of_service {v e : GuideEvent} (same : v.service = e.service) : v.overlaps e = v.meets e := by
  rw [overlaps_eq, GuideEvent.meets, beq_iff_eq.mpr same, Bool.true_and]

/-! ### What a section adds (R135, R136) -/

/-- Whether an event has a length and lies in the span of its section (R135). -/
def GuideEvent.fitsIn (start : Nat) (e : GuideEvent) : Bool :=
  decide (e.duration ≠ 0 ∧ start ≤ e.start ∧ e.start < start + 10800)

/-- Whether an event has no length. -/
def GuideEvent.lasts0 (e : GuideEvent) : Bool := decide (e.duration = 0)

/-- Whether an event that has a length lies outside the span. -/
def GuideEvent.outOf (start : Nat) (e : GuideEvent) : Bool :=
  decide (e.duration ≠ 0 ∧ ¬ (start ≤ e.start ∧ e.start < start + 10800))

/-- The events of a section that are fit to store, as they are stored. -/
def fitEvents (start : Nat) (events : List GuideEvent) : List GuideEvent :=
  (events.filter (GuideEvent.fitsIn start)).map GuideEvent.fit

/-- An event held unless it overlaps one held already (R136). -/
def holdApart (held : List GuideEvent) (e : GuideEvent) : List GuideEvent := if held.any (·.meets e) then held else held ++ [e]

/-- The events of a section that are stored: those that overlap none of the section's before them. -/
def addedEvents (fits : List GuideEvent) : List GuideEvent := fits.foldl holdApart []

theorem filter_concat_of_pos {p : GuideEvent → Bool} {e : GuideEvent} (yes : p e = true) (l : List GuideEvent) :
    (l ++ [e]).filter p = l.filter p ++ [e] := by
  rw [List.filter_append, List.filter_cons_of_pos yes, List.filter_nil]

theorem filter_concat_of_neg {p : GuideEvent → Bool} {e : GuideEvent} (no : p e = false) (l : List GuideEvent) :
    (l ++ [e]).filter p = l.filter p := by
  rw [List.filter_append, List.filter_cons_of_neg (by simp [no]), List.filter_nil, List.append_nil]

theorem fitEvents_concat_of_fit {start : Nat} {sent : GuideEvent} (fits : sent.fitsIn start = true) (events : List GuideEvent) :
    fitEvents start (events ++ [sent]) = fitEvents start events ++ [sent.fit] := by
  rw [fitEvents, filter_concat_of_pos fits, List.map_append]
  rfl

theorem fitEvents_concat_of_unfit {start : Nat} {sent : GuideEvent} (unfit : sent.fitsIn start = false) (events : List GuideEvent) :
    fitEvents start (events ++ [sent]) = fitEvents start events := by
  rw [fitEvents, filter_concat_of_neg unfit]
  rfl

theorem addedEvents_append (fits : List GuideEvent) (e : GuideEvent) :
    addedEvents (fits ++ [e]) = holdApart (addedEvents fits) e := by
  rw [addedEvents, List.foldl_append]
  rfl

theorem addedEvents_sublist (fits : List GuideEvent) : (addedEvents fits).Sublist fits := by
  induction fits using List.reverseRecOn with
  | nil => exact .refl _
  | append_singleton fits e ih =>
    rw [addedEvents_append, holdApart]
    split
    · exact ih.trans (List.sublist_append_left _ _)
    · exact ih.append (.refl _)

theorem mem_fitEvents {start : Nat} {events : List GuideEvent} {e : GuideEvent} (listed : e ∈ fitEvents start events) :
    ∃ sent ∈ events, e = sent.fit := by
  obtain ⟨sent, member, rfl⟩ := List.mem_map.mp listed
  exact ⟨sent, (List.mem_filter.mp member).1, rfl⟩

/-- A count that one is added to, a number of times. -/
def plusOnes (n count : Nat) : Nat := n.repeat (fun k => min 4294967295 (k + 1)) count

theorem plusOnes_succ (n count : Nat) : plusOnes (n + 1) count = min 4294967295 (plusOnes n count + 1) := rfl

/-- The counts after a section whose events all find room. -/
def roomCounts (start : Nat) (cleared : List GuideEvent) (c : GuideCounts) (events : List GuideEvent) : GuideCounts :=
  { c with
    noLength := plusOnes (events.filter GuideEvent.lasts0).length c.noLength
    outOfSpan := plusOnes (events.filter (GuideEvent.outOf start)).length c.outOfSpan
    overlapping := plusOnes ((fitEvents start events).length - (addedEvents (fitEvents start events)).length) c.overlapping
    displaced := if addedEvents (fitEvents start events) = [] then c.displaced
      else min 4294967295 (c.displaced + cleared.countP fun v => (addedEvents (fitEvents start events)).any (v.overlaps ·)) }

/-- The store after a section whose events all find room, the section's own last. -/
def roomStore (start : Nat) (cleared : List GuideEvent) (events : List GuideEvent) : List GuideEvent :=
  (addedEvents (fitEvents start events)).reverse
    ++ cleared.filter fun v => !(addedEvents (fitEvents start events)).any (v.overlaps ·)

theorem countP_or (p q : GuideEvent → Bool) (l : List GuideEvent) :
    l.countP (fun v => p v || q v) = l.countP p + (l.filter fun v => !p v).countP q := by
  induction l with
  | nil => rfl
  | cons v rest ih =>
    rw [List.countP_cons, List.countP_cons, List.filter_cons, ih]
    rcases p v with _ | _
    · simp only [Bool.false_or, Bool.not_false, if_true, List.countP_cons, Bool.false_eq_true, if_false]
      omega
    · simp only [Bool.true_or, Bool.not_true, Bool.false_eq_true, if_false, if_true]
      omega

section
variable {s : State} {key segment start : Nat} {cleared : List GuideEvent} {c : GuideCounts} {events : List GuideEvent} {sent : GuideEvent}

/-- An event of no length. -/
theorem eventTaken_room_of_empty (empty : sent.duration = 0) :
    s.eventTaken start (roomStore start cleared events, roomCounts start cleared c events, false) sent
      = (roomStore start cleared (events ++ [sent]), roomCounts start cleared c (events ++ [sent]), false) := by
  have unfit : sent.fitsIn start = false := by simp [GuideEvent.fitsIn, empty]
  rw [eventTaken_eq]
  dsimp only
  rw [if_pos empty, roomStore, roomStore, roomCounts, roomCounts, fitEvents_concat_of_unfit unfit,
    filter_concat_of_pos (p := GuideEvent.lasts0) (decide_eq_true empty),
    filter_concat_of_neg (p := GuideEvent.outOf start) (by simp [GuideEvent.outOf, empty]), List.length_append]
  rfl

/-- An event outside the span. -/
theorem eventTaken_room_of_outside (lasts : sent.duration ≠ 0) (outside : ¬ (start ≤ sent.start ∧ sent.start < start + 10800)) :
    s.eventTaken start (roomStore start cleared events, roomCounts start cleared c events, false) sent
      = (roomStore start cleared (events ++ [sent]), roomCounts start cleared c (events ++ [sent]), false) := by
  have unfit : sent.fitsIn start = false := by
    rw [GuideEvent.fitsIn, decide_eq_false_iff_not]
    exact fun is => outside is.2
  rw [eventTaken_eq]
  dsimp only
  rw [if_neg lasts, if_pos outside, roomStore, roomStore, roomCounts, roomCounts, fitEvents_concat_of_unfit unfit,
    filter_concat_of_neg (p := GuideEvent.lasts0) (decide_eq_false lasts),
    filter_concat_of_pos (p := GuideEvent.outOf start) (decide_eq_true ⟨lasts, outside⟩), List.length_append]
  rfl

/-- The section's events are its service's and its segment's, and the store has none of them left. -/
structure SectionEvents (key segment : Nat) (events cleared : List GuideEvent) : Prop where
  services : ∀ e ∈ events, e.service = key
  segments : ∀ e ∈ events, e.segment = segment
  apart : ∀ v ∈ cleared, ¬ (v.service = key ∧ v.segment = segment)

theorem added_of_section (h : SectionEvents key segment events cleared) {a : GuideEvent}
    (listed : a ∈ addedEvents (fitEvents start events)) : a.service = key ∧ a.segment = segment := by
  obtain ⟨sent, member, rfl⟩ := mem_fitEvents ((addedEvents_sublist _).subset listed)
  exact ⟨h.services sent member, h.segments sent member⟩

/-- Whether an event meets one of its section is told by those added before it. -/
theorem roomStore_met (h : SectionEvents key segment events cleared) (service : sent.service = key) (seg : sent.segment = segment) :
    ((roomStore start cleared events).any fun v => v.overlaps sent.fit && v.segment == sent.segment)
      = (addedEvents (fitEvents start events)).any (·.meets sent.fit) := by
  rw [Bool.eq_iff_iff, List.any_eq_true, List.any_eq_true]
  simp only [Bool.and_eq_true, beq_iff_eq]
  constructor
  · rintro ⟨v, held, overlaps, same⟩
    rcases List.mem_append.mp held with added | old
    · have added := List.mem_reverse.mp added
      exact ⟨v, added, by rwa [overlaps_of_service (e := sent.fit) ((added_of_section h added).1.trans service.symm)] at overlaps⟩
    · have of_service : v.service = sent.fit.service := by
        rw [GuideEvent.overlaps, Bool.and_eq_true, Bool.and_eq_true, beq_iff_eq] at overlaps
        exact overlaps.1.1
      exact absurd ⟨of_service.trans service, same.trans seg⟩ (h.apart v (List.mem_filter.mp old).1)
  · rintro ⟨a, added, meets⟩
    obtain ⟨a_service, a_segment⟩ := added_of_section h added
    exact ⟨a, List.mem_append_left _ (List.mem_reverse.mpr added),
      by rwa [overlaps_of_service (e := sent.fit) (a_service.trans service.symm)], a_segment.trans seg.symm⟩

/-- An event that overlaps one of its section. -/
theorem eventTaken_room_of_met (h : SectionEvents key segment events cleared) (service : sent.service = key)
    (seg : sent.segment = segment) (fits : sent.fitsIn start = true)
    (met : (addedEvents (fitEvents start events)).any (·.meets sent.fit) = true) :
    s.eventTaken start (roomStore start cleared events, roomCounts start cleared c events, false) sent
      = (roomStore start cleared (events ++ [sent]), roomCounts start cleared c (events ++ [sent]), false) := by
  obtain ⟨lasts, span⟩ := of_decide_eq_true fits
  have kept : addedEvents (fitEvents start (events ++ [sent])) = addedEvents (fitEvents start events) := by
    rw [fitEvents_concat_of_fit fits, addedEvents_append, holdApart, if_pos met]
  have more : (fitEvents start (events ++ [sent])).length - (addedEvents (fitEvents start events)).length
      = ((fitEvents start events).length - (addedEvents (fitEvents start events)).length) + 1 := by
    have := (addedEvents_sublist (fitEvents start events)).length_le
    rw [fitEvents_concat_of_fit fits, List.length_append, List.length_singleton]
    omega
  rw [eventTaken_eq]
  dsimp only
  rw [if_neg lasts, if_neg (not_not.mpr span), if_pos ((roomStore_met h service seg).trans met), roomStore, roomStore, roomCounts,
    roomCounts, kept, more, filter_concat_of_neg (p := GuideEvent.lasts0) (decide_eq_false lasts),
    filter_concat_of_neg (p := GuideEvent.outOf start) (by simp [GuideEvent.outOf, span])]
  rfl

/-- An event that overlaps none of its section. -/
theorem eventTaken_room_of_apart (h : SectionEvents key segment events cleared) (service : sent.service = key)
    (seg : sent.segment = segment) (fits : sent.fitsIn start = true) (room : cleared.length + events.length < 4096)
    (apart : (addedEvents (fitEvents start events)).any (·.meets sent.fit) = false) :
    s.eventTaken start (roomStore start cleared events, roomCounts start cleared c events, false) sent
      = (roomStore start cleared (events ++ [sent]), roomCounts start cleared c (events ++ [sent]), false) := by
  obtain ⟨lasts, span⟩ := of_decide_eq_true fits
  have grown : addedEvents (fitEvents start (events ++ [sent])) = addedEvents (fitEvents start events) ++ [sent.fit] := by
    rw [fitEvents_concat_of_fit fits, addedEvents_append, holdApart, if_neg (by simp [apart])]
  have section_meets (a : GuideEvent) (ha : a ∈ addedEvents (fitEvents start events)) : a.overlaps sent.fit = false := by
    rw [overlaps_of_service (e := sent.fit) ((added_of_section h ha).1.trans service.symm)]
    exact Bool.eq_false_iff.mpr fun is => Bool.noConfusion (apart.symm.trans (List.any_eq_true.mpr ⟨a, ha, is⟩))
  have left : (roomStore start cleared events).filter (fun v => !v.overlaps sent.fit)
      = (addedEvents (fitEvents start events)).reverse ++ cleared.filter fun v =>
        !(addedEvents (fitEvents start (events ++ [sent]))).any (v.overlaps ·) := by
    rw [roomStore, List.filter_append, List.filter_filter, grown]
    congr 1
    · exact List.filter_eq_self.mpr fun a ha => by rw [section_meets a (List.mem_reverse.mp ha)]; rfl
    · refine List.filter_congr fun v _ => ?_
      simp [Bool.and_comm]
  have gone : (roomStore start cleared events).countP (fun v => v.overlaps sent.fit)
      = (cleared.filter fun v => !(addedEvents (fitEvents start events)).any (v.overlaps ·)).countP fun v => v.overlaps sent.fit := by
    rw [roomStore, List.countP_append, List.countP_eq_zero.mpr fun a ha => by simp [section_meets a (List.mem_reverse.mp ha)],
      Nat.zero_add]
  have total : cleared.countP (fun v => (addedEvents (fitEvents start (events ++ [sent]))).any (v.overlaps ·))
      = (cleared.countP fun v => (addedEvents (fitEvents start events)).any (v.overlaps ·))
        + (roomStore start cleared events).countP fun v => v.overlaps sent.fit := by
    rw [gone, ← countP_or, grown]
    simp
  have same_left_out : (fitEvents start (events ++ [sent])).length - (addedEvents (fitEvents start (events ++ [sent]))).length
      = (fitEvents start events).length - (addedEvents (fitEvents start events)).length := by
    rw [grown, fitEvents_concat_of_fit fits]
    simp
  have space : ((addedEvents (fitEvents start events)).reverse ++ cleared.filter fun v =>
      !(addedEvents (fitEvents start (events ++ [sent]))).any (v.overlaps ·)).length < 4096 := by
    have added := (addedEvents_sublist (fitEvents start events)).length_le
    have fit : (fitEvents start events).length ≤ events.length := by
      rw [fitEvents, List.length_map]
      exact List.length_filter_le _ _
    have old := List.length_filter_le (fun v => !(addedEvents (fitEvents start (events ++ [sent]))).any (v.overlaps ·)) cleared
    rw [List.length_append, List.length_reverse]
    omega
  have unmet : ¬ ((roomStore start cleared events).any fun v => v.overlaps sent.fit && v.segment == sent.segment) = true := by
    rw [roomStore_met h service seg, apart]
    exact Bool.false_ne_true
  have displaced : min 4294967295 ((roomCounts start cleared c events).displaced
        + (roomStore start cleared events).countP fun v => v.overlaps sent.fit)
      = (roomCounts start cleared c (events ++ [sent])).displaced := by
    have some_added : addedEvents (fitEvents start (events ++ [sent])) ≠ [] := by simp [grown]
    simp only [roomCounts, if_neg some_added, total]
    generalize (roomStore start cleared events).countP _ = n2
    by_cases none : addedEvents (fitEvents start events) = []
    · simp [none]
    · rw [if_neg none]
      omega
  rw [eventTaken_eq]
  dsimp only
  rw [if_neg lasts, if_neg (not_not.mpr span), if_neg unmet, left, if_pos space, displaced]
  refine Prod.ext ?_ (Prod.ext ?_ rfl)
  · rw [roomStore, grown, List.reverse_append]
    rfl
  · simp only [roomCounts, same_left_out]
    rw [filter_concat_of_neg (p := GuideEvent.lasts0) (decide_eq_false lasts),
      filter_concat_of_neg (p := GuideEvent.outOf start) (by simp [GuideEvent.outOf, span])]

/-- All the events of a section, where the store has room for them. -/
theorem foldl_eventTaken_of_room (h : SectionEvents key segment events cleared) (room : cleared.length + events.length ≤ 4096) :
    events.foldl (s.eventTaken start) (cleared, c, false) = (roomStore start cleared events, roomCounts start cleared c events, false) := by
  induction events using List.reverseRecOn with
  | nil =>
    refine Prod.ext ?_ (Prod.ext rfl rfl)
    simp [roomStore, fitEvents, addedEvents]
  | append_singleton events sent ih =>
    have earlier : SectionEvents key segment events cleared :=
      ⟨fun e he => h.services e (List.mem_append_left _ he), fun e he => h.segments e (List.mem_append_left _ he), h.apart⟩
    have service := h.services sent (List.mem_append_right _ (List.mem_singleton_self sent))
    have seg := h.segments sent (List.mem_append_right _ (List.mem_singleton_self sent))
    rw [List.length_append, List.length_singleton] at room
    rw [List.foldl_append, ih earlier (by omega), List.foldl_cons, List.foldl_nil]
    by_cases lasts : sent.duration = 0
    · exact eventTaken_room_of_empty lasts
    by_cases span : start ≤ sent.start ∧ sent.start < start + 10800
    · have fits : sent.fitsIn start = true := decide_eq_true ⟨lasts, span⟩
      cases met : (addedEvents (fitEvents start events)).any (·.meets sent.fit) with
      | true => exact eventTaken_room_of_met earlier service seg fits met
      | false => exact eventTaken_room_of_apart earlier service seg fits (by omega) met
    · exact eventTaken_room_of_outside lasts span

end

end Sys2Proof.Machine
end

section
/-! GUIDE sections: the service records, and what follows a change of the store (R132, R136, R139). -/

namespace Sys2Proof.Machine

/-! ### The version of a segment (R132, R136) -/

theorem putOrdered_perm_of_absent {α : Type} {same : α → Bool} (after : α → Bool) (x : α) {l : List α}
    (absent : ∀ y ∈ l, same y = false) : (putOrdered same after x l).Perm (x :: l) := by
  induction l with
  | nil => exact .refl _
  | cons y ys ih =>
    rw [putOrdered, absent y List.mem_cons_self, if_neg Bool.false_ne_true]
    split
    · exact .refl _
    · exact ((ih fun z hz => absent z (List.mem_cons_of_mem y hz)).cons y).trans (.swap x y ys)

/-- What a search that passes over a record put in place finds. -/
theorem find?_putOrdered_of_other {α : Type} {same : α → Bool} (after : α → Bool) {x : α} {l : List α} {p : α → Bool}
    (absent : ∀ y ∈ l, same y = false) (passes : p x = false) : (putOrdered same after x l).find? p = l.find? p := by
  induction l with
  | nil => simp [putOrdered, passes]
  | cons y ys ih =>
    rw [putOrdered, absent y List.mem_cons_self, if_neg Bool.false_ne_true]
    split
    · rw [List.find?_cons_of_neg (by simp [passes])]
    · rw [List.find?_cons, List.find?_cons, ih fun z hz => absent z (List.mem_cons_of_mem y hz)]

/-- A search for the key of a record put where there was none. -/
theorem find?_putOrdered_of_absent {α : Type} {same : α → Bool} (after : α → Bool) {x : α} {l : List α}
    (absent : ∀ y ∈ l, same y = false) (is : same x = true) : (putOrdered same after x l).find? same = some x := by
  induction l with
  | nil => simp [putOrdered, is]
  | cons y ys ih =>
    rw [putOrdered, absent y List.mem_cons_self, if_neg Bool.false_ne_true]
    split
    · rw [List.find?_cons_of_pos is]
    · rw [List.find?_cons_of_neg (by simp [absent y List.mem_cons_self]), ih fun z hz => absent z (List.mem_cons_of_mem y hz)]

/-- The record of a service as a section finds or makes it (R132). -/
def serviceRecord (service : Nat) (services : List GuideService) : GuideService :=
  (services.find? fun r => r.number == service).getD { number := service, versions := List.replicate 56 none }

theorem find?_withService_self (service : Nat) (services : List GuideService) :
    (withService service services).find? (fun r => r.number == service) = some (serviceRecord service services) := by
  rw [withService, serviceRecord]
  split
  · rename_i held
    obtain ⟨r, listed, is⟩ := List.any_eq_true.mp held
    obtain ⟨found, is_found⟩ := Option.isSome_iff_exists.mp
      (List.find?_isSome (p := fun r : GuideService => r.number == service).mpr ⟨r, listed, is⟩)
    rw [is_found, Option.getD_some]
  · rename_i absent
    have none_is : ∀ r ∈ services, (r.number == service) = false := fun r listed =>
      Bool.eq_false_iff.mpr fun is => absent (List.any_eq_true.mpr ⟨r, listed, is⟩)
    rw [find?_putOrdered_of_absent _ none_is (beq_self_eq_true service), List.find?_eq_none.mpr fun r listed => by simp [none_is r listed],
      Option.getD_none]

theorem find?_withService_of_ne {number service : Nat} (other : number ≠ service) (services : List GuideService) :
    (withService service services).find? (fun r => r.number == number) = services.find? fun r => r.number == number := by
  rw [withService]
  split
  · rfl
  · rename_i absent
    exact find?_putOrdered_of_other _ (fun r listed => Bool.eq_false_iff.mpr fun is => absent (List.any_eq_true.mpr ⟨r, listed, is⟩))
      (beq_eq_false_iff_ne.mpr (Ne.symm other))

theorem exists_withService_iff (number service : Nat) (services : List GuideService) :
    (∃ r ∈ withService service services, r.number = number) ↔ number = service ∨ ∃ r ∈ services, r.number = number := by
  rw [withService]
  split
  · rename_i held
    obtain ⟨r, listed, is⟩ := List.any_eq_true.mp held
    refine ⟨.inr, fun is_or => is_or.elim (fun same => ⟨r, listed, ?_⟩) id⟩
    rw [same]
    exact beq_iff_eq.mp is
  · rename_i absent
    have perm := putOrdered_perm_of_absent (fun r => decide (service < r.number))
      ({ number := service, versions := List.replicate 56 none } : GuideService) (l := services)
      (same := fun r => r.number == service)
      fun r listed => Bool.eq_false_iff.mpr fun is => absent (List.any_eq_true.mpr ⟨r, listed, is⟩)
    simp only [perm.mem_iff, List.mem_cons, exists_eq_or_imp, eq_comm (a := service)]

/-- A record with a segment's version, if it is the service's. -/
def versioned (service segment version : Nat) (r : GuideService) : GuideService :=
  if r.number = service then { r with versions := setAt r.versions segment (some version) } else r

theorem versioned_number (service segment version : Nat) (r : GuideService) : (versioned service segment version r).number = r.number := by
  rw [versioned]
  split <;> rfl

theorem find?_storeVersion (number service segment version : Nat) (services : List GuideService) :
    (storeVersion service segment version services).find? (fun r => r.number == number)
      = (services.find? fun r => r.number == number).map (versioned service segment version) := by
  rw [show storeVersion service segment version services = services.map (versioned service segment version) from rfl, List.find?_map]
  simp only [Function.comp_def, versioned_number]

section
variable {g : Gds} {service segment version : Nat}

/-- The store's service records after a section. -/
def Gds.withVersion (g : Gds) (service segment version : Nat) : List GuideService :=
  storeVersion service segment version (withService service g.services)

/-- A store with other service records. -/
theorem versionOf_withVersion_self (whole : ∀ r ∈ g.services, r.versions.length = 56) (inside : segment ≤ 55) :
    Gds.versionOf { g with services := g.withVersion service segment version } service segment = some version := by
  have length : (serviceRecord service g.services).versions.length = 56 := by
    rw [serviceRecord]
    cases found : g.services.find? fun r => r.number == service with
    | none => rfl
    | some r => exact whole r (List.mem_of_find?_eq_some found)
  have number : (serviceRecord service g.services).number = service := by
    rw [serviceRecord]
    cases found : g.services.find? fun r => r.number == service with
    | none => rfl
    | some r =>
      have is := List.find?_some found
      exact beq_iff_eq.mp is
  rw [Gds.versionOf, Gds.withVersion, find?_storeVersion, find?_withService_self, Option.map_some, Option.bind_some, versioned,
    if_pos number, setAt, List.getElem?_set_self (by omega), Option.join_some]

theorem versionOf_withVersion_of_other {number k : Nat} (other : number ≠ service ∨ k ≠ segment) :
    Gds.versionOf { g with services := g.withVersion service segment version } number k = g.versionOf number k := by
  rw [Gds.versionOf, Gds.versionOf, Gds.withVersion, find?_storeVersion]
  by_cases same : number = service
  · subst same
    have apart := other.resolve_left (not_not.mpr rfl)
    have kept (r : GuideService) : ((versioned number segment version r).versions[k]?).join = (r.versions[k]?).join := by
      rw [versioned]
      split
      · rw [setAt, List.getElem?_set_ne (Ne.symm apart)]
      · rfl
    rw [find?_withService_self, Option.map_some, Option.bind_some, kept, serviceRecord]
    cases g.services.find? fun r => r.number == number with
    | none =>
      rw [Option.getD_none, Option.bind_none, List.getElem?_replicate]
      split <;> rfl
    | some r => rfl
  · rw [find?_withService_of_ne same]
    cases found : g.services.find? fun r => r.number == number with
    | none => rfl
    | some r =>
      have is := List.find?_some found
      rw [Option.map_some, versioned, if_neg (by rw [beq_iff_eq.mp is]; exact same)]

theorem exists_withVersion_iff (number : Nat) : (∃ r ∈ g.withVersion service segment version, r.number = number)
    ↔ number = service ∨ ∃ r ∈ g.services, r.number = number := by
  rw [← exists_withService_iff, Gds.withVersion,
    show storeVersion service segment version = List.map (versioned service segment version) from rfl]
  simp only [List.mem_map, exists_exists_and_eq_and, versioned_number]

end

/-! ### What follows (R139) -/

/-- What a section that is no repeat leaves besides its events and counts, as the statement of O49 has it. -/
def State.GuideFinished (s s0 : State) (key segment version : Nat) (others : Bool) (t : State) : Prop :=
  let stored := { s0 with gds := { s.gds with
    services := t.gds.services, events := t.gds.events, counts := t.gds.counts } }
  let reported (u : State) : State := if s.gds.events = t.gds.events then u
    else emit (.guideChanged key segment version (t.gds.eventsOf key).length t.gds.events.length others) u
  let moved : Prop := ∃ f, s.gds.followed = some f ∧ s.gds.eventsOf f ≠ t.gds.eventsOf f
  t.gds.versionOf key segment = some version
  ∧ (∀ number k, (number ≠ key ∨ k ≠ segment) → t.gds.versionOf number k = s.gds.versionOf number k)
  ∧ (∀ number, (∃ r ∈ t.gds.services, r.number = number)
      ↔ number = key ∨ ∃ r ∈ s.gds.services, r.number = number)
  ∧ (moved → t = reported stored.eventEndKept) ∧ (¬ moved → t = reported stored)

/-- A change of the store reported, and nothing where there is none (R139). -/
def State.guideReported (s : State) (key segment version : Nat) (others : Bool) (events : List GuideEvent) (u : State) : State :=
  if s.gds.events = events then u
  else emit (.guideChanged key segment version (events.filter fun e => e.service == key).length events.length others) u

theorem guideReported_gds (s : State) (key segment version : Nat) (others : Bool) (events : List GuideEvent) (u : State) :
    (s.guideReported key segment version others events u).gds = u.gds := by
  rw [State.guideReported]
  split
  · rfl
  · simp

/-- Whether the followed service's events differ from those before (R139). -/
def Gds.followedMoved (g : Gds) (events : List GuideEvent) : Bool :=
  g.followed.any fun n => g.eventsOf n != events.filter fun e => e.service == n

theorem followedMoved_iff (g : Gds) (events : List GuideEvent) : g.followedMoved events = true
    ↔ ∃ f, g.followed = some f ∧ g.eventsOf f ≠ events.filter fun e => e.service == f := by
  rw [Gds.followedMoved, Option.any_eq_true]
  simp only [bne_iff_ne]

/-- The part after a section's events, EVENT_END kept and the change reported. -/
theorem completeGuide_eq {before : Gds} {key segment version : Nat} {others : Bool} {s u : State} (is : s.gds = before)
    (followed : u.gds.followed = before.followed) :
    completeGuide before key segment version others u = s.guideReported key segment version others u.gds.events
      (if before.followedMoved u.gds.events then u.eventEndKept else u) := by
  have moved : (u.gds.followed.any fun n => before.eventsOf n != u.gds.eventsOf n) = before.followedMoved u.gds.events := by
    rw [followed]
    rfl
  have kept : (if before.followedMoved u.gds.events then u.eventEndKept else u).gds.events = u.gds.events := by
    split <;> rfl
  rw [completeGuide, moved, keepEventEnd_eq, State.guideReported, is, State.serviceEvents, Gds.eventsOf, kept]

theorem completeGuide_finished {s s0 : State} {key segment version : Nat} (others : Bool) {events : List GuideEvent}
    {counts : GuideCounts} (whole : ∀ r ∈ s.gds.services, r.versions.length = 56) (inside : segment ≤ 55) :
    let u := { s0 with gds := { s.gds with services := s.gds.withVersion key segment version, events, counts } }
    let t := completeGuide s.gds key segment version others u
    t.gds.events = events ∧ t.gds.counts = counts ∧ s.GuideFinished s0 key segment version others t := by
  intro u t
  have t_eq : t = s.guideReported key segment version others events
      (if s.gds.followedMoved events then u.eventEndKept else u) := completeGuide_eq (u := u) rfl rfl
  have t_gds : t.gds = (if s.gds.followedMoved events then u.eventEndKept else u).gds := by rw [t_eq, guideReported_gds]
  have t_events : t.gds.events = events := by
    rw [t_gds]
    split <;> rfl
  have t_counts : t.gds.counts = counts := by
    rw [t_gds]
    split <;> rfl
  have t_services : t.gds.services = s.gds.withVersion key segment version := by
    rw [t_gds]
    split <;> rfl
  have version_eq (number k : Nat) : t.gds.versionOf number k
      = Gds.versionOf { s.gds with services := s.gds.withVersion key segment version } number k := by
    rw [Gds.versionOf, t_services]
    rfl
  refine ⟨t_events, t_counts, ?_⟩
  unfold State.GuideFinished
  intro stored reported moved
  have stored_eq : stored = u := by
    simp only [stored, t_events, t_counts, t_services]
    rfl
  have reported_eq (v : State) : reported v = s.guideReported key segment version others events v := by
    simp only [reported, t_events, State.guideReported, Gds.eventsOf]
  have moved_iff : moved ↔ s.gds.followedMoved events = true := by
    rw [followedMoved_iff]
    simp only [moved, Gds.eventsOf, t_events]
  refine ⟨?_, fun number k other => ?_, fun number => ?_, fun yes => ?_, fun no => ?_⟩
  · rw [version_eq]
    exact versionOf_withVersion_self whole inside
  · rw [version_eq]
    exact versionOf_withVersion_of_other other
  · rw [t_services]
    exact exists_withVersion_iff number
  · rw [reported_eq, stored_eq, t_eq, if_pos (moved_iff.mp yes)]
  · rw [reported_eq, stored_eq, t_eq, if_neg (moved_iff.not.mp no)]

end Sys2Proof.Machine
end

section
/-! GUIDE sections as they are applied (R134 to R136, R138, R139). -/

namespace Sys2Proof.Machine

/-! ### The section's outcome (R134 to R136) -/

/-- The store without a segment's events (R136). -/
def Gds.without (g : Gds) (key segment : Nat) : List GuideEvent :=
  g.events.filter fun e => !(e.service == key && e.segment == segment)

/-- The work of a section that is no repeat, its segment's old events gone. -/
def State.guideWork (s : State) (key segment start : Nat) (events : List GuideEvent) : GuideWork :=
  events.foldl (GuideWork.arrive s.tmb start) { events := s.gds.without key segment, counts := s.gds.counts, others := false }

/-- The same at a store without its order. -/
def State.guideMade (s : State) (key segment start : Nat) (events : List GuideEvent) : GuideMade :=
  events.foldl (s.eventTaken start) (s.gds.without key segment, s.gds.counts, false)

section
variable {s : State} {x : Section} {start : Nat} {events : List GuideEvent}

theorem applyGuideSection_of_refused
    (refused : guideBody x.key (x.bits % 64) x.body = none ∨ x.key = 0 ∨ 9999 < x.key ∨ 55 < x.bits % 64) :
    applyGuideSection x s = { s with gds := { s.gds with
      counts := { s.gds.counts with rejected := min 4294967295 (s.gds.counts.rejected + 1) } } } := by
  rw [applyGuideSection]
  dsimp only
  cases body : guideBody x.key (x.bits % 64) x.body with
  | none => rfl
  | some read =>
    have out := refused.resolve_left (by simp [body])
    refine if_pos ?_
    simp only [Bool.or_eq_true, decide_eq_true_eq]
    omega

theorem applyGuideSection_of_body (read : guideBody x.key (x.bits % 64) x.body = some (start, events)) (low : 1 ≤ x.key)
    (high : x.key ≤ 9999) (inside : x.bits % 64 ≤ 55) : applyGuideSection x s =
      if s.gds.versionOf x.key (x.bits % 64) = some x.version then s
      else if !s.gds.hasService x.key && s.gds.services.length ≥ 256 then
        countGuide (fun c => { c with servicesRefused := addCount 1 c.servicesRefused }) s
      else
        let out := applyGuideEvents x.key (x.bits % 64) x.version start events s
        completeGuide s.gds x.key (x.bits % 64) x.version out.2 out.1 := by
  rw [applyGuideSection, read]
  refine if_neg ?_
  simp only [Bool.or_eq_true, decide_eq_true_eq]
  omega

theorem hasService_iff (g : Gds) (key : Nat) : g.hasService key = true ↔ ∃ r ∈ g.services, r.number = key := by
  simp only [Gds.hasService, List.any_eq_true, beq_iff_eq]

/-- A section that is no repeat, of a service that has a record or finds room for one. -/
theorem applyGuideSection_of_new (read : guideBody x.key (x.bits % 64) x.body = some (start, events)) (low : 1 ≤ x.key)
    (high : x.key ≤ 9999) (inside : x.bits % 64 ≤ 55) (new : s.gds.versionOf x.key (x.bits % 64) ≠ some x.version)
    (room : (∃ r ∈ s.gds.services, r.number = x.key) ∨ s.gds.services.length < 256) :
    let work := s.guideWork x.key (x.bits % 64) start events
    applyGuideSection x s = completeGuide s.gds x.key (x.bits % 64) x.version work.others
      { s with gds := { s.gds with
        services := s.gds.withVersion x.key (x.bits % 64) x.version
        events := work.events, counts := { work.counts with applied := min 4294967295 (work.counts.applied + 1) } } } := by
  intro work
  have fits : ¬ (!s.gds.hasService x.key && s.gds.services.length ≥ 256) = true := by
    simp only [Bool.and_eq_true, Bool.not_eq_true', ← Bool.not_eq_true, hasService_iff, decide_eq_true_eq]
    rintro ⟨absent, full⟩
    exact room.elim absent full.not_gt
  rw [applyGuideSection_of_body read low high inside, if_neg new, if_neg fits]
  rfl

/-- A section changes nothing of the count of those applied before it is counted itself. -/
theorem eventTaken_applied (s : State) (start : Nat) (made : GuideMade) (sent : GuideEvent) :
    (s.eventTaken start made sent).2.1.applied = made.2.1.applied := by
  have evicts (e : GuideEvent) (m : GuideMade) : (evicted e m).2.1.applied = m.2.1.applied := by
    rw [evicted]
    split <;> rfl
  have makes (e : GuideEvent) (m : GuideMade) : (s.roomMade e m).2.1.applied = m.2.1.applied := by
    rw [roomMade_eq]
    dsimp only
    have counted : (if s.tmb.wallValid = true then
        { m.2.1 with purged := min 4294967295 (m.2.1.purged + m.1.countP s.purges) } else m.2.1).applied = m.2.1.applied := by
      split <;> rfl
    split
    · exact counted
    · rw [evicts]
      exact counted
  rw [eventTaken_eq]
  dsimp only
  split
  · rfl
  split
  · rfl
  split
  · rfl
  split
  · rfl
  · exact makes _ _

theorem guideMade_applied (s : State) (key segment start : Nat) (events : List GuideEvent) :
    (s.guideMade key segment start events).2.1.applied = s.gds.counts.applied := by
  refine List.foldlRecOn (motive := fun m : GuideMade => m.2.1.applied = s.gds.counts.applied) events _ rfl fun m ih e _ => ?_
  rw [eventTaken_applied, ih]

/-- The section's events are its service's and its segment's. -/
theorem events_of_body {key segment : Nat} {body : List Byte} (read : guideBody key segment body = some (start, events)) :
    ∀ e ∈ events, e.service = key ∧ e.segment = segment := by
  obtain ⟨-, -, -, length, first, -, follow⟩ := (guideBody_eq_some_iff key segment body start events).mp read
  intro e listed
  obtain ⟨k, at_k⟩ := List.mem_iff_getElem?.mp listed
  obtain ⟨-, -, front⟩ := follow k (by
    obtain ⟨below, -⟩ := List.getElem?_eq_some_iff.mp at_k
    omega)
  rw [at_k] at front
  obtain rfl := Option.some.inj front
  exact ⟨rfl, rfl⟩

theorem guideWork_alike_of_ok (ok : s.GuideOk) (key segment start : Nat) (events : List GuideEvent) :
    Alike (s.guideWork key segment start events) (s.guideMade key segment start events) :=
  foldl_arrive_alike ⟨.refl _, rfl, rfl⟩ ((guideOk_iff.mp ok).2.sublist List.filter_sublist) start events

theorem guideWork_ordered (ok : s.GuideOk) (key segment start : Nat) (events : List GuideEvent) :
    EventsOk (s.guideWork key segment start events).events :=
  List.foldlRecOn (motive := fun g : GuideWork => EventsOk g.events) events _ ((guideOk_iff.mp ok).2.sublist List.filter_sublist)
    fun _ ih e _ => ih.arrive e

theorem guideWork_alike_of_room (key segment start : Nat) (events : List GuideEvent)
    (room : s.gds.events.length + events.length ≤ 4096) :
    Alike (s.guideWork key segment start events) (s.guideMade key segment start events) :=
  foldl_arrive_alike_of_room ⟨.refl _, rfl, rfl⟩ start events
    (show (s.gds.without key segment).length + events.length ≤ 4096 from
      le_trans (Nat.add_le_add_right (List.length_filter_le _ _) _) room)

end

theorem guideSection_runs {s : State} {x : Section} {rest : List Section} (running : s.running = true)
    (front : s.queues.guide = x :: rest) :
    exec .guideSection s = .next (applyGuideSection x { s with queues := { s.queues with guide := rest } }) := by
  refine (whenRunning_of_running running _).trans ?_
  rw [consume_cons (c := .guide) (s := s) applyGuideSection front]
  rfl

/-- A section that is no repeat as GUIDE_SECTION applies it: what the store holds, its counts, and what follows. -/
theorem guideSection_new {s : State} {x : Section} {rest : List Section} (running : s.running = true)
    (front : s.queues.guide = x :: rest) {start : Nat} {events : List GuideEvent}
    (read : guideBody x.key (x.bits % 64) x.body = some (start, events)) (low : 1 ≤ x.key) (high : x.key ≤ 9999)
    (inside : x.bits % 64 ≤ 55) (new : s.gds.versionOf x.key (x.bits % 64) ≠ some x.version)
    (room : (∃ r ∈ s.gds.services, r.number = x.key) ∨ s.gds.services.length < 256)
    (whole : ∀ r ∈ s.gds.services, r.versions.length = 56)
    (alike : Alike (s.guideWork x.key (x.bits % 64) start events) (s.guideMade x.key (x.bits % 64) start events)) :
    let made := s.guideMade x.key (x.bits % 64) start events
    ∃ t, exec .guideSection s = .next t ∧ t.gds.events = (s.guideWork x.key (x.bits % 64) start events).events
      ∧ (∀ e, e ∈ t.gds.events ↔ e ∈ made.1) ∧ t.gds.counts = { made.2.1 with applied := min 4294967295 (s.gds.counts.applied + 1) }
      ∧ s.GuideFinished { s with queues := { s.queues with guide := rest } } x.key (x.bits % 64) x.version made.2.2 t := by
  intro made
  have runs := guideSection_runs running front
  have applied := applyGuideSection_of_new (s := { s with queues := { s.queues with guide := rest } }) read low high inside new room
  obtain ⟨t_events, t_counts, t_finished⟩ := completeGuide_finished (s := s)
    (s0 := { s with queues := { s.queues with guide := rest } }) (version := x.version)
    (s.guideWork x.key (x.bits % 64) start events).others
    (events := (s.guideWork x.key (x.bits % 64) start events).events)
    (counts := { (s.guideWork x.key (x.bits % 64) start events).counts with
      applied := min 4294967295 ((s.guideWork x.key (x.bits % 64) start events).counts.applied + 1) }) whole inside
  have events_mem (e : GuideEvent) : e ∈ (s.guideWork x.key (x.bits % 64) start events).events ↔ e ∈ made.1 := alike.events.mem_iff
  refine ⟨_, runs.trans (congrArg _ applied), t_events, fun e => ?_, t_counts.trans ?_, ?_⟩
  · rw [← events_mem e]
    exact iff_of_eq (congrArg (e ∈ ·) t_events)
  · rw [alike.counts, guideMade_applied]
  · rw [← alike.others]
    exact t_finished

/-! ### A section with room, and one of a single event at a full store (R136, R138) -/

theorem outside_iff {v : GuideEvent} {key segment : Nat} :
    (!(v.service == key && v.segment == segment)) = true ↔ ¬ (v.service = key ∧ v.segment = segment) := by
  rw [Bool.not_eq_true', ← Bool.not_eq_true, Bool.and_eq_true, beq_iff_eq, beq_iff_eq]

/-- The section's events, and the store without its segment's. -/
theorem sectionEvents_of_body {s : State} {key segment start : Nat} {body : List Byte} {events : List GuideEvent}
    (read : guideBody key segment body = some (start, events)) : SectionEvents key segment events (s.gds.without key segment) where
  services e listed := (events_of_body read e listed).1
  segments e listed := (events_of_body read e listed).2
  apart v held := by
    exact outside_iff.mp (List.mem_filter.mp held).2

theorem guideMade_of_room {s : State} {key segment start : Nat} {body : List Byte} {events : List GuideEvent}
    (read : guideBody key segment body = some (start, events)) (room : s.gds.events.length + events.length ≤ 4096) :
    s.guideMade key segment start events = (roomStore start (s.gds.without key segment) events,
      roomCounts start (s.gds.without key segment) s.gds.counts events, false) :=
  foldl_eventTaken_of_room (sectionEvents_of_body read)
    (le_trans (Nat.add_le_add_right (List.length_filter_le _ _) _) room)

section
variable {s : State} {key segment start : Nat} {body : List Byte} {events : List GuideEvent}

/-- What a section with room leaves in the store. -/
theorem mem_roomStore_iff (h : SectionEvents key segment events (s.gds.without key segment)) (e : GuideEvent) :
    e ∈ roomStore start (s.gds.without key segment) events ↔ e ∈ addedEvents (fitEvents start events)
      ∨ (e ∈ s.gds.events ∧ ¬ (e.service = key ∧ e.segment = segment)
        ∧ ∀ a ∈ addedEvents (fitEvents start events), e.service = key → ¬ (e.start < a.start + a.duration ∧ a.start < e.start + e.duration)) := by
  rw [roomStore, List.mem_append, List.mem_reverse, List.mem_filter, Gds.without, List.mem_filter, and_assoc]
  refine or_congr Iff.rfl (and_congr Iff.rfl (and_congr outside_iff ?_))
  rw [Bool.not_eq_true', List.any_eq_false]
  refine forall₂_congr fun a added => ?_
  rw [overlaps_eq, (added_of_section h added).1, Bool.and_eq_true, beq_iff_eq, decide_eq_true_iff]
  exact not_and

/-- The events of other segments that a section displaces. -/
theorem countP_displaced (h : SectionEvents key segment events (s.gds.without key segment)) :
    ((s.gds.without key segment).countP fun v => (addedEvents (fitEvents start events)).any (v.overlaps ·))
      = (s.gds.events.filter fun e => decide (e.service = key ∧ e.segment ≠ segment
        ∧ ∃ a ∈ addedEvents (fitEvents start events), e.start < a.start + a.duration ∧ a.start < e.start + e.duration)).length := by
  rw [Gds.without, List.countP_filter, List.countP_eq_length_filter]
  refine congrArg List.length (List.filter_congr fun e _ => ?_)
  rw [Bool.eq_iff_iff, Bool.and_eq_true, List.any_eq_true, decide_eq_true_iff]
  have meets (a : GuideEvent) (added : a ∈ addedEvents (fitEvents start events)) :
      e.overlaps a = true ↔ e.service = key ∧ e.start < a.start + a.duration ∧ a.start < e.start + e.duration := by
    rw [overlaps_eq, (added_of_section h added).1, Bool.and_eq_true, beq_iff_eq, decide_eq_true_iff]
  rw [outside_iff]
  constructor
  · rintro ⟨⟨a, added, overlaps⟩, apart⟩
    obtain ⟨service, times⟩ := (meets a added).mp overlaps
    exact ⟨service, fun same => apart ⟨service, same⟩, a, added, times⟩
  · rintro ⟨service, apart, a, added, times⟩
    exact ⟨⟨a, added, (meets a added).mpr ⟨service, times⟩⟩, fun same => apart same.2⟩

/-- One event that fits, at a full store that it overlaps nothing of. -/
theorem guideMade_of_full {e : GuideEvent} (read : guideBody key segment body = some (start, events))
    (fits : fitEvents start events = [e]) (one : events.length = 1) (full : s.gds.events.length = 4096)
    (apart : ∀ v ∈ s.gds.events, v.service = key →
      v.segment ≠ segment ∧ ¬ (v.start < e.start + e.duration ∧ e.start < v.start + v.duration)) :
    e.service = key ∧ s.guideMade key segment start events
      = s.roomMade e (s.gds.events, { s.gds.counts with displaced := min 4294967295 s.gds.counts.displaced }, false) := by
  obtain ⟨sent, rfl⟩ := List.length_eq_one_iff.mp one
  have service := (events_of_body read sent List.mem_cons_self).1
  have all : s.gds.without key segment = s.gds.events := by
    refine List.filter_eq_self.mpr fun v held => ?_
    have := apart v held
    simp only [Bool.not_eq_true', Bool.and_eq_false_iff, beq_eq_false_iff_ne]
    exact or_iff_not_imp_left.mpr fun same => (this (not_not.mp same)).1
  have fit : sent.fitsIn start = true ∧ e = sent.fit := by
    cases is : sent.fitsIn start with
    | false => simp [fitEvents, is] at fits
    | true => exact ⟨rfl, by simpa [fitEvents, is, eq_comm] using fits⟩
  obtain ⟨fit, rfl⟩ := fit
  obtain ⟨lasts, span⟩ := of_decide_eq_true fit
  have no_overlap (v : GuideEvent) (held : v ∈ s.gds.events) : v.overlaps sent.fit = false := by
    rw [overlaps_eq, Bool.and_eq_false_iff, beq_eq_false_iff_ne, decide_eq_false_iff_not]
    exact or_iff_not_imp_left.mpr fun same => (apart v held ((not_not.mp same).trans service)).2
  have kept : s.gds.events.filter (fun v => !v.overlaps sent.fit) = s.gds.events :=
    List.filter_eq_self.mpr fun v held => by rw [no_overlap v held]; rfl
  have gone : s.gds.events.countP (fun v => v.overlaps sent.fit) = 0 :=
    List.countP_eq_zero.mpr fun v held => by simp [no_overlap v held]
  have unmet : ¬ (s.gds.events.any fun v => v.overlaps sent.fit && v.segment == sent.segment) = true := by
    rw [List.any_eq_true]
    rintro ⟨v, held, is⟩
    rw [no_overlap v held, Bool.false_and] at is
    exact Bool.noConfusion is
  refine ⟨service, ?_⟩
  rw [State.guideMade, all, List.foldl_cons, List.foldl_nil, eventTaken_eq]
  dsimp only
  rw [if_neg lasts, if_neg (not_not.mpr span), if_neg unmet, kept, gone, if_neg full.not_lt, Nat.add_zero]

/-- What a full store without ended events purges. -/
theorem filter_purges_of_never (never : ∀ v ∈ s.gds.events, s.purges v = false) :
    s.gds.events.filter (fun v => !s.purges v) = s.gds.events ∧ ∀ service,
      (s.gds.events.any fun v => s.purges v && v.service != service) = false := by
  refine ⟨List.filter_eq_self.mpr fun v held => by rw [never v held]; rfl, fun service => List.any_eq_false.mpr fun v held => ?_⟩
  rw [never v held, Bool.false_and]
  exact Bool.false_ne_true

theorem purges_iff (v : GuideEvent) : s.purges v = true ↔ s.tmb.wallValid = true ∧ v.start + v.duration ≤ s.tmb.w := by
  rw [State.purges, Bool.and_eq_true, decide_eq_true_iff]

/-- The counts after a purge. -/
def State.purgedCounts (s : State) (c : GuideCounts) : GuideCounts :=
  if s.tmb.wallValid = true then { c with purged := min 4294967295 (c.purged + s.gds.events.countP s.purges) } else c

theorem purgedCounts_with_applied (c : GuideCounts) (applied : Nat) :
    { s.purgedCounts { c with displaced := min 4294967295 c.displaced } with applied } = { c with
      applied, displaced := min 4294967295 c.displaced
      purged := if s.tmb.wallValid = true
        then min 4294967295 (c.purged + (s.gds.events.filter fun v =>
          decide (s.tmb.wallValid = true ∧ v.start + v.duration ≤ s.tmb.w)).length) else c.purged } := by
  have count : s.gds.events.countP s.purges = (s.gds.events.filter fun v =>
      decide (s.tmb.wallValid = true ∧ v.start + v.duration ≤ s.tmb.w)).length := by
    rw [List.countP_eq_length_filter]
    refine congrArg List.length (List.filter_congr fun v _ => ?_)
    rw [Bool.eq_iff_iff, purges_iff, decide_eq_true_iff]
  rw [State.purgedCounts, count]
  split <;> rfl

theorem purgedCounts_guideFull (c : GuideCounts) : (s.purgedCounts c).guideFull = c.guideFull := by
  rw [State.purgedCounts]
  split <;> rfl

theorem purgedCounts_evicted (c : GuideCounts) : (s.purgedCounts c).evicted = c.evicted := by
  rw [State.purgedCounts]
  split <;> rfl

/-- Whether the purge took an event of another service. -/
theorem any_purges (service : Nat) : (s.gds.events.any fun v => s.purges v && v.service != service)
    = decide (∃ v ∈ s.gds.events, (s.tmb.wallValid = true ∧ v.start + v.duration ≤ s.tmb.w) ∧ v.service ≠ service) := by
  rw [Bool.eq_iff_iff, List.any_eq_true, decide_eq_true_iff]
  simp only [Bool.and_eq_true, purges_iff, bne_iff_ne]

theorem roomMade_of_ended {e : GuideEvent} {c : GuideCounts} (full : s.gds.events.length = 4096)
    (ended : ∃ v ∈ s.gds.events, s.purges v = true) : s.roomMade e (s.gds.events, c, false)
      = (e :: s.gds.events.filter (fun v => !s.purges v), s.purgedCounts c,
        s.gds.events.any fun v => s.purges v && v.service != e.service) := by
  obtain ⟨v, held, gone⟩ := ended
  have fewer : (s.gds.events.filter fun v => !s.purges v).length < 4096 := by
    rw [← full]
    exact List.length_filter_lt_length_iff_exists.mpr ⟨v, held, by simp [gone]⟩
  rw [roomMade_eq]
  dsimp only
  rw [if_pos fewer, Bool.false_or]
  rfl

theorem roomMade_of_never {e : GuideEvent} {c : GuideCounts} (full : s.gds.events.length = 4096)
    (never : ∀ v ∈ s.gds.events, s.purges v = false) : s.roomMade e (s.gds.events, c, false)
      = evicted e (s.gds.events, s.purgedCounts c, false) := by
  obtain ⟨kept, silent⟩ := filter_purges_of_never never
  rw [roomMade_eq]
  dsimp only
  rw [kept, silent, if_neg full.not_lt, Bool.false_or]
  rfl

theorem evicted_of_last {e : GuideEvent} {l : List GuideEvent} {c : GuideCounts} (before : ∀ v ∈ l, v.start < e.start) :
    evicted e (l, c, false) = (l, { c with guideFull := min 4294967295 (c.guideFull + 1) }, false) :=
  if_pos (List.all_eq_true.mpr fun v held => decide_eq_true (before v held))

/-- The eviction in favour of an event that does not start after the last. -/
theorem evicted_of_later {e last : GuideEvent} {l : List GuideEvent} {c : GuideCounts} (ok : EventsOk l) (held : last ∈ l)
    (latest : ∀ v ∈ l, v.startsBy last) (no_later : e.start ≤ last.start) :
    evicted e (l, c, false) = (e :: l.filter (fun v => decide (v ≠ last)), { c with evicted := min 4294967295 (c.evicted + 1) },
      decide (last.service ≠ e.service)) := by
  have is_last (v : GuideEvent) (hv : v ∈ l) : startsLast l v = true ↔ v = last := by
    rw [startsLast_iff]
    constructor
    · exact fun all => eq_of_startsBy ok hv held (latest v hv) (all last held)
    · rintro rfl u hu
      exact latest u hu
  have some_later : ¬ (l.all fun v => decide (v.start < e.start)) = true := fun all =>
    no_later.not_gt (of_decide_eq_true (List.all_eq_true.mp all last held))
  have others : (l.any fun v => startsLast l v && v.service != e.service) = decide (last.service ≠ e.service) := by
    rw [Bool.eq_iff_iff, List.any_eq_true, decide_eq_true_iff]
    simp only [Bool.and_eq_true, bne_iff_ne]
    constructor
    · rintro ⟨v, hv, is, other⟩
      rwa [← (is_last v hv).mp is]
    · exact fun other => ⟨last, held, (is_last last held).mpr rfl, other⟩
  refine (if_neg some_later).trans (Prod.ext ?_ (Prod.ext rfl ?_))
  · refine congrArg (e :: ·) (List.filter_congr fun v hv => ?_)
    rw [Bool.eq_iff_iff, Bool.not_eq_true', ← Bool.not_eq_true, is_last v hv, decide_eq_true_iff]
  · exact (Bool.false_or _).trans others

end

/-- Store order has one arrangement of the same events. -/
theorem eq_of_perm_of_eventsOk {l m : List GuideEvent} (same : l.Perm m) (hl : EventsOk l) (hm : EventsOk m) : l = m := by
  refine same.eq_of_pairwise (fun u v hu hv uv vu => ?_) hl.2.1 hm.2.1
  have := hl.2.2 u hu
  have := hm.2.2 v hv
  simp only [GuideEvent.precedes, GuideEvent.stop] at uv vu
  omega

/-- Settles O49: a section's events as the store takes them, and the same events at a store without its order. -/
theorem guideSectionsReplaceTheEventsOfTheirSegment : Obligations.GuideSectionsReplaceTheEventsOfTheirSegment := by
  refine ⟨fun service segment body start events => guideBody_eq_some_iff service segment body start events, ?_⟩
  intro s x rest running front s0 c segment refused
  have runs : exec .guideSection s = .next (applyGuideSection x s0) := guideSection_runs running front
  refine ⟨fun out => runs.trans (congrArg _ (applyGuideSection_of_refused (s := s0) out)), fun start events read low high inside => ?_⟩
  refine ⟨fun held => ?_, fun new => ⟨fun absent full => ?_, fun room whole => ?_⟩⟩
  · exact runs.trans (congrArg _ ((applyGuideSection_of_body (s := s0) read low high inside).trans (if_pos held)))
  · refine runs.trans (congrArg _ ((applyGuideSection_of_body (s := s0) read low high inside).trans ((if_neg new).trans (if_pos ?_))))
    have none_is : s0.gds.hasService x.key = false := Bool.eq_false_iff.mpr fun is =>
      ((hasService_iff _ _).mp is).elim fun r held => absent r held.1 held.2
    rw [none_is, decide_eq_true full]
    rfl
  intro fits overlap added plus finished
  have section_events := sectionEvents_of_body (s := s) read
  refine ⟨fun space => ?_, fun ok => ?_, ?_⟩
  · obtain ⟨t, moves, -, events_iff, counts, done⟩ := guideSection_new running front read low high inside new room whole
      (guideWork_alike_of_room x.key segment start events space)
    rw [guideMade_of_room read space] at events_iff counts done
    refine ⟨t, moves, fun e => (events_iff e).trans (mem_roomStore_iff section_events e), ?_, done⟩
    rw [counts]
    dsimp only [roomCounts]
    rw [countP_displaced section_events]
    rfl
  · obtain ⟨t, moves, same, events_iff, counts, done⟩ := guideSection_new running front read low high inside new room whole
      (guideWork_alike_of_ok ok x.key segment start events)
    refine ⟨t, moves, events_iff, ?_, counts, done⟩
    rw [same]
    exact (guideWork_ordered ok x.key segment start events).2.1
  · intro e one_fits one ok full apart ended counted
    obtain ⟨t, moves, same, events_iff, counts, done⟩ := guideSection_new running front read low high inside new room whole
      (guideWork_alike_of_ok ok x.key segment start events)
    have alike := guideWork_alike_of_ok ok x.key segment start events
    obtain ⟨service, made⟩ := guideMade_of_full read one_fits one full apart
    rw [made] at events_iff counts done alike
    have counted_eq : counted = { s.purgedCounts { c with displaced := min 4294967295 c.displaced } with
        applied := min 4294967295 (c.applied + 1) } := (purgedCounts_with_applied c _).symm
    refine ⟨t, moves, fun some_ended => ?_, fun none_ended => ?_⟩
    · obtain ⟨v, held, is⟩ := some_ended
      rw [roomMade_of_ended full ⟨v, held, (purges_iff v).mpr is⟩] at events_iff counts done
      refine ⟨counts.trans counted_eq.symm, fun v => ?_, ?_⟩
      · rw [events_iff, List.mem_cons, List.mem_filter, Bool.not_eq_true', ← Bool.not_eq_true, purges_iff]
      · rwa [any_purges, service] at done
    · have never : ∀ v ∈ s.gds.events, s.purges v = false := fun v held =>
        Bool.eq_false_iff.mpr fun is => none_ended v held ((purges_iff v).mp is)
      rw [roomMade_of_never full never] at events_iff counts done alike
      have stored := (guideOk_iff.mp ok).2
      refine ⟨fun before => ?_, fun last held latest no_later => ?_⟩
      · rw [evicted_of_last before] at counts done alike
        refine ⟨same.trans (eq_of_perm_of_eventsOk alike.events (guideWork_ordered ok x.key segment start events) stored), ?_, done⟩
        rw [counts, counted_eq, purgedCounts_guideFull]
      · rw [evicted_of_later stored held latest no_later] at events_iff counts done
        refine ⟨fun v => ?_, ?_, by rwa [service] at done⟩
        · rw [events_iff, List.mem_cons, List.mem_filter, decide_eq_true_iff]
        · rw [counts, counted_eq, purgedCounts_evicted]

end Sys2Proof.Machine
end
